-- ==== Sys2Proof/Word.lean ====
section
/-! DEFINITION. The plain words of the HZN-8: bytes, generations, numbers of stations and channels, gains, timers, and the
tables indexed by channel and by station. -/

namespace Sys2Proof

/-- A byte of a frame or of the configuration memory. -/
abbrev Byte := BitVec 8

/-- A scene generation, counted modulo 65536 (R2). -/
abbrev Generation := BitVec 16

/-- A scene digest, a running value modulo 65536 (R3). -/
abbrev Digest := BitVec 16

/-- A cycle number 0 to 255 that follows 255 with 0 (R42). -/
abbrev CycleNumber := BitVec 8

/-- A station number 0 to 15 (00_scope, Conventions). -/
abbrev Station := Fin 16

/-- A channel index 0 to 7 (R57, R110). -/
abbrev Channel := Fin 8

/-- A timer: stopped, or running with so many quarter milliseconds left.
The quarter is the finest step of any duration of the handbook (R42: 0.25 ms). DESIGN CHOICE, log entry 1. -/
abbrev Timer := Option Nat

/-- Quarter milliseconds in `n` ms. -/
def ms (n : Nat) : Nat := 4 * n

/-- A gain: silent, or a level counted in steps of 0.5 dB (00_scope, Gains). -/
inductive Gain where
  | silent
  | level (halfDb : Int)
deriving DecidableEq, Repr

/-- The lowest level a channel can carry, -60.0 dB (00_scope, Gains). -/
def floorLevel : Int := -120

/-- One value for each of the channels 0 to 7. -/
structure PerChannel (α : Type) where
  c0 : α
  c1 : α
  c2 : α
  c3 : α
  c4 : α
  c5 : α
  c6 : α
  c7 : α
deriving DecidableEq, Repr

namespace PerChannel

/-- The same value for every channel. -/
def all {α : Type} (a : α) : PerChannel α := ⟨a, a, a, a, a, a, a, a⟩

/-- The value of channel `n`. -/
def get {α : Type} (p : PerChannel α) (n : Channel) : α :=
  match n with
  | 0 => p.c0
  | 1 => p.c1
  | 2 => p.c2
  | 3 => p.c3
  | 4 => p.c4
  | 5 => p.c5
  | 6 => p.c6
  | 7 => p.c7

/-- The table with channel `n` at `a`. -/
def set {α : Type} (p : PerChannel α) (n : Channel) (a : α) : PerChannel α :=
  match n with
  | 0 => { p with c0 := a }
  | 1 => { p with c1 := a }
  | 2 => { p with c2 := a }
  | 3 => { p with c3 := a }
  | 4 => { p with c4 := a }
  | 5 => { p with c5 := a }
  | 6 => { p with c6 := a }
  | 7 => { p with c7 := a }

/-- The table of `f n` over the channels. -/
def of {α : Type} (f : Channel → α) : PerChannel α := ⟨f 0, f 1, f 2, f 3, f 4, f 5, f 6, f 7⟩

/-- Every value changed by `f`. -/
def map {α β : Type} (f : α → β) (p : PerChannel α) : PerChannel β := of fun n => f (p.get n)

/-- The values in order of channel index. -/
def toList {α : Type} (p : PerChannel α) : List α := [p.c0, p.c1, p.c2, p.c3, p.c4, p.c5, p.c6, p.c7]

end PerChannel

/-- The channels in order of index. -/
def allChannels : List Channel := [0, 1, 2, 3, 4, 5, 6, 7]

/-- One value for each of the station numbers 0 to 15. -/
structure PerStation (α : Type) where
  low : PerChannel α
  high : PerChannel α
deriving DecidableEq, Repr

namespace PerStation

/-- The same value for every station number. -/
def all {α : Type} (a : α) : PerStation α := ⟨PerChannel.all a, PerChannel.all a⟩

/-- The value of station `n`: numbers 0 to 7 stand in the low half, 8 to 15 in the high half. -/
def get {α : Type} (p : PerStation α) (n : Station) : α :=
  if h : n.val < 8 then p.low.get ⟨n.val, h⟩ else p.high.get ⟨n.val - 8, by omega⟩

/-- The table with station `n` at `a`. -/
def set {α : Type} (p : PerStation α) (n : Station) (a : α) : PerStation α :=
  if h : n.val < 8 then { p with low := p.low.set ⟨n.val, h⟩ a }
  else { p with high := p.high.set ⟨n.val - 8, by omega⟩ a }

/-- Every value changed by `f`. -/
def map {α β : Type} (f : α → β) (p : PerStation α) : PerStation β := ⟨p.low.map f, p.high.map f⟩

/-- The values in order of station number. -/
def toList {α : Type} (p : PerStation α) : List α := p.low.toList ++ p.high.toList

end PerStation

/-- The station numbers in order. -/
def allStations : List Station := [0, 1, 2, 3, 4, 5, 6, 7, 8, 9, 10, 11, 12, 13, 14, 15]

end Sys2Proof
end

