-- ==== Sys2Proof/Vocabulary.lean ====
section
/-! DEFINITION. The names the handbook gives things: states, kinds, positions, roles, claims, faults, sections, scenes,
offers, reports, and the frames the part sends. -/

namespace Sys2Proof

/-- What a station says it is (R57). -/
inductive Kind where
  | zone | control | gateway
deriving DecidableEq, Repr

/-- The ten station states (R178). -/
inductive StationState where
  | starting | unconfigured | quiet | railUp | stabilising | ready | railDown | resting | shutdown | conflict
deriving DecidableEq, Repr

/-- The rail sub-state (R178); rail-enable is driven in `rising` and `up`. -/
inductive RailState where
  | off | rising | up | draining
deriving DecidableEq, Repr

/-- The cause of the last loss of service (R178). -/
inductive StopRecord where
  | powerOn | restart | rest | conflict
deriving DecidableEq, Repr

/-- The nine seat positions and the whole-cabin position (R94). -/
inductive Position where
  | frontLeft | frontCentre | frontRight
  | middleLeft | middleCentre | middleRight
  | rearLeft | rearCentre | rearRight
  | cabin
deriving DecidableEq, Repr

/-- The three rows of seats. -/
inductive Row where
  | front | middle | rear
deriving DecidableEq, Repr

/-- The three sides of the cabin. -/
inductive Side where
  | left | centre | right
deriving DecidableEq, Repr

/-- The loudspeaker role of a channel. -/
inductive Role where
  | full | low | high | head
deriving DecidableEq, Repr

/-- The state of a channel's fault record (R148). -/
inductive RecordState where
  | clear | ducking | retryWait | latched | reported
deriving DecidableEq, Repr

/-- The channel faults (R148). -/
inductive ChannelFault where
  | overcurrent | dcOffset | clip
deriving DecidableEq, Repr

/-- The nine station faults (R156). -/
inductive StationFault where
  | thermalWarn | thermalShut | railSag | railLow | railHigh | railFail | eqMemory | configBad | numberConflict
deriving DecidableEq, Repr

/-- One value for each station fault. -/
structure PerFault (α : Type) where
  thermalWarn : α
  thermalShut : α
  railSag : α
  railLow : α
  railHigh : α
  railFail : α
  eqMemory : α
  configBad : α
  numberConflict : α
deriving DecidableEq, Repr

namespace PerFault

/-- The same value for every station fault. -/
def all {α : Type} (a : α) : PerFault α := ⟨a, a, a, a, a, a, a, a, a⟩

/-- The value of fault `f`. -/
def get {α : Type} (p : PerFault α) : StationFault → α
  | .thermalWarn => p.thermalWarn
  | .thermalShut => p.thermalShut
  | .railSag => p.railSag
  | .railLow => p.railLow
  | .railHigh => p.railHigh
  | .railFail => p.railFail
  | .eqMemory => p.eqMemory
  | .configBad => p.configBad
  | .numberConflict => p.numberConflict

/-- The table with fault `f` at `a`. -/
def set {α : Type} (p : PerFault α) (f : StationFault) (a : α) : PerFault α :=
  match f with
  | .thermalWarn => { p with thermalWarn := a }
  | .thermalShut => { p with thermalShut := a }
  | .railSag => { p with railSag := a }
  | .railLow => { p with railLow := a }
  | .railHigh => { p with railHigh := a }
  | .railFail => { p with railFail := a }
  | .eqMemory => { p with eqMemory := a }
  | .configBad => { p with configBad := a }
  | .numberConflict => { p with numberConflict := a }

/-- The table of `f` over the station faults. -/
def of {α : Type} (f : StationFault → α) : PerFault α :=
  ⟨f .thermalWarn, f .thermalShut, f .railSag, f .railLow, f .railHigh, f .railFail, f .eqMemory, f .configBad,
    f .numberConflict⟩

end PerFault

/-- The ten content fields of a scene, in the order of the scene record table (R1). -/
inductive Field where
  | volume | fade | balance | bass | mid | treble | preset | curve | speedStep | cabinMute
deriving DecidableEq, Repr

/-- The content fields in table order. -/
def allFields : List Field :=
  [.volume, .fade, .balance, .bass, .mid, .treble, .preset, .curve, .speedStep, .cabinMute]

/-- One value for each content field. -/
structure PerField (α : Type) where
  volume : α
  fade : α
  balance : α
  bass : α
  mid : α
  treble : α
  preset : α
  curve : α
  speedStep : α
  cabinMute : α
deriving DecidableEq, Repr

namespace PerField

/-- The same value for every field. -/
def all {α : Type} (a : α) : PerField α := ⟨a, a, a, a, a, a, a, a, a, a⟩

/-- The value of field `f`. -/
def get {α : Type} (p : PerField α) : Field → α
  | .volume => p.volume
  | .fade => p.fade
  | .balance => p.balance
  | .bass => p.bass
  | .mid => p.mid
  | .treble => p.treble
  | .preset => p.preset
  | .curve => p.curve
  | .speedStep => p.speedStep
  | .cabinMute => p.cabinMute

/-- The table of `f` over the fields. -/
def of {α : Type} (f : Field → α) : PerField α :=
  ⟨f .volume, f .fade, f .balance, f .bass, f .mid, f .treble, f .preset, f .curve, f .speedStep, f .cabinMute⟩

/-- The values in table order. -/
def toList {α : Type} (p : PerField α) : List α :=
  [p.volume, p.fade, p.balance, p.bass, p.mid, p.treble, p.preset, p.curve, p.speedStep, p.cabinMute]

end PerField

/-- The content of a scene: each field's value in its own units.
Cabin mute is 0 for off and 1 for on, as R177 carries it and R3 counts it. -/
abbrev Content := PerField Int

/-- A scene with a generation: staged, sent or received (R1). -/
structure Scene where
  generation : Generation
  content : Content
  origin : Station
  digest : Digest
deriving DecidableEq, Repr

/-- The applied scene; its generation is absent while the unit is PROVISIONAL (R1, R6). -/
structure AppliedScene where
  generation : Option Generation
  content : Content
  origin : Station
  digest : Digest
deriving DecidableEq, Repr

/-- One held place of the pending change record (R11). -/
structure Entry where
  value : Int
  rank : Nat
  proposer : Station
deriving DecidableEq, Repr

/-- The pending change record: one place for each content field (R11). -/
abbrev PendingRecord := PerField (Option Entry)

/-- The content of an OFFER: base generation, rank as carried, and a value for each field of its present set (R8). -/
structure Offer where
  base : Generation
  rank : Nat
  values : PerField (Option Int)
deriving DecidableEq, Repr

/-- The equaliser fields of a scene (R128). -/
structure Settings where
  preset : Int
  bass : Int
  mid : Int
  treble : Int
deriving DecidableEq, Repr

/-- A filter section with the parameters its type carries (R129): corner in Hz, gain in steps of 0.5 dB,
sharpness in steps of 0.1. -/
inductive Section where
  | pass
  | lowCut (corner sharpness : Int)
  | highCut (corner sharpness : Int)
  | lowShelf (corner gain : Int)
  | highShelf (corner gain : Int)
  | peak (corner gain sharpness : Int)
deriving DecidableEq, Repr, Inhabited

/-- The six sections of a bank, in the order they act (R128, R129). -/
structure Bank where
  s1 : Section
  s2 : Section
  s3 : Section
  s4 : Section
  s5 : Section
  s6 : Section
deriving DecidableEq, Repr, Inhabited

/-- The rate at which a gain moves toward its target (R112). -/
inductive RateClass where
  | scene | protect | release
deriving DecidableEq, Repr

/-- The five silence claims (R115). -/
inductive Claim where
  | provisional | rail | fault | rest | conflict
deriving DecidableEq, Repr

/-- How a claim silences a channel (R115). -/
inductive SilencingKind where
  | hard | soft | duckHold
deriving DecidableEq, Repr

/-- How the claims held act on a channel (R110). -/
inductive Phase where
  | open | fading | dipping | holding | silent
deriving DecidableEq, Repr

/-- The silence-claim set of a channel: each claim absent or held with one kind (R115). -/
structure ClaimSet where
  provisional : Option SilencingKind
  rail : Option SilencingKind
  fault : Option SilencingKind
  rest : Option SilencingKind
  conflict : Option SilencingKind
deriving DecidableEq, Repr

namespace ClaimSet

/-- The set that holds no claim. -/
def empty : ClaimSet := ⟨none, none, none, none, none⟩

/-- The kind under which claim `c` is held. -/
def get (k : ClaimSet) : Claim → Option SilencingKind
  | .provisional => k.provisional
  | .rail => k.rail
  | .fault => k.fault
  | .rest => k.rest
  | .conflict => k.conflict

/-- The set with claim `c` held as `v`, or not held. -/
def set (k : ClaimSet) (c : Claim) (v : Option SilencingKind) : ClaimSet :=
  match c with
  | .provisional => { k with provisional := v }
  | .rail => { k with rail := v }
  | .fault => { k with fault := v }
  | .rest => { k with rest := v }
  | .conflict => { k with conflict := v }

end ClaimSet

/-- The states of the Scene Agreement Unit (R16). -/
inductive UnitState where
  | provisional | agreed | resync
deriving DecidableEq, Repr

/-- The states of the speed source (R75). -/
inductive SourceState where
  | noSource | fresh | stale
deriving DecidableEq, Repr

/-- What the desired step does while the source is STALE (R79). -/
inductive StalePolicy where
  | hold | fall | zero
deriving DecidableEq, Repr

/-- How the greatest demand is found (R98). -/
inductive CutMode where
  | coupled | independent
deriving DecidableEq, Repr, Inhabited

/-- The isolation duck state (R102). -/
inductive DuckState where
  | off | waiting | on
deriving DecidableEq, Repr

/-- The preparation state of the Equaliser Bank (R128). -/
inductive PreparationState where
  | idle | preparing | complete
deriving DecidableEq, Repr

/-- The modes of OVERCURRENT (R147). -/
inductive OvercurrentMode where
  | latch | retry | report | ignore
deriving DecidableEq, Repr

/-- The modes of DC_OFFSET (R147). -/
inductive DcOffsetMode where
  | latch | report | ignore
deriving DecidableEq, Repr

/-- The modes of CLIP and of THERMAL_WARN (R147). -/
inductive LimitMode where
  | limit | report | ignore
deriving DecidableEq, Repr

/-- The modes of RAIL_HIGH (R147). -/
inductive RailHighMode where
  | enable | ignore
deriving DecidableEq, Repr

/-- A peer's roster descriptor as PRESENCE carries it (R57). -/
structure PeerDescriptor where
  channel : Channel
  position : Position
  role : Role
deriving DecidableEq, Repr

/-- What a PRESENCE reports, in the types its fields have once R59 has passed it; the own PRESENCE carries the same (R54). -/
structure Report where
  kind : Kind
  state : StationState
  applied : Option (Generation × Digest)
  staged : Option Generation
  demand : Nat
  records : PerChannel RecordState
  faults : PerFault Bool
  roster : List PeerDescriptor
deriving DecidableEq, Repr

/-- How well a reporting peer is heard (R57). -/
inductive Liveness where
  | active | silent | lost
deriving DecidableEq, Repr

/-- An entry of the Peer Table (R57). Only a reporting peer has fields; its age is counted in quarter milliseconds. -/
inductive PeerEntry where
  | absent
  | self
  | known (life : Liveness) (report : Report) (age : Nat)
deriving DecidableEq, Repr

/-- The fault state an ALERT carries (R160). -/
inductive AlertState where
  | record (state : RecordState)
  | limiting
  | active
deriving DecidableEq, Repr

/-- The fault an ALERT names: a channel fault with its channel, or a station fault with the channel absent (R160). -/
inductive AlertSubject where
  | channel (fault : ChannelFault) (n : Channel)
  | station (fault : StationFault)
deriving DecidableEq, Repr

/-- The content of an ALERT (R160). -/
structure Alert where
  subject : AlertSubject
  state : AlertState
deriving DecidableEq, Repr

/-- The components of a target: the eight terms and the sum before the clamp (R91, R103). -/
structure Components where
  master : Gain
  row : Gain
  side : Gain
  trim : Gain
  lift : Gain
  boost : Gain
  cut : Gain
  duck : Gain
  sum : Gain
deriving DecidableEq, Repr

/-- The item selectors of PROBE (R174); a selector that names no item keeps its code. -/
inductive ItemSelector where
  | sceneApplied | sceneStaged | pending | peer | channel | station | linkCounts | speed | config
  | unknown (code : Nat)
deriving DecidableEq, Repr

/-- The eleven kinds of frame, in the order of their class ranks (R166, R177). -/
inductive FrameKind where
  | mark | alert | offer | scene | speed | fetch | presence | clear | rest | probe | answer
deriving DecidableEq, Repr

end Sys2Proof
end

