-- ==== Sys2Proof/Config.lean ====
section
/-! DEFINITION. What the configuration image fixes for a station, the image as it is read, and the free values that the
handbook leaves open. -/

namespace Sys2Proof

/-- A roster descriptor of the configuration image (R95, R103, R108). Trim and ceiling are in steps of 0.5 dB. -/
structure RosterEntry where
  channel : Channel
  position : Position
  role : Role
  slot : Fin 16
  trim : Int
  ceiling : Int
  speedLift : Bool
deriving DecidableEq, Repr

/-- A speed curve (R80); speeds in units of 0.5 km/h. -/
structure Curve where
  low : Nat
  high : Nat
  top : Nat
  hysteresis : Nat
deriving DecidableEq, Repr

/-- One preset of the library: a list of up to three sections for each role (R130). -/
structure Preset where
  full : List Section
  low : List Section
  high : List Section
  head : List Section
deriving DecidableEq, Repr

/-- The fields of the image that the Protection Monitor takes (R147). Rail thresholds in steps of 0.1 V. -/
structure ProtectionConfig where
  overcurrentMode : OvercurrentMode
  overcurrentKind : SilencingKind
  dcOffsetMode : DcOffsetMode
  dcOffsetKind : SilencingKind
  clipMode : LimitMode
  warnMode : LimitMode
  railHighMode : RailHighMode
  offsetThreshold : Int
  warnThreshold : Int
  shutThreshold : Int
  lowThreshold : Int
  sagThreshold : Int
  highThreshold : Int
deriving DecidableEq, Repr

/-- The configuration image as the blocks use it, after its check.
The cut mode is absent in the image of an unconfigured station: R92 has such a station keep its cabin cut up to date and
no rule gives it a cut mode (log entry 9). -/
structure Image where
  roster : List RosterEntry
  startScene : Content
  curve1 : Curve
  curve2 : Curve
  curve3 : Curve
  stalePolicy : StalePolicy
  minimumChange : Nat
  gapBoost : Int
  cutMode : Option CutMode
  duckHold : Nat
  presets : List Preset
  protection : ProtectionConfig
deriving DecidableEq, Repr

/-- The unconfigured content of R5. -/
def unconfiguredContent : Content :=
  { volume := 0, fade := 0, balance := 0, bass := 0, mid := 0, treble := 0, preset := 0, curve := 0, speedStep := 0,
    cabinMute := 1 }

/-- What the blocks hold when no image has passed its check: an empty roster and the unconfigured content (R5, R179).
The other fields are read by nothing in that case: no roster channel, no curve but 0, no judged condition (log entry 9). -/
def Image.unconfigured : Image :=
  { roster := [], startScene := unconfiguredContent,
    curve1 := ⟨0, 1, 1, 0⟩, curve2 := ⟨0, 1, 1, 0⟩, curve3 := ⟨0, 1, 1, 0⟩,
    stalePolicy := .hold, minimumChange := 1, gapBoost := 0, cutMode := none, duckHold := 0, presets := [],
    protection :=
      { overcurrentMode := .ignore, overcurrentKind := .hard, dcOffsetMode := .ignore, dcOffsetKind := .hard,
        clipMode := .ignore, warnMode := .ignore, railHighMode := .ignore, offsetThreshold := 10, warnThreshold := 40,
        shutThreshold := 50, lowThreshold := 60, sagThreshold := 70, highThreshold := 80 } }

/-- A section's type code as an image may hold it. -/
inductive SectionType where
  | pass | lowCut | highCut | lowShelf | highShelf | peak
deriving DecidableEq, Repr

/-- A section as the image holds it, before its check: an unknown type is `none`, a parameter may be missing (R130). -/
structure RawSection where
  type : Option SectionType
  corner : Option Int
  gain : Option Int
  sharpness : Option Int
deriving DecidableEq, Repr

/-- A preset as the image holds it. -/
structure RawPreset where
  full : List RawSection
  low : List RawSection
  high : List RawSection
  head : List RawSection
deriving DecidableEq, Repr

/-- A roster descriptor as the image holds it; `none` is a code that names no value (R108). -/
structure RawRosterEntry where
  channel : Nat
  position : Option Position
  role : Option Role
  slot : Nat
  trim : Int
  ceiling : Int
  speedLift : Option Bool
deriving DecidableEq, Repr

/-- The fields of R147 as the image holds them. -/
structure RawProtection where
  overcurrentMode : Option OvercurrentMode
  overcurrentKind : Option SilencingKind
  dcOffsetMode : Option DcOffsetMode
  dcOffsetKind : Option SilencingKind
  clipMode : Option LimitMode
  warnMode : Option LimitMode
  railHighMode : Option RailHighMode
  offsetThreshold : Int
  warnThreshold : Int
  shutThreshold : Int
  lowThreshold : Int
  sagThreshold : Int
  highThreshold : Int
deriving DecidableEq, Repr

/-- The fields of the configuration image as read, before the check of R179. The handbook gives no byte layout of them
(log entry 6). -/
structure RawImage where
  version : Nat
  stationNumber : Nat
  roster : List RawRosterEntry
  startScene : Content
  curve1 : Curve
  curve2 : Curve
  curve3 : Curve
  stalePolicy : Option StalePolicy
  minimumChange : Nat
  gapBoost : Int
  cutMode : Option CutMode
  duckHold : Nat
  presets : List RawPreset
  protection : RawProtection
deriving DecidableEq, Repr

/-- What the Start Loader gets from the configuration memory: nothing, or its bytes with the fields they hold (R179). -/
inductive ImageRead where
  | unreadable
  | read (bytes : List Byte) (fields : RawImage)
deriving DecidableEq, Repr

/-- FREE VALUE, log entry 9: the cut mode of a station whose image failed its check, one for each failed check. -/
opaque Config.unconfiguredCutMode : Nat → CutMode

/-- FREE VALUE, log entry 10: what the active bank of a channel holds after a failed self-test, one for each failure
(R133: the contents of every active and shadow bank are lost). -/
opaque Config.lostBank : Nat → Channel → Bank

end Sys2Proof
end

