-- ==== Sys2Proof/Syntax.lean ====
section
/-! DEFINITION. The commands of the block: one constructor of `Instr` for each row of spec/opcode_table.json, with the
operands that the rules give the frame or the input behind it. -/

namespace Sys2Proof

/-- A frame received with a good check: its sender, and whether a wake from RESTING that it causes is taken before the
frame's own handling (R17, R50, R66, R174 leave that order to the world; log entry 4). -/
structure Reception where
  sender : Station
  wakeFirst : Bool
deriving DecidableEq, Repr

/-- Whether the Gain Planner takes a mark event before or after the scene applied notice of the same mark (R106). -/
inductive PlannerTurn where
  | markFirst | sceneFirst
deriving DecidableEq, Repr

/-- Whether the Equaliser Bank takes a mark event before, between or after the scene applied and scene staged notices of
the same mark (R139). -/
inductive BankTurn where
  | markFirst | markBetween | markLast
deriving DecidableEq, Repr

/-- The order, left to the world by R48, in which the blocks meet one mark event and the notices it leads to. -/
structure MarkOrder where
  planner : PlannerTurn
  bank : BankTurn
deriving DecidableEq, Repr

/-- A roster descriptor as a received PRESENCE carries it, codes not judged yet (R59, R177). -/
structure RawPeerDescriptor where
  channel : Nat
  position : Nat
  role : Nat
deriving DecidableEq, Repr

/-- The fields of a received PRESENCE as carried (R177); R59 judges them. -/
structure PresenceFrame where
  kind : Nat
  state : Nat
  appliedGeneration : Option Generation
  appliedDigest : Option Digest
  staged : Option Generation
  demand : Nat
  records : PerChannel Nat
  faults : PerFault Bool
  roster : List RawPeerDescriptor
deriving DecidableEq, Repr

/-- The named fields of a PROBE other than its selector (R174). -/
structure Probe where
  target : Nat
  tag : Nat
  index : Nat
deriving DecidableEq, Repr

/-- The commands (opcode_table.json), in the table's order. -/
inductive Instr where
  | powerOn
  | startComplete (straps : Station) (image : ImageRead) (selfTest : Bool)
  | markReceived (rx : Reception) (cycle : CycleNumber) (order : MarkOrder)
  | alertReceived (rx : Reception)
  | offerReceived (rx : Reception) (offer : Offer)
  | sceneReceived (rx : Reception) (scene : Scene)
  | speedReceived (rx : Reception) (speed : Nat) (valid : Bool)
  | fetchReceived (rx : Reception) (wanted : Option Generation)
  | presenceReceived (rx : Reception) (frame : PresenceFrame)
  | clearFaults (rx : Reception) (target : Nat) (channels : PerChannel Bool)
  | clearSticky (rx : Reception) (target : Nat) (kinds : PerFault Bool)
  | clearCounts (rx : Reception) (target : Nat)
  | restart (rx : Reception) (target : Nat)
  | restReceived (rx : Reception) (wakeAsserted : Bool)
  | probeSceneApplied (rx : Reception) (probe : Probe)
  | probeSceneStaged (rx : Reception) (probe : Probe)
  | probePending (rx : Reception) (probe : Probe)
  | probePeer (rx : Reception) (probe : Probe)
  | probeChannel (rx : Reception) (probe : Probe)
  | probeStation (rx : Reception) (probe : Probe) (wakeAsserted : Bool)
  | probeLinkCounts (rx : Reception) (probe : Probe)
  | probeSpeed (rx : Reception) (probe : Probe)
  | probeConfig (rx : Reception) (probe : Probe)
  | probeUnknownItem (rx : Reception) (probe : Probe) (selector : ItemSelector)
  | answerReceived (rx : Reception)
  | checkError
  | malformedFrame (sender : Station)
  | numberConflict
  | frameStart
  | arbitrationLost
  | ownMarkComplete (acknowledged : Bool) (order : MarkOrder)
  | ownOfferComplete (acknowledged : Bool)
  | ownPresenceComplete (acknowledged : Bool)
  | ownFrameComplete (acknowledged : Bool)
  | lineTimeOut
  | cycleTimerExpiry
  | presenceTimerExpiry
  | joinWindowExpiry
  | fetchTimerExpiry
  | peerSilent (station : Station)
  | peerLost (station : Station)
  | speedStale
  | fallTimerExpiry
  | offerSpacingExpiry
  | settleTimerExpiry
  | duckTimerExpiry
  | isolationTimerExpiry
  | stepTimerExpiry (channel : Channel)
  | duckHoldExpiry (channel : Channel)
  | preparationTimerExpiry
  | senseSlot (reading : Int)
  | overcurrentFlag (channel : Channel)
  | clipFlag (channel : Channel)
  | riseGuardExpiry
  | clipFallTimerExpiry
  | retryTimerExpiry (channel : Channel)
  | budgetTimerExpiry (channel : Channel)
  | railGoodArrival
  | railGoodLoss
  | railGoodTimerExpiry
  | railRetryTimerExpiry
  | stabiliseTimerExpiry
  | downTimerExpiry
  | wakeLineRise
deriving DecidableEq, Repr

end Sys2Proof
end

