-- ==== Sys2Proof/WellFormed.lean ====
section
/-! DEFINITION. Which commands the outside world can send: the operands a frame or an input can carry. -/

namespace Sys2Proof

/-- A value that fits a signed byte, as fade, balance and the tones are carried (R177). -/
def fitsSignedByte (v : Int) : Bool := decide (-128 ≤ v ∧ v ≤ 127)

/-- A value that fits an unsigned byte (R177). -/
def fitsByte (v : Int) : Bool := decide (0 ≤ v ∧ v ≤ 255)

/-- Whether the frame byte of a content field can carry the value (R177). -/
def Field.carries (f : Field) (v : Int) : Bool :=
  match f with
  | .fade | .balance | .bass | .mid | .treble => fitsSignedByte v
  | .volume | .preset | .curve | .speedStep | .cabinMute => fitsByte v

/-- An OFFER that its layout can carry (R177). -/
def Offer.wf (o : Offer) : Bool :=
  decide (o.rank ≤ 255) && allFields.all fun f => match o.values.get f with | none => true | some v => f.carries v

/-- A SCENE that its layout can carry (R177). -/
def Scene.wf (sc : Scene) : Bool := allFields.all fun f => f.carries (sc.content.get f)

/-- A PRESENCE that its layout can carry (R177): byte codes, four-bit channel codes, one presence bit for the applied
generation and its digest. -/
def PresenceFrame.wf (p : PresenceFrame) : Bool :=
  decide (p.kind ≤ 255) && decide (p.state ≤ 255) && (p.appliedGeneration.isSome == p.appliedDigest.isSome) &&
    decide (p.demand ≤ 255) && p.records.toList.all (fun c => decide (c ≤ 15)) && decide (p.roster.length ≤ 255) &&
    p.roster.all fun d => decide (d.channel ≤ 255) && decide (d.position ≤ 15) && decide (d.role ≤ 15)

/-- Target fields name a station 0 to 15, or 16 for all stations (00_scope, Station numbers). -/
def targetWf (target : Nat) : Bool := decide (target ≤ 16)

/-- A selector and index that name no item of R174. -/
def ItemSelector.namesNoItem (sel : ItemSelector) (index : Nat) : Bool :=
  match sel with
  | .unknown _ => true
  | .peer => decide (15 < index)
  | .channel => decide (7 < index)
  | .sceneApplied | .sceneStaged | .pending | .station | .linkCounts | .speed | .config => false

/-- Commands whose operands the frame or input behind them can carry. `exec` is total on every term and gives the same
meaning to the others; statements need no such premise. -/
def Instr.wf : Instr → Bool
  | .offerReceived _ o => o.wf
  | .sceneReceived _ sc => sc.wf
  | .speedReceived _ speed _ => decide (speed ≤ 511)
  | .presenceReceived _ f => f.wf
  | .clearFaults _ target _ | .clearSticky _ target _ | .clearCounts _ target | .restart _ target => targetWf target
  | .probeSceneApplied _ p | .probeSceneStaged _ p | .probePending _ p | .probeStation _ p _ | .probeLinkCounts _ p
  | .probeSpeed _ p | .probeConfig _ p => targetWf p.target
  | .probePeer _ p => targetWf p.target && decide (p.index ≤ 15)
  | .probeChannel _ p => targetWf p.target && decide (p.index ≤ 7)
  | .probeUnknownItem _ p sel => targetWf p.target && sel.namesNoItem p.index
  | .powerOn | .startComplete _ _ _ | .markReceived _ _ _ | .alertReceived _ | .fetchReceived _ _ | .restReceived _ _
  | .answerReceived _ | .checkError | .malformedFrame _ | .numberConflict | .frameStart | .arbitrationLost
  | .ownMarkComplete _ _ | .ownOfferComplete _ | .ownPresenceComplete _ | .ownFrameComplete _ | .lineTimeOut
  | .cycleTimerExpiry | .presenceTimerExpiry | .joinWindowExpiry | .fetchTimerExpiry | .peerSilent _ | .peerLost _
  | .speedStale | .fallTimerExpiry | .offerSpacingExpiry | .settleTimerExpiry | .duckTimerExpiry
  | .isolationTimerExpiry | .stepTimerExpiry _ | .duckHoldExpiry _ | .preparationTimerExpiry | .senseSlot _
  | .overcurrentFlag _ | .clipFlag _ | .riseGuardExpiry | .clipFallTimerExpiry | .retryTimerExpiry _
  | .budgetTimerExpiry _ | .railGoodArrival | .railGoodLoss | .railGoodTimerExpiry | .railRetryTimerExpiry
  | .stabiliseTimerExpiry | .downTimerExpiry | .wakeLineRise => true

end Sys2Proof
end

