-- ==== Sys2Proof/Decode.lean ====
section
/-! DEFINITION. The command that a word spells by the bits of spec/opcode_table.json. No row of the table gives bits, so
no word spells a command; the byte layouts of R177 are read and written in Machine/Layout.lean. -/

namespace Sys2Proof

/-- The command spelled by the low `nbits` bits of `w` under the table's bits: the table gives none. -/
def decodeTableWord (_nbits _w : Nat) : Option Instr := none

end Sys2Proof
end

