-- ==== Sys2Proof/Machine/Frames.lean ====
section
/-! DEFINITION. The frames the part puts in its transmit queue, with the contents an ANSWER carries for each item. -/

namespace Sys2Proof.Machine

/-- The link counters of R171 that are not kept by the Equaliser Bank; each runs from 0 to 65535. -/
structure LinkCounters where
  framesSent : Nat
  notAcknowledged : Nat
  arbitrationLost : Nat
  checkErrors : Nat
  lineTimeOuts : Nat
  queueDrops : Nat
  alertsReceived : Nat
  offersRefused : Nat
  staleOffers : Nat
  failedResyncs : Nat
  restsRefused : Nat
deriving DecidableEq, Repr

/-- Every counter at 0 (R171). -/
def LinkCounters.zero : LinkCounters := ⟨0, 0, 0, 0, 0, 0, 0, 0, 0, 0, 0⟩

/-- Item LINK_COUNTS: the twelve link counters in the order of R171. -/
structure LinkCountsItem where
  framesSent : Nat
  notAcknowledged : Nat
  arbitrationLost : Nat
  checkErrors : Nat
  lineTimeOuts : Nat
  queueDrops : Nat
  alertsReceived : Nat
  offersRefused : Nat
  staleOffers : Nat
  failedResyncs : Nat
  lateSwaps : Nat
  restsRefused : Nat
deriving DecidableEq, Repr

/-- Item PEER n (R73): the age is given in whole ms. -/
inductive PeerItem where
  | self
  | known (life : Liveness) (report : Report) (ageMs : Nat)
deriving DecidableEq, Repr

/-- Item SPEED (R90). -/
structure SpeedItem where
  state : SourceState
  source : Option Station
  lastSpeed : Option Nat
  ageMs : Option Nat
  desiredStep : Nat
deriving DecidableEq, Repr

/-- Item CONFIG (R175), kept by the Start Loader as it reads the image. -/
structure ConfigItem where
  version : Option Nat
  checkGood : Bool
  straps : Station
  imageNumber : Option Nat
deriving DecidableEq, Repr

/-- Where channel n stands in the preparation list (R143). -/
inductive ListStanding where
  | notListed
  | listed
  | inTheMaking
  | shadowComplete
deriving DecidableEq, Repr

/-- A level condition of R145: NORMAL or PRESENT, with a count of consecutive readings. -/
structure Condition where
  present : Bool
  count : Nat
deriving DecidableEq, Repr

/-- Item CHANNEL n (R109, R127, R143, R162, R175). Times left are in whole ms. -/
structure ChannelItem where
  descriptor : Option RosterEntry
  handedTarget : Gain
  handedClass : Option RateClass
  components : Option Components
  currentGain : Gain
  target : Gain
  rateClass : RateClass
  claims : ClaimSet
  phase : Phase
  duckLevel : Option Int
  holdMsLeft : Option Nat
  activeBank : Bank
  shadowBank : Option Bank
  standing : ListStanding
  record : RecordState
  lastFault : Option ChannelFault
  occurrences : Nat
  retriesUsed : Nat
  retryMsLeft : Option Nat
  budgetMsLeft : Option Nat
  offsetReading : Option Int
  offsetCondition : Condition
deriving DecidableEq, Repr

/-- Item STATION (R109, R127, R143, R162, R175, R188). Times left are in whole ms. -/
structure StationItem where
  station : StationState
  rail : RailState
  stop : StopRecord
  wakeLine : Bool
  railGood : Bool
  railGoodMsLeft : Option Nat
  stabiliseMsLeft : Option Nat
  downMsLeft : Option Nat
  railRetryMsLeft : Option Nat
  cabinCut : Nat
  settleRunning : Bool
  fallReady : Bool
  gapSet : List Position
  duckState : DuckState
  allSilent : Bool
  bypass : Bool
  activeSettings : Option Settings
  preparation : PreparationState
  preparedSettings : Option Settings
  preparationList : List Channel
  swapDue : Bool
  faultsActive : PerFault Bool
  faultsSticky : PerFault Bool
  ownDemand : Nat
  clipContribution : Nat
  thermalContribution : Nat
  sagContribution : Nat
  riseGuardRunning : Bool
  clipFallRunning : Bool
  railReading : Option Int
  temperatureReading : Option Int
  thermalWarnCondition : Condition
  thermalShutCondition : Condition
  railSagCondition : Condition
  railLowCondition : Condition
  railHighCondition : Condition
  isolated : Bool
  isolationMsLeft : Option Nat
  conflictReported : Bool
  sendingKind : Option FrameKind
  waitingKinds : List FrameKind
deriving DecidableEq, Repr

/-- The contents an ANSWER carries (R174). -/
inductive AnswerContents where
  | noSuchItem
  | sceneApplied (scene : AppliedScene)
  | sceneStaged (scene : Scene)
  | pending (record : PendingRecord) (leading : Station)
  | peer (item : PeerItem)
  | channel (item : ChannelItem)
  | station (item : StationItem)
  | linkCounts (item : LinkCountsItem)
  | speed (item : SpeedItem)
  | config (item : ConfigItem)
deriving DecidableEq, Repr

/-- An ANSWER: the requester, and the tag, selector and index as the PROBE carried them (R174). -/
structure Answer where
  requester : Station
  tag : Nat
  selector : ItemSelector
  index : Nat
  contents : AnswerContents
deriving DecidableEq, Repr

/-- A frame the blocks give for queueing, with its content (R163, R166). -/
inductive FrameBody where
  | mark (cycle : CycleNumber)
  | alert (alert : Alert)
  | offer (offer : Offer)
  | scene (scene : Scene)
  | fetch (wanted : Option Generation)
  | presence (report : Report)
  | answer (answer : Answer)
deriving DecidableEq, Repr

/-- A waiting frame: its content, its age (an earlier stamp is an older frame, R167), and whether it lost arbitration in
the frame now on the line (R165). -/
structure QueuedFrame where
  body : FrameBody
  stamp : Nat
  lostArbitration : Bool
deriving DecidableEq, Repr

/-- The frame in transmission; `orphan` says that a restart has come since it was started, so that its end moves no block
(R170). -/
structure SendingFrame where
  frame : QueuedFrame
  orphan : Bool
deriving DecidableEq, Repr

end Sys2Proof.Machine
end

