-- ==== Sys2Proof/Machine/Records.lean ====
section
/-! DEFINITION. The rules of 01_cabin_scene_records.md that need no other state: generation order, digest, ranges, the
merge of an offer, the leading proposer, and the content a record stages. -/

namespace Sys2Proof.Machine

/-- A counter that saturates at `top` when counted again (00_scope, Counts). -/
def countUp (top n : Nat) : Nat := if n < top then n + 1 else n

/-- `a` is newer than `b` (R2). -/
def newer (a b : Generation) : Bool := decide (1 ≤ (a - b).toNat ∧ (a - b).toNat ≤ 32767)

/-- `a` is older than `b` (R2). -/
def older (a b : Generation) : Bool := decide (1 ≤ (b - a).toNat ∧ (b - a).toNat ≤ 32767)

/-- The difference is exactly 32768 (R2). -/
def unrelated (a b : Generation) : Bool := decide ((a - b).toNat = 32768)

/-- What is added to a field to map it to a number that is not negative (R3). -/
def digestOffset : Field → Int
  | .fade | .balance => 15
  | .bass | .mid | .treble => 12
  | .volume | .preset | .curve | .speedStep | .cabinMute => 0

/-- One step of the digest's running value (R3). -/
def digestStep (running mapped : Int) : Int := (running * 37 + mapped) % 65536

/-- The digest of a content (R3). -/
def digestOf (c : Content) : Digest :=
  BitVec.ofInt 16 (allFields.foldl (fun r f => digestStep r (c.get f + digestOffset f)) 1)

/-- The least value of a field (R1). -/
def fieldLow : Field → Int
  | .fade | .balance => -15
  | .bass | .mid | .treble => -12
  | .volume | .preset | .curve | .speedStep | .cabinMute => 0

/-- The greatest value of a field (R1). -/
def fieldHigh : Field → Int
  | .volume => 63
  | .fade | .balance => 15
  | .bass | .mid | .treble => 12
  | .preset => 7
  | .curve => 3
  | .speedStep => 24
  | .cabinMute => 1

/-- The value lies in the range of its field (R1). -/
def inRange (f : Field) (v : Int) : Bool := decide (fieldLow f ≤ v ∧ v ≤ fieldHigh f)

/-- Every content field lies within its range (R1). -/
def contentInRange (c : Content) : Bool := allFields.all fun f => inRange f (c.get f)

/-- The check of R9 on an offer: a present set that is not empty, a rank of at most 3, every value in range. -/
def offerPasses (o : Offer) : Bool :=
  (allFields.any fun f => (o.values.get f).isSome) && decide (o.rank ≤ 3) &&
    allFields.all fun f => match o.values.get f with | none => true | some v => inRange f v

/-- The check of R14 on a received SCENE. -/
def scenePasses (sc : Scene) : Bool := contentInRange sc.content && sc.digest == digestOf sc.content

/-- An offered value replaces what a place holds (R12): the place holds nothing, the rank is higher, or the ranks are
equal and the proposer's number is higher. -/
def replaces (rank : Nat) (proposer : Station) : Option Entry → Bool
  | none => true
  | some e => decide (e.rank < rank) || (decide (rank = e.rank) && decide (e.proposer < proposer))

/-- One field of the merge of an offer (R12). -/
def mergeField (o : Offer) (proposer : Station) (p : PendingRecord) (f : Field) : Option Entry :=
  match o.values.get f with
  | none => p.get f
  | some v => if replaces o.rank proposer (p.get f) then some ⟨v, o.rank, proposer⟩ else p.get f

/-- The merge of an accepted offer into the pending change record (R12). -/
def merge (o : Offer) (proposer : Station) (p : PendingRecord) : PendingRecord := .of (mergeField o proposer p)

/-- The pending change record with nothing in each place (R11). -/
def emptyRecord : PendingRecord := .all none

/-- At least one place holds an entry (R11). -/
def recordHeld (p : PendingRecord) : Bool := p.toList.any Option.isSome

/-- The better of two entries for leading proposer: the higher rank, then the higher station number (R13). -/
def leads (a b : Entry) : Bool :=
  decide (b.rank < a.rank) || (decide (a.rank = b.rank) && decide (b.proposer ≤ a.proposer))

/-- The entry that leads a list of places (R13). -/
def leadingEntry : List (Option Entry) → Option Entry
  | [] => none
  | none :: rest => leadingEntry rest
  | some e :: rest =>
    match leadingEntry rest with
    | none => some e
    | some e' => if leads e e' then some e else some e'

/-- The leading proposer of a record; station 0 for an empty one, which no rule asks about (R13). -/
def leadingProposer (p : PendingRecord) : Station :=
  match leadingEntry p.toList with
  | none => 0
  | some e => e.proposer

/-- The record laid over a content: the value of every held place written over the field (R27). -/
def layOver (p : PendingRecord) (c : Content) : Content :=
  .of fun f => match p.get f with | none => c.get f | some e => e.value

/-- The scene that the stage step forms over an applied generation and content (R27). -/
def stagedFrom (p : PendingRecord) (generation : Generation) (c : Content) : Scene :=
  { generation := generation + 1, content := layOver p c, origin := leadingProposer p, digest := digestOf (layOver p c) }

/-- The equaliser fields of a content (R128). -/
def settingsOf (c : Content) : Settings := ⟨c.preset, c.bass, c.mid, c.treble⟩

/-- A staged or received scene taken up as the applied scene with the fields it carries (R19, R26). -/
def asApplied (sc : Scene) : AppliedScene :=
  { generation := some sc.generation, content := sc.content, origin := sc.origin, digest := sc.digest }

/-- An applied scene made of a content, with its digest computed afresh (R4, R6, R21). -/
def formApplied (generation : Option Generation) (c : Content) (own : Station) : AppliedScene :=
  { generation := generation, content := c, origin := own, digest := digestOf c }

end Sys2Proof.Machine
end

