-- ==== Sys2Proof/Machine/State.lean ====
section
/-! DEFINITION. The state of the HZN-8, block by block, with the values each block takes at power-on; the reasons a step
could stop. -/

namespace Sys2Proof.Machine

/-- The start loader and the straps (R179). -/
structure Loader where
  image : Image
  item : ConfigItem
  /-- The station number in use (R179). -/
  own : Station
  /-- The STARTING in progress is a fresh start from CONFLICT (R186). -/
  freshStart : Bool
deriving DecidableEq, Repr

/-- The loader before it has read anything. DESIGN CHOICE, log entry 7. -/
def Loader.reset : Loader :=
  { image := Image.unconfigured, item := ⟨none, false, 0, none⟩, own := 0, freshStart := false }

/-- The Link Controller (R163 to R173). -/
structure Link where
  waiting : List QueuedFrame
  sending : Option SendingFrame
  nextStamp : Nat
  counters : LinkCounters
  isolated : Bool
  isolationTimer : Timer
  conflictReported : Bool
  /-- The level this station drove in the last acknowledge slot it received (log entry 29). -/
  acknowledging : Bool
deriving DecidableEq, Repr

/-- The Link Controller after power-on (R170 to R172). -/
def Link.reset : Link :=
  { waiting := [], sending := none, nextStamp := 0, counters := .zero, isolated := false,
    isolationTimer := some (ms 200), conflictReported := false, acknowledging := false }

/-- The cycle timer (R42). -/
inductive CycleTimerState where
  | stopped
  | running (left : Nat)
  | markQueued
deriving DecidableEq, Repr

/-- The presence timer (R51). -/
inductive PresenceTimerState where
  | stopped
  | running (left : Nat)
  | presenceQueued
deriving DecidableEq, Repr

/-- The Cycle Timer (R42, R51). -/
structure CycleUnit where
  number : CycleNumber
  cycle : CycleTimerState
  presence : PresenceTimerState
deriving DecidableEq, Repr

/-- The Cycle Timer after power-on (R42, R51). -/
def CycleUnit.reset : CycleUnit := { number := 0, cycle := .stopped, presence := .stopped }

/-- The Peer Table (R57, R66). -/
structure PeerTable where
  entries : PerStation PeerEntry
  emptyingDue : Bool
deriving DecidableEq, Repr

/-- The Peer Table after power-on (R58). -/
def PeerTable.reset : PeerTable := { entries := .all .absent, emptyingDue := false }

/-- The fetch state in RESYNC (R16). -/
structure FetchState where
  wanted : Generation
  attempts : Nat
  timer : Nat
deriving DecidableEq, Repr

/-- The Scene Agreement Unit (R16) with its three records (R6, R7, R11). -/
structure SceneUnit where
  unit : UnitState
  applied : AppliedScene
  staged : Option Scene
  pending : PendingRecord
  joinWindow : Timer
  fetch : Option FetchState
  conflict : Option Generation
deriving DecidableEq, Repr

/-- The Scene Agreement Unit after power-on, its applied scene made of `c` (R6, R7, R11, R16). -/
def SceneUnit.resetWith (c : Content) (own : Station) : SceneUnit :=
  { unit := .provisional, applied := formApplied none c own, staged := none, pending := emptyRecord, joinWindow := none,
    fetch := none, conflict := none }

/-- The speed source record (R75); the age is counted in quarter milliseconds. -/
structure SpeedSource where
  station : Station
  lastSpeed : Nat
  age : Nat
deriving DecidableEq, Repr

/-- The Speed Compensation Unit (R75). -/
structure SpeedUnit where
  source : Option SpeedSource
  state : SourceState
  desired : Nat
  fallTimer : Timer
  spacingTimer : Timer
  offerWaiting : Bool
deriving DecidableEq, Repr

/-- The Speed Compensation Unit after power-on (R75). -/
def SpeedUnit.reset : SpeedUnit :=
  { source := none, state := .noSource, desired := 0, fallTimer := none, spacingTimer := none, offerWaiting := false }

/-- What the Gain Planner holds for one channel (R91). -/
structure PlannedChannel where
  handedTarget : Gain
  handedClass : Option RateClass
  components : Option Components
deriving DecidableEq, Repr

/-- The Gain Planner (R91). -/
structure Planner where
  channels : PerChannel PlannedChannel
  gapSet : List Position
  gapReview : Bool
  cut : Nat
  settleTimer : Timer
  fallReady : Bool
  duck : DuckState
  duckTimer : Timer
deriving DecidableEq, Repr

/-- The Gain Planner after power-on (R91). -/
def Planner.reset : Planner :=
  { channels := .all ⟨.silent, none, none⟩, gapSet := [], gapReview := false, cut := 0, settleTimer := none,
    fallReady := false, duck := .off, duckTimer := none }

/-- A channel record of the Ramp Engine (R110). -/
structure RampRecord where
  currentGain : Gain
  target : Gain
  rateClass : RateClass
  stepTimer : Timer
  claims : ClaimSet
  phase : Phase
  duckLevel : Option Int
  holdTimer : Timer
deriving DecidableEq, Repr

/-- A channel record after power-on (R110): RAIL and PROVISIONAL held, both HARD. -/
def RampRecord.reset : RampRecord :=
  { currentGain := .silent, target := .silent, rateClass := .scene, stepTimer := none,
    claims := { ClaimSet.empty with rail := some .hard, provisional := some .hard },
    phase := .silent, duckLevel := none, holdTimer := none }

/-- The Equaliser Bank (R128). -/
structure Equaliser where
  active : PerChannel Bank
  shadow : PerChannel (Option Bank)
  bypass : Bool
  activeSettings : Option Settings
  state : PreparationState
  prepared : Option Settings
  list : List Channel
  position : Option Channel
  timer : Timer
  swapDue : Bool
  lateSwaps : Nat
deriving DecidableEq, Repr

/-- A bank of six PASS sections (R128). -/
def passBank : Bank := ⟨.pass, .pass, .pass, .pass, .pass, .pass⟩

/-- The Equaliser Bank after power-on (R128). -/
def Equaliser.reset : Equaliser :=
  { active := .all passBank, shadow := .all none, bypass := false, activeSettings := none, state := .idle,
    prepared := none, list := [], position := none, timer := none, swapDue := false, lateSwaps := 0 }

/-- A channel fault record (R148). -/
structure FaultRecord where
  state : RecordState
  lastFault : Option ChannelFault
  occurrences : Nat
  retriesUsed : Nat
  retryTimer : Timer
  budgetTimer : Timer
deriving DecidableEq, Repr

/-- A fault record after power-on (R148). -/
def FaultRecord.reset : FaultRecord :=
  { state := .clear, lastFault := none, occurrences := 0, retriesUsed := 0, retryTimer := none, budgetTimer := none }

/-- The level conditions (R145). -/
structure Conditions where
  thermalWarn : Condition
  thermalShut : Condition
  railSag : Condition
  railLow : Condition
  railHigh : Condition
  offset : PerChannel Condition
deriving DecidableEq, Repr

/-- NORMAL with count 0 (R145). -/
def Condition.normal : Condition := ⟨false, 0⟩

/-- The latest readings (R144): rail in 0.1 V, temperature in °C, offsets in mV. -/
structure Readings where
  rail : Option Int
  temperature : Option Int
  offset : PerChannel (Option Int)
deriving DecidableEq, Repr

/-- The Protection Monitor (R144 to R156). -/
structure Protection where
  scan : Option (Fin 10)
  readings : Readings
  conditions : Conditions
  records : PerChannel FaultRecord
  clip : Nat
  riseGuard : Timer
  clipFall : Timer
  active : PerFault Bool
  sticky : PerFault Bool
deriving DecidableEq, Repr

/-- The Protection Monitor after power-on (R144, R145, R148, R154, R156). -/
def Protection.reset : Protection :=
  { scan := none, readings := ⟨none, none, .all none⟩,
    conditions := ⟨.normal, .normal, .normal, .normal, .normal, .all .normal⟩,
    records := .all .reset, clip := 0, riseGuard := none, clipFall := none, active := .all false, sticky := .all false }

/-- The Station Controller (R178). -/
structure Controller where
  station : StationState
  rail : RailState
  railGoodTimer : Timer
  stabiliseTimer : Timer
  downTimer : Timer
  railRetryTimer : Timer
  stop : StopRecord
deriving DecidableEq, Repr

/-- The Station Controller after power-on or restart, with the stop record each leaves (R178). -/
def Controller.resetWith (stop : StopRecord) : Controller :=
  { station := .starting, rail := .off, railGoodTimer := none, stabiliseTimer := none, downTimer := none,
    railRetryTimer := none, stop := stop }

/-- The levels of the two input lines the controller reads (R188). -/
structure Pins where
  wakeLine : Bool
  railGood : Bool
deriving DecidableEq, Repr

/-- The reasons a step could stop with a fault: none. The spec gives every command of the table an effect, so no meaning
raises a fault (safe: there is nothing to raise). -/
inductive Fault where
deriving DecidableEq, Repr

/-- The reasons a step could refuse a command. -/
inductive Refusal where
  /-- Raised by the dispatch alone, for a command that has no meaning yet; safe, since the model then says nothing. -/
  | notModelled (mnemonic : String)
deriving DecidableEq, Repr

/-- The state of the block, and the queue of commands that wait. -/
structure State where
  pending : List Instr
  pins : Pins
  loader : Loader
  link : Link
  cycle : CycleUnit
  peers : PeerTable
  scene : SceneUnit
  speed : SpeedUnit
  planner : Planner
  ramps : PerChannel RampRecord
  equaliser : Equaliser
  protection : Protection
  controller : Controller
  /-- The model's own count of the free values drawn so far (log entries 9 and 10). -/
  draws : Nat
deriving DecidableEq, Repr

/-- Every block at its power-on value; the pins, the queue and the count of draws stay. -/
def State.powerOnBlocks (s : State) : State :=
  { s with
    loader := .reset, link := .reset, cycle := .reset, peers := .reset,
    scene := .resetWith unconfiguredContent 0, speed := .reset, planner := .reset, ramps := .all .reset,
    equaliser := .reset, protection := .reset, controller := .resetWith .powerOn }

/-- The machine right after power-on (R178 and the reset rules of each block). The pins' levels are the model's choice,
log entry 7. -/
def State.reset : State :=
  { pending := [], pins := ⟨false, false⟩,
    loader := .reset, link := .reset, cycle := .reset, peers := .reset,
    scene := .resetWith unconfiguredContent 0, speed := .reset, planner := .reset, ramps := .all .reset,
    equaliser := .reset, protection := .reset, controller := .resetWith .powerOn, draws := 0 }

end Sys2Proof.Machine
end

