-- ==== Sys2Proof/Machine/Queue.lean ====
section
/-! DEFINITION. The transmit queue of the Link Controller (R163, R167 to R170). -/

namespace Sys2Proof.Machine

/-- The kind of a frame. -/
def FrameBody.kind : FrameBody → FrameKind
  | .mark _ => .mark
  | .alert _ => .alert
  | .offer _ => .offer
  | .scene _ => .scene
  | .fetch _ => .fetch
  | .presence _ => .presence
  | .answer _ => .answer

/-- The class rank of a kind (R177). -/
def classRank : FrameKind → Nat
  | .mark => 0
  | .alert => 1
  | .offer => 2
  | .scene => 3
  | .speed => 4
  | .fetch => 5
  | .presence => 6
  | .clear => 7
  | .rest => 8
  | .probe => 9
  | .answer => 10

/-- The kind of a class rank; 11 to 15 name none (R164, R177). -/
def kindOfRank : Nat → Option FrameKind
  | 0 => some .mark
  | 1 => some .alert
  | 2 => some .offer
  | 3 => some .scene
  | 4 => some .speed
  | 5 => some .fetch
  | 6 => some .presence
  | 7 => some .clear
  | 8 => some .rest
  | 9 => some .probe
  | 10 => some .answer
  | _ => none

/-- The class rank of a frame; every own frame carries the own number, so this is the order of keys (R167). -/
def FrameBody.rank (b : FrameBody) : Nat := classRank b.kind

/-- The content of the frame in transmission, which keeps its place until it ends (R167). -/
def Link.sendingBody (l : Link) : Option FrameBody :=
  match l.sending with
  | none => none
  | some f => some f.frame.body

/-- The places held: the waiting frames and the frame in transmission (R167). -/
def Link.placesHeld (l : Link) : Nat := l.waiting.length + if l.sending.isSome then 1 else 0

/-- The ANSWERs held, the one in transmission included (R168). -/
def Link.answersHeld (l : Link) : Nat :=
  (l.waiting.filter fun f => f.body.kind = .answer).length +
    match l.sendingBody with
    | some b => if b.kind = .answer then 1 else 0
    | none => 0

/-- Both are MARKs, or both PRESENCEs: of either kind the queue never holds two that wait (R167). -/
def FrameBody.sharesPlace (a b : FrameBody) : Bool :=
  match a, b with
  | .mark _, .mark _ => true
  | .presence _, .presence _ => true
  | _, _ => false

/-- A waiting frame that the new one replaces in place (R167, first three cases). A MARK meets a waiting one only when the latter was
in transmission on entering RESTING and has dropped out after the wake; that it then replaces it is the model's choice (log entry
45). -/
def replacedBy (new old : FrameBody) : Bool :=
  match new, old with
  | .mark _, .mark _ => true
  | .presence _, .presence _ => true
  | .scene a, .scene b => decide (a.generation = b.generation)
  | .alert a, .alert b => decide (a.subject = b.subject)
  | _, _ => false

/-- The first waiting frame that the new one replaces takes its content and keeps its age (R167). That it also keeps the mark
of an arbitration lost in the frame now on the line, so that a line time-out abandons it (R165), is the model's choice (log
entry 39). So is which of two waiting ALERTs of one fault and channel a third replaces, where one was queued while the other, which
then lost arbitration, was sent: the first in the queue, the older (log entry 44). -/
def replaceIn (new : FrameBody) : List QueuedFrame → Option (List QueuedFrame)
  | [] => none
  | f :: rest =>
    if replacedBy new f.body then some ({ f with body := new } :: rest)
    else
      match replaceIn new rest with
      | none => none
      | some rest' => some (f :: rest')

/-- `a` stands before `b`: a lower key, or an equal key and an older frame (R167). -/
def standsBefore (a b : QueuedFrame) : Bool :=
  decide (a.body.rank < b.body.rank) || (decide (a.body.rank = b.body.rank) && decide (a.stamp < b.stamp))

/-- The frame takes a place at its position in the order (R167). -/
def insertFrame (f : QueuedFrame) : List QueuedFrame → List QueuedFrame
  | [] => [f]
  | g :: rest => if standsBefore g f then g :: insertFrame f rest else f :: g :: rest

/-- The youngest waiting frame whose key is higher than `rank` (R168). -/
def youngestAbove (rank : Nat) : List QueuedFrame → Option QueuedFrame
  | [] => none
  | f :: rest =>
    match youngestAbove rank rest with
    | none => if rank < f.body.rank then some f else none
    | some g => if rank < f.body.rank ∧ g.stamp < f.stamp then some f else some g

/-- A SCENE of the same generation is in transmission (R167, fourth case). -/
def sceneInTransmission (new : FrameBody) (l : Link) : Option Scene :=
  match new, l.sendingBody with
  | .scene a, some (.scene b) => if a.generation = b.generation then some b else none
  | _, _ => none

/-- One more queue drop (R171). -/
def Link.countDrop (l : Link) : Link :=
  { l with counters := { l.counters with queueDrops := countUp 65535 l.counters.queueDrops } }

/-- The queue with the new frame at its position, the youngest frame given so far. -/
def Link.insert (new : FrameBody) (l : Link) : Link :=
  { l with waiting := insertFrame ⟨new, l.nextStamp, false⟩ l.waiting, nextStamp := l.nextStamp + 1 }

/-- A frame given for queueing (R167, R168, R170): the queue it leaves, and the frame that has ended by it, if any (the
new frame when it is not admitted, or the frame it displaces). `admits` says whether the station state admits frames. -/
def Link.give (admits : Bool) (new : FrameBody) (l : Link) : Link × Option FrameBody :=
  if !admits then (l, some new)
  else
    match replaceIn new l.waiting with
    | some waiting => ({ l with waiting := waiting }, none)
    | none =>
      match new, sceneInTransmission new l with
      | .scene a, some b => (if a.digest = b.digest then l else l.countDrop, none)
      | _, _ =>
        if l.placesHeld < 8 then (l.insert new, none)
        else
          match youngestAbove new.rank l.waiting with
          | some g => (({ l with waiting := l.waiting.erase g }).countDrop.insert new, some g.body)
          | none => (l.countDrop, some new)

/-- The first waiting frame that fits is removed at its block's request, without count (R169). -/
def Link.withdraw (fits : FrameBody → Bool) (l : Link) : Link :=
  { l with waiting := l.waiting.eraseP fun f => fits f.body }

/-- A frame that fits waits in the queue. -/
def Link.waits (fits : FrameBody → Bool) (l : Link) : Bool := l.waiting.any fun f => fits f.body

/-- The frame on the line has ended, so no waiting frame any longer counts as having lost arbitration in it (R165). -/
def Link.lineFrameEnded (l : Link) : Link :=
  { l with waiting := l.waiting.map fun f => { f with lostArbitration := false } }

/-- Tests of a frame's kind, for withdrawal and search. -/
def FrameBody.isMark : FrameBody → Bool
  | .mark _ => true
  | .alert _ | .offer _ | .scene _ | .fetch _ | .presence _ | .answer _ => false

def FrameBody.isOffer : FrameBody → Bool
  | .offer _ => true
  | .mark _ | .alert _ | .scene _ | .fetch _ | .presence _ | .answer _ => false

def FrameBody.isFetch : FrameBody → Bool
  | .fetch _ => true
  | .mark _ | .alert _ | .offer _ | .scene _ | .presence _ | .answer _ => false

def FrameBody.isPresence : FrameBody → Bool
  | .presence _ => true
  | .mark _ | .alert _ | .offer _ | .scene _ | .fetch _ | .answer _ => false

/-- A SCENE of the generation and digest (R32). -/
def FrameBody.isSceneOf (generation : Generation) (digest : Digest) : FrameBody → Bool
  | .scene sc => decide (sc.generation = generation) && decide (sc.digest = digest)
  | .mark _ | .alert _ | .offer _ | .fetch _ | .presence _ | .answer _ => false

/-- The own waiting OFFER has the base generation and speed step of the received one (R88). -/
def FrameBody.isOfferLike (o : Offer) : FrameBody → Bool
  | .offer own =>
    decide (own.base = o.base) && o.values.speedStep.isSome && decide (own.values.speedStep = o.values.speedStep)
  | .mark _ | .alert _ | .scene _ | .fetch _ | .presence _ | .answer _ => false

end Sys2Proof.Machine
end

