-- ==== Sys2Proof/Machine/Sections.lean ====
section
/-! DEFINITION. The Equaliser Bank: a channel's sections, preparation and swap (R131 to R139). -/

namespace Sys2Proof.Machine

/-- The list of a preset for a role (R130). -/
def presetList (p : Preset) : Role → List Section
  | .full => p.full
  | .low => p.low
  | .high => p.high
  | .head => p.head

/-- The bass section (R131). -/
def bassSection (gain : Int) (role : Role) : Section :=
  match role with
  | .full | .low => if gain = 0 then .pass else .lowShelf 100 (2 * gain)
  | .high | .head => .pass

/-- The mid section (R131). -/
def midSection (gain : Int) (role : Role) : Section :=
  match role with
  | .full | .head => if gain = 0 then .pass else .peak 1000 (2 * gain) 10
  | .low | .high => .pass

/-- The treble section (R131). -/
def trebleSection (gain : Int) (role : Role) : Section :=
  match role with
  | .full | .high | .head => if gain = 0 then .pass else .highShelf 8000 (2 * gain)
  | .low => .pass

/-- The six sections that a role takes under a set of settings (R132). -/
def sectionsFor (image : Image) (t : Settings) (role : Role) : Bank :=
  let list := match image.presets[t.preset.toNat]? with
    | none => []
    | some p => presetList p role
  { s1 := list[0]?.getD .pass, s2 := list[1]?.getD .pass, s3 := list[2]?.getD .pass,
    s4 := bassSection t.bass role, s5 := midSection t.mid role, s6 := trebleSection t.treble role }

/-- The roster descriptor of a channel. -/
def descriptorOf (image : Image) (n : Channel) : Option RosterEntry :=
  image.roster.find? fun d => decide (d.channel = n)

/-- The bank channel `n` takes under the settings: PASS throughout for a channel absent from the roster (R128, R134). -/
def bankFor (image : Image) (t : Settings) (n : Channel) : Bank :=
  match descriptorOf image n with
  | none => passBank
  | some d => sectionsFor image t d.role

/-- The roster channels that a set of settings changes, in order (R132, R135). -/
def changedChannels (image : Image) (t : Settings) (active : PerChannel Bank) : List Channel :=
  allChannels.filter fun n => (descriptorOf image n).isSome && decide (bankFor image t n ≠ active.get n)

/-- Preparation is abandoned (R135). -/
def Equaliser.abandon (q : Equaliser) : Equaliser :=
  { q with shadow := .all none, state := .idle, list := [], position := none, prepared := none, timer := none }

/-- Preparation starts afresh for the settings (R135). -/
def Equaliser.prepare (image : Image) (t : Settings) (q : Equaliser) : Equaliser :=
  let list := changedChannels image t q.active
  match list with
  | [] => { q with shadow := .all none, prepared := some t, list := [], position := none, timer := none, state := .complete }
  | n :: _ =>
    { q with shadow := .all none, prepared := some t, list := list, position := some n, timer := some (ms 2),
             state := .preparing }

/-- A scene staged notice (R135, R140). -/
def Equaliser.sceneStaged (image : Image) (t : Settings) (q : Equaliser) : Equaliser :=
  if q.bypass then q
  else if q.activeSettings = some t then q.abandon
  else if q.prepared = some t ∧ q.state ≠ .idle then q
  else q.prepare image t

/-- The preparation timer runs out (R136). -/
def Equaliser.channelPrepared (image : Image) (q : Equaliser) : Equaliser :=
  match q.state, q.timer, q.position, q.prepared with
  | .preparing, some _, some n, some t =>
    let shadow := q.shadow.set n (some (bankFor image t n))
    match q.list.find? fun m => decide (n < m) with
    | some m => { q with shadow := shadow, position := some m, timer := some (ms 2) }
    | none => { q with shadow := shadow, position := none, timer := none, state := .complete }
  | _, _, _, _ => q

/-- The swap of every listed channel at once (R138). -/
def Equaliser.swap (q : Equaliser) : Equaliser :=
  { q.abandon with
    active := .of fun n => if n ∈ q.list then (q.shadow.get n).getD (q.active.get n) else q.active.get n
    activeSettings := q.prepared
    swapDue := false }

/-- A scene applied notice (R137, R140). -/
def Equaliser.sceneApplied (image : Image) (t : Settings) (q : Equaliser) : Equaliser :=
  if q.bypass then q
  else if q.activeSettings = some t then { q.abandon with swapDue := false }
  else if q.state = .complete ∧ q.prepared = some t then q.swap
  else
    let q' := { q with lateSwaps := countUp 65535 q.lateSwaps, swapDue := true }
    if q.state = .preparing ∧ q.prepared = some t then q' else q'.prepare image t

/-- A mark event (R139, R140); `t` holds the equaliser fields of the applied scene as it then stands. -/
def Equaliser.mark (t : Settings) (q : Equaliser) : Equaliser :=
  if ¬q.bypass ∧ q.swapDue ∧ q.state = .complete ∧ q.prepared = some t then q.swap else q

/-- The banks are filled after a self-test that passed (R134). -/
def Equaliser.fill (image : Image) (t : Settings) (q : Equaliser) : Equaliser :=
  { q.abandon with active := .of (bankFor image t), activeSettings := some t, swapDue := false }

/-- A failed self-test (R133, R140): BYPASS is set, the banks' contents are lost. What the active banks then hold is a free
value, and that the active settings stay as they were is the model's choice (log entry 10). -/
def Equaliser.failTest (draw : Nat) (q : Equaliser) : Equaliser :=
  { q.abandon with active := .of (Config.lostBank draw), bypass := true, swapDue := false }

/-- Where channel `n` stands in the preparation list (R143). -/
def Equaliser.standing (q : Equaliser) (n : Channel) : ListStanding :=
  if n ∈ q.list then
    if q.position = some n then .inTheMaking
    else if (q.shadow.get n).isSome then .shadowComplete
    else .listed
  else .notListed

end Sys2Proof.Machine
end

