-- ==== Sys2Proof/Machine/Flags.lean ====
section
/-! DEFINITION. Counters, level conditions, limit demand contributions and the other small computed flags of the blocks. -/

namespace Sys2Proof.Machine

/-- The link counters are counted through one function (R171): each runs to 65535 and saturates. -/
def counted (n : Nat) : Nat := countUp 65535 n

/-- A change of the link counters. -/
def State.count (f : LinkCounters → LinkCounters) (s : State) : State :=
  { s with link := { s.link with counters := f s.link.counters } }

def LinkCounters.addSent (k : LinkCounters) : LinkCounters := { k with framesSent := counted k.framesSent }
def LinkCounters.addNotAcknowledged (k : LinkCounters) : LinkCounters :=
  { k with notAcknowledged := counted k.notAcknowledged }
def LinkCounters.addArbitrationLost (k : LinkCounters) : LinkCounters :=
  { k with arbitrationLost := counted k.arbitrationLost }
def LinkCounters.addCheckError (k : LinkCounters) : LinkCounters := { k with checkErrors := counted k.checkErrors }
def LinkCounters.addLineTimeOut (k : LinkCounters) : LinkCounters := { k with lineTimeOuts := counted k.lineTimeOuts }
def LinkCounters.addQueueDrop (k : LinkCounters) : LinkCounters := { k with queueDrops := counted k.queueDrops }
def LinkCounters.addAlert (k : LinkCounters) : LinkCounters := { k with alertsReceived := counted k.alertsReceived }
def LinkCounters.addOfferRefused (k : LinkCounters) : LinkCounters := { k with offersRefused := counted k.offersRefused }
def LinkCounters.addStaleOffer (k : LinkCounters) : LinkCounters := { k with staleOffers := counted k.staleOffers }
def LinkCounters.addFailedResync (k : LinkCounters) : LinkCounters := { k with failedResyncs := counted k.failedResyncs }
def LinkCounters.addRestRefused (k : LinkCounters) : LinkCounters := { k with restsRefused := counted k.restsRefused }

/-- What one reading does to a level condition. -/
inductive ConditionTurn where
  | unchanged | recognised | cleared
deriving DecidableEq, Repr

/-- One reading handed to a level condition: two consecutive readings past the threshold recognise it, two past the
recovery threshold clear it (R145). -/
def Condition.advance (past recovered : Bool) (c : Condition) : Condition × ConditionTurn :=
  if c.present then
    if recovered then
      if c.count = 0 then (⟨true, 1⟩, .unchanged) else (⟨false, 0⟩, .cleared)
    else (⟨true, 0⟩, .unchanged)
  else
    if past then
      if c.count = 0 then (⟨false, 1⟩, .unchanged) else (⟨true, 0⟩, .recognised)
    else (⟨false, 0⟩, .unchanged)

/-- The station admits frames for queueing (R170). -/
def StationState.admits : StationState → Bool
  | .starting | .resting | .conflict => false
  | .unconfigured | .quiet | .railUp | .stabilising | .ready | .railDown | .shutdown => true

def admitsFrames (s : State) : Bool := StationState.admits s.controller.station

/-- The Link Controller may start a frame (R170). -/
def startsFrames (s : State) : Bool := admitsFrames s && !s.link.conflictReported

/-- The controller drives rail-enable (R178). -/
def railEnable (s : State) : Bool := decide (s.controller.rail = .rising) || decide (s.controller.rail = .up)

/-- The rail window is open (R146). -/
def railWindow (s : State) : Bool :=
  railEnable s &&
    match s.controller.station with
    | .stabilising | .ready | .railDown => true
    | .starting | .unconfigured | .quiet | .railUp | .resting | .shutdown | .conflict => false

/-- The Scene Agreement Unit takes frames, reports and mark events (R17). -/
def unitListens (s : State) : Bool :=
  match s.controller.station with
  | .starting | .unconfigured => false
  | .quiet | .railUp | .stabilising | .ready | .railDown | .resting | .shutdown | .conflict => true

/-- The amplifier flags are taken (R161). -/
def flagsTaken (s : State) : Bool := unitListens s

/-- The own station number in use (R179). -/
def own (s : State) : Station := s.loader.own

/-- The channel is in the roster. -/
def inRoster (s : State) (n : Channel) : Bool := (descriptorOf s.loader.image n).isSome

/-- The all-channels-silent indication (R126). -/
def allSilent (s : State) : Bool :=
  s.loader.image.roster.all fun d => decide ((s.ramps.get d.channel).currentGain = .silent)

/-- The thermal contribution (R155). -/
def thermalContribution (s : State) : Nat :=
  if s.protection.active.thermalWarn && decide (s.loader.image.protection.warnMode = .limit) then 12 else 0

/-- The sag contribution (R155). -/
def sagContribution (s : State) : Nat := if s.protection.active.railSag then 12 else 0

/-- The own limit demand: the sum of the clip, thermal and sag contributions (R155). -/
def ownDemand (s : State) : Nat := s.protection.clip + thermalContribution s + sagContribution s

/-- The counted demand of a Peer Table entry (R57). -/
def countedDemand : PeerEntry → Option Nat
  | .known .lost _ _ => none
  | .known .active r _ => if r.kind = .zone then some r.demand else none
  | .known .silent r _ => if r.kind = .zone then some r.demand else none
  | .absent => none
  | .self => none

/-- The cut mode: the image's, or a free value when no image has passed its check (log entry 9). -/
def cutMode (s : State) : CutMode :=
  match s.loader.image.cutMode with
  | some m => m
  | none => Config.unconfiguredCutMode s.draws

/-- The greatest of a list of demands and one more. -/
def greatestOf (d : Nat) : List PeerEntry → Nat
  | [] => d
  | e :: rest => max ((countedDemand e).getD 0) (greatestOf d rest)

/-- The greatest demand (R98). -/
def greatestDemand (s : State) : Nat :=
  match cutMode s with
  | .coupled => greatestOf (ownDemand s) s.peers.entries.toList
  | .independent => ownDemand s

/-- The channel reason for the FAULT claim (R149). -/
def channelReason (r : FaultRecord) : Bool :=
  match r.state with
  | .ducking | .retryWait | .latched => true
  | .clear | .reported => false

/-- The latest generation: the staged one if a scene is staged, else the applied one (R7). -/
def latestGeneration (s : State) : Option Generation :=
  match s.scene.staged with
  | some sc => some sc.generation
  | none => s.scene.applied.generation

/-- A zone station with a lower number is ACTIVE in the Peer Table (R31, R72). -/
def lowerZoneActive (s : State) : Bool :=
  allStations.any fun n =>
    decide (n < own s) &&
      match s.peers.entries.get n with
      | .known .active r _ => decide (r.kind = .zone)
      | .known .silent _ _ | .known .lost _ _ | .absent | .self => false

/-- The contents of the own PRESENCE (R54). The roster is given in order of channel index. -/
def ownReport (s : State) : Report :=
  { kind := .zone
    state := s.controller.station
    applied := match s.scene.applied.generation with
      | some g => some (g, s.scene.applied.digest)
      | none => none
    staged := match s.scene.staged with
      | some sc => some sc.generation
      | none => none
    demand := ownDemand s
    records := s.protection.records.map FaultRecord.state
    faults := s.protection.active
    roster := allChannels.filterMap fun n =>
      match descriptorOf s.loader.image n with
      | some d => some ⟨d.channel, d.position, d.role⟩
      | none => none }

/-- What a channel's output carries (R111): nothing, or the program of its input slot through its sections at its current
gain. -/
inductive ChannelOutput where
  | nothing
  | program (slot : Fin 16) (sections : Bank) (halfDb : Int)
deriving DecidableEq, Repr

/-- The sections in use on a channel: all PASS while BYPASS is set (R140). -/
def sectionsInUse (s : State) (n : Channel) : Bank := if s.equaliser.bypass then passBank else s.equaliser.active.get n

/-- The output of a channel (R111). -/
def channelOutput (s : State) (n : Channel) : ChannelOutput :=
  match descriptorOf s.loader.image n, (s.ramps.get n).currentGain with
  | some d, .level g => .program d.slot (sectionsInUse s n) g
  | some _, .silent => .nothing
  | none, _ => .nothing

end Sys2Proof.Machine
end

