-- ==== Sys2Proof/Machine/Gains.lean ====
section
/-! DEFINITION. The terms and the clamp of a channel's target, the gapped positions, and the rate class handed
(R93 to R97, R103, R105). -/

namespace Sys2Proof.Machine

/-- The row of a position; CABIN has none (R94). -/
def rowOf : Position → Option Row
  | .frontLeft | .frontCentre | .frontRight => some .front
  | .middleLeft | .middleCentre | .middleRight => some .middle
  | .rearLeft | .rearCentre | .rearRight => some .rear
  | .cabin => none

/-- The side of a position; CABIN has none (R94). -/
def sideOf : Position → Option Side
  | .frontLeft | .middleLeft | .rearLeft => some .left
  | .frontCentre | .middleCentre | .rearCentre => some .centre
  | .frontRight | .middleRight | .rearRight => some .right
  | .cabin => none

/-- The nine seat positions. -/
def seats : List Position :=
  [.frontLeft, .frontCentre, .frontRight, .middleLeft, .middleCentre, .middleRight, .rearLeft, .rearCentre, .rearRight]

/-- The sum of two terms; a silent term makes the sum silent (R103). -/
def plus : Gain → Gain → Gain
  | .level a, .level b => .level (a + b)
  | .silent, _ => .silent
  | .level _, .silent => .silent

/-- The master term (R93), in steps of 0.5 dB. -/
def masterTerm (c : Content) : Gain :=
  if c.cabinMute = 1 ∨ c.volume = 0 then .silent else .level (-2 * (63 - c.volume))

/-- The row term (R94): the row farthest from the one fade favours comes down 2 dB a step, the MIDDLE row 1 dB. -/
def rowTerm (fade : Int) : Option Row → Gain
  | some .front => if fade = -15 then .silent else .level (-4 * max 0 (-fade))
  | some .middle => .level (-2 * (max fade (-fade)))
  | some .rear => if fade = 15 then .silent else .level (-4 * max 0 fade)
  | none => .level 0

/-- The side term (R94). -/
def sideTerm (balance : Int) : Option Side → Gain
  | some .left => if balance = 15 then .silent else .level (-4 * max 0 balance)
  | some .centre => .level (-2 * (max balance (-balance)))
  | some .right => if balance = -15 then .silent else .level (-4 * max 0 (-balance))
  | none => .level 0

/-- The speed lift (R95). -/
def liftTerm (d : RosterEntry) (c : Content) : Int := if d.speedLift then c.speedStep else 0

/-- Two rows stand beside each other (R97). -/
def neighbourRows : Row → Row → Bool
  | .front, .middle | .middle, .front | .middle, .rear | .rear, .middle => true
  | .front, .front | .front, .rear | .middle, .middle | .rear, .rear | .rear, .front => false

/-- Two sides stand beside each other (R97). -/
def neighbourSides : Side → Side → Bool
  | .left, .centre | .centre, .left | .centre, .right | .right, .centre => true
  | .left, .left | .left, .right | .centre, .centre | .right, .right | .right, .left => false

/-- Two positions are adjacent: one row and neighbouring sides, or one side and neighbouring rows (R97). -/
def adjacent (p q : Position) : Bool :=
  match rowOf p, sideOf p, rowOf q, sideOf q with
  | some r, some s, some r', some s' =>
    (decide (r = r') && neighbourSides s s') || (decide (s = s') && neighbourRows r r')
  | _, _, _, _ => false

/-- Roles whose loss gaps a position, and which take a gap boost (R96, R97). -/
def fillsGaps : Role → Bool
  | .full | .high | .head => true
  | .low => false

/-- The gap boost term of a roster channel (R97). -/
def boostTerm (gapBoost : Int) (gapSet : List Position) (d : RosterEntry) : Int :=
  if fillsGaps d.role && gapSet.any (fun p => decide (p = d.position) || adjacent d.position p) then gapBoost else 0

/-- A peer's entry gaps a position (R96): kind ZONE, state LOST, a FULL, HIGH or HEAD loudspeaker there. -/
def entryGaps (p : Position) : PeerEntry → Bool
  | .known .lost report _ =>
    decide (report.kind = .zone) && report.roster.any fun d => decide (d.position = p) && fillsGaps d.role
  | .known .active _ _ | .known .silent _ _ | .absent | .self => false

/-- The set of gapped positions formed from the Peer Table; CABIN is never gapped (R96). -/
def gappedPositions (table : PeerTable) : List Position := seats.filter fun p => table.entries.toList.any (entryGaps p)

/-- The duck term: -12.0 dB while the duck state is ON (R102). -/
def duckTerm : DuckState → Int
  | .on => -24
  | .off | .waiting => 0

/-- The components of a roster channel's target (R91, R103). -/
def componentsFor (image : Image) (p : Planner) (c : Content) (d : RosterEntry) : Components :=
  let master := masterTerm c
  let row := rowTerm c.fade (rowOf d.position)
  let side := sideTerm c.balance (sideOf d.position)
  let trim := Gain.level d.trim
  let lift := Gain.level (liftTerm d c)
  let boost := Gain.level (boostTerm image.gapBoost p.gapSet d)
  let cut := Gain.level (-(p.cut : Int))
  let duck := Gain.level (duckTerm p.duck)
  { master, row, side, trim, lift, boost, cut, duck,
    sum := plus (plus (plus (plus (plus (plus (plus master row) side) trim) lift) boost) cut) duck }

/-- The clamp of R103: held to the ceiling, and silent below -60.0 dB. -/
def clampTarget (ceiling : Int) : Gain → Gain
  | .silent => .silent
  | .level g => if min g ceiling < floorLevel then .silent else .level (min g ceiling)

/-- PROTECT is faster than SCENE, and SCENE than RELEASE (R105). -/
def rateRank : RateClass → Nat
  | .release => 0
  | .scene => 1
  | .protect => 2

/-- The faster of two classes (R105). -/
def fasterRate (a b : RateClass) : RateClass := if rateRank a < rateRank b then b else a

/-- A ramp is in flight: the claim set is empty and the current gain differs from the handed target (R105). -/
def inFlight (r : RampRecord) (handed : Gain) : Bool :=
  decide (r.claims = .empty) && decide (r.currentGain ≠ handed)

/-- The class handed with a new target (R105). -/
def classHanded (cause : RateClass) (r : RampRecord) (p : PlannedChannel) : RateClass :=
  if inFlight r p.handedTarget then
    match p.handedClass with
    | none => cause
    | some held => fasterRate cause held
  else cause

end Sys2Proof.Machine
end

