-- ==== Sys2Proof/Machine/Operands.lean ====
section
/-! DEFINITION. The checks the part makes on what it is given: the codes of R177, the check of R59 on a PRESENCE, the
cyclic check of R177, and the check of R179 on the configuration image. -/

namespace Sys2Proof.Machine

/-- Kind codes (R177). -/
def kindCode : Kind → Nat
  | .zone => 0
  | .control => 1
  | .gateway => 2

def kindOfCode : Nat → Option Kind
  | 0 => some .zone
  | 1 => some .control
  | 2 => some .gateway
  | _ => none

/-- Station state codes (R177). -/
def stationCode : StationState → Nat
  | .starting => 0
  | .unconfigured => 1
  | .quiet => 2
  | .railUp => 3
  | .stabilising => 4
  | .ready => 5
  | .railDown => 6
  | .resting => 7
  | .shutdown => 8
  | .conflict => 9

def stationOfCode : Nat → Option StationState
  | 0 => some .starting
  | 1 => some .unconfigured
  | 2 => some .quiet
  | 3 => some .railUp
  | 4 => some .stabilising
  | 5 => some .ready
  | 6 => some .railDown
  | 7 => some .resting
  | 8 => some .shutdown
  | 9 => some .conflict
  | _ => none

/-- Channel fault state codes (R177). -/
def recordCode : RecordState → Nat
  | .clear => 0
  | .ducking => 1
  | .retryWait => 2
  | .latched => 3
  | .reported => 4

def recordOfCode : Nat → Option RecordState
  | 0 => some .clear
  | 1 => some .ducking
  | 2 => some .retryWait
  | 3 => some .latched
  | 4 => some .reported
  | _ => none

/-- Position codes (R177). -/
def positionCode : Position → Nat
  | .frontLeft => 0
  | .frontCentre => 1
  | .frontRight => 2
  | .middleLeft => 3
  | .middleCentre => 4
  | .middleRight => 5
  | .rearLeft => 6
  | .rearCentre => 7
  | .rearRight => 8
  | .cabin => 9

def positionOfCode : Nat → Option Position
  | 0 => some .frontLeft
  | 1 => some .frontCentre
  | 2 => some .frontRight
  | 3 => some .middleLeft
  | 4 => some .middleCentre
  | 5 => some .middleRight
  | 6 => some .rearLeft
  | 7 => some .rearCentre
  | 8 => some .rearRight
  | 9 => some .cabin
  | _ => none

/-- Role codes (R177). -/
def roleCode : Role → Nat
  | .full => 0
  | .low => 1
  | .high => 2
  | .head => 3

def roleOfCode : Nat → Option Role
  | 0 => some .full
  | 1 => some .low
  | 2 => some .high
  | 3 => some .head
  | _ => none

/-- A channel index of a received descriptor or of the image, 0 to 7. -/
def channelOf (n : Nat) : Option Channel := if h : n < 8 then some ⟨n, h⟩ else none

/-- The elements differ from each other. -/
def allDistinct {α : Type} [DecidableEq α] : List α → Bool
  | [] => true
  | a :: rest => !(rest.contains a) && allDistinct rest

/-- A roster descriptor of a received PRESENCE with a valid channel, position and role (R59). -/
def peerDescriptor (d : RawPeerDescriptor) : Option PeerDescriptor :=
  match channelOf d.channel, positionOfCode d.position, roleOfCode d.role with
  | some channel, some position, some role => some ⟨channel, position, role⟩
  | _, _, _ => none

/-- The roster of a received PRESENCE: at most 8 descriptors, each valid, with channel indices that differ (R59). -/
def peerRoster (l : List RawPeerDescriptor) : Option (List PeerDescriptor) :=
  if l.length ≤ 8 then
    match l.mapM peerDescriptor with
    | some roster => if allDistinct (roster.map PeerDescriptor.channel) then some roster else none
    | none => none
  else none

/-- The applied generation and digest of a received PRESENCE: both or neither (R59). -/
def appliedPair : Option Generation → Option Digest → Option (Option (Generation × Digest))
  | some g, some d => some (some (g, d))
  | none, none => some none
  | some _, none => none
  | none, some _ => none

/-- A staged generation comes only with an applied one, and is newer (R59). -/
def stagedFits (applied : Option (Generation × Digest)) (staged : Option Generation) : Bool :=
  match staged, applied with
  | none, _ => true
  | some _, none => false
  | some g, some (a, _) => newer g a

/-- The channel fault states of a received PRESENCE, each one of the five (R59). -/
def peerRecords (p : PerChannel Nat) : Option (PerChannel RecordState) :=
  match recordOfCode p.c0, recordOfCode p.c1, recordOfCode p.c2, recordOfCode p.c3, recordOfCode p.c4,
    recordOfCode p.c5, recordOfCode p.c6, recordOfCode p.c7 with
  | some a0, some a1, some a2, some a3, some a4, some a5, some a6, some a7 => some ⟨a0, a1, a2, a3, a4, a5, a6, a7⟩
  | _, _, _, _, _, _, _, _ => none

/-- The check of R59: the report of a received PRESENCE, when its contents make sense together. -/
def presenceReport (f : PresenceFrame) : Option Report :=
  match kindOfCode f.kind, stationOfCode f.state, appliedPair f.appliedGeneration f.appliedDigest,
    peerRecords f.records, peerRoster f.roster with
  | some kind, some state, some applied, some records, some roster =>
    if stagedFits applied f.staged && decide (f.demand ≤ 48) && (decide (kind = .zone) || roster.isEmpty) then
      some { kind, state, applied, staged := f.staged, demand := f.demand, records, faults := f.faults, roster }
    else none
  | _, _, _, _, _ => none

/-- One bit of the cyclic check with generator x^16 + x^12 + x^5 + 1 (R177). -/
def crcBit (crc : BitVec 16) (bit : Bool) : BitVec 16 :=
  if (crc.msb ^^ bit) then (crc <<< 1) ^^^ 0x1021#16 else crc <<< 1

/-- The bits of a byte, most significant first (R163). -/
def bitsOf (b : Byte) : List Bool :=
  [b.getLsbD 7, b.getLsbD 6, b.getLsbD 5, b.getLsbD 4, b.getLsbD 3, b.getLsbD 2, b.getLsbD 1, b.getLsbD 0]

/-- One byte of the cyclic check. -/
def crcByte (crc : BitVec 16) (b : Byte) : BitVec 16 := (bitsOf b).foldl crcBit crc

/-- The 16-bit cyclic check of a run of bytes, from a starting value of all ones (R177). -/
def crc16 (bytes : List Byte) : BitVec 16 := bytes.foldl crcByte 0xFFFF#16

/-- The last two bytes, high byte first, equal the check of every byte before them (R177, R179). -/
def endsWithCheck (bytes : List Byte) : Bool :=
  match bytes.drop (bytes.length - 2) with
  | [hi, lo] => decide (2 ≤ bytes.length) && decide (crc16 (bytes.take (bytes.length - 2)) = hi ++ lo)
  | _ => false

/-- A curve within the ranges of R80. -/
def curveInRange (c : Curve) : Bool :=
  decide (c.low ≤ 511) && decide (c.high ≤ 511) && decide (c.low < c.high) && decide (1 ≤ c.top) && decide (c.top ≤ 24) &&
    decide (c.hysteresis ≤ 40)

/-- A corner of 20 to 20000 Hz (R129). -/
def cornerInRange (v : Int) : Bool := decide (20 ≤ v ∧ v ≤ 20000)

/-- A gain of -24.0 to +12.0 dB in steps of 0.5 dB (R129). -/
def gainInRange (v : Int) : Bool := decide (-48 ≤ v ∧ v ≤ 24)

/-- A sharpness of 0.3 to 8.0 in steps of 0.1 (R129). -/
def sharpnessInRange (v : Int) : Bool := decide (3 ≤ v ∧ v ≤ 80)

/-- A section of the image with exactly the parameters its type carries, each in range (R129, R130). -/
def checkSection (s : RawSection) : Option Section :=
  match s.type, s.corner, s.gain, s.sharpness with
  | some .pass, none, none, none => some .pass
  | some .lowCut, some c, none, some q => if cornerInRange c && sharpnessInRange q then some (.lowCut c q) else none
  | some .highCut, some c, none, some q => if cornerInRange c && sharpnessInRange q then some (.highCut c q) else none
  | some .lowShelf, some c, some g, none => if cornerInRange c && gainInRange g then some (.lowShelf c g) else none
  | some .highShelf, some c, some g, none => if cornerInRange c && gainInRange g then some (.highShelf c g) else none
  | some .peak, some c, some g, some q =>
    if cornerInRange c && gainInRange g && sharpnessInRange q then some (.peak c g q) else none
  | _, _, _, _ => none

/-- A list of 0 to 3 valid sections (R130). -/
def checkSections (l : List RawSection) : Option (List Section) :=
  if l.length ≤ 3 then l.mapM checkSection else none

/-- A preset whose four lists pass (R130). -/
def checkPreset (p : RawPreset) : Option Preset :=
  match checkSections p.full, checkSections p.low, checkSections p.high, checkSections p.head with
  | some full, some low, some high, some head => some { full, low, high, head }
  | _, _, _, _ => none

/-- A roster descriptor of the image (R95, R103, R108). -/
def checkRosterEntry (d : RawRosterEntry) : Option RosterEntry :=
  match channelOf d.channel, d.position, d.role, d.speedLift with
  | some channel, some position, some role, some speedLift =>
    if h : d.slot < 16 then
      if -24 ≤ d.trim ∧ d.trim ≤ 12 ∧ 0 ≤ d.ceiling ∧ d.ceiling ≤ 24 then
        some { channel, position, role, slot := ⟨d.slot, h⟩, trim := d.trim, ceiling := d.ceiling, speedLift }
      else none
    else none
  | _, _, _, _ => none

/-- The roster of the image (R108). -/
def checkRoster (l : List RawRosterEntry) : Option (List RosterEntry) :=
  if l.length ≤ 8 then
    match l.mapM checkRosterEntry with
    | some roster => if allDistinct (roster.map RosterEntry.channel) then some roster else none
    | none => none
  else none

/-- The fields of R147 within their values. -/
def checkProtection (p : RawProtection) : Option ProtectionConfig :=
  match p.overcurrentMode, p.overcurrentKind, p.dcOffsetMode, p.dcOffsetKind, p.clipMode, p.warnMode, p.railHighMode with
  | some overcurrentMode, some overcurrentKind, some dcOffsetMode, some dcOffsetKind, some clipMode, some warnMode,
    some railHighMode =>
    if 10 ≤ p.offsetThreshold ∧ p.offsetThreshold ≤ 1000 ∧
        40 ≤ p.warnThreshold ∧ p.warnThreshold ≤ 150 ∧ 40 ≤ p.shutThreshold ∧ p.shutThreshold ≤ 150 ∧
        p.warnThreshold + 10 ≤ p.shutThreshold ∧
        60 ≤ p.lowThreshold ∧ p.lowThreshold ≤ 600 ∧ 60 ≤ p.sagThreshold ∧ p.sagThreshold ≤ 600 ∧
        60 ≤ p.highThreshold ∧ p.highThreshold ≤ 600 ∧
        p.lowThreshold + 10 ≤ p.sagThreshold ∧ p.sagThreshold + 10 ≤ p.highThreshold then
      some
        { overcurrentMode, overcurrentKind, dcOffsetMode, dcOffsetKind, clipMode, warnMode, railHighMode,
          offsetThreshold := p.offsetThreshold, warnThreshold := p.warnThreshold, shutThreshold := p.shutThreshold,
          lowThreshold := p.lowThreshold, sagThreshold := p.sagThreshold, highThreshold := p.highThreshold }
    else none
  | _, _, _, _, _, _, _ => none

/-- The ranges that need no change of type: start scene (R5), curves and minimum change (R80), gap boost (R108), hold time
(R110), eight presets (R130). -/
def plainFieldsInRange (r : RawImage) : Bool :=
  contentInRange r.startScene && curveInRange r.curve1 && curveInRange r.curve2 && curveInRange r.curve3 &&
    decide (1 ≤ r.minimumChange) && decide (r.minimumChange ≤ 4) && decide (0 ≤ r.gapBoost) && decide (r.gapBoost ≤ 12) &&
    decide (r.duckHold ≤ 1000) && decide (r.presets.length = 8)

/-- Every field of the image within its range (R179). -/
def checkFields (r : RawImage) : Option Image :=
  match checkRoster r.roster, r.stalePolicy, r.cutMode, r.presets.mapM checkPreset, checkProtection r.protection with
  | some roster, some stalePolicy, some cutMode, some presets, some protection =>
    if plainFieldsInRange r then
      some
        { roster, startScene := r.startScene, curve1 := r.curve1, curve2 := r.curve2, curve3 := r.curve3, stalePolicy,
          minimumChange := r.minimumChange, gapBoost := r.gapBoost, cutMode := some cutMode, duckHold := r.duckHold,
          presets, protection }
    else none
  | _, _, _, _, _ => none

/-- The image check of R179. `inUse` is the station number in use at a fresh start from CONFLICT, else none. -/
def checkImage (straps : Station) (inUse : Option Station) (read : ImageRead) : Option Image :=
  match read with
  | .unreadable => none
  | .read bytes fields =>
    if endsWithCheck bytes && decide (fields.stationNumber = straps.val) &&
        (match inUse with | none => true | some own => decide (straps = own)) then
      checkFields fields
    else none

/-- What item CONFIG shows of an image (R175): version and number are absent when the memory could not be read. -/
def configItemOf (straps : Station) (read : ImageRead) (good : Bool) : ConfigItem :=
  match read with
  | .unreadable => ⟨none, good, straps, none⟩
  | .read _ fields => ⟨some fields.version, good, straps, some fields.stationNumber⟩

end Sys2Proof.Machine
end

