-- ==== Sys2Proof/Machine/Ramps.lean ====
section
/-! DEFINITION. The Ramp Engine on one channel record: targets, steps, claims and the return from silence (R110 to R125). -/

namespace Sys2Proof.Machine

/-- The step interval of a rate class in quarter milliseconds: 0.5 ms, 2 ms and 25 ms (R112). -/
def stepInterval : RateClass → Nat
  | .protect => 2
  | .scene => 8
  | .release => 100

/-- HARD is stronger than SOFT, and SOFT than DUCK_HOLD (R116). -/
def kindRank : SilencingKind → Nat
  | .duckHold => 0
  | .soft => 1
  | .hard => 2

/-- The channel record falls silent and enters phase SILENT (R117). -/
def RampRecord.fallSilent (r : RampRecord) : RampRecord :=
  { r with currentGain := .silent, phase := .silent, stepTimer := none, duckLevel := none, holdTimer := none }

/-- What an operation leaves: the record, and whether it gives the channel silent notice (R125). -/
structure RampResult where
  record : RampRecord
  notice : Bool
deriving DecidableEq, Repr

/-- The channel became silent between the two records while its set holds FAULT (R125, first case). -/
def silencedUnderFault (before after : RampRecord) : Bool :=
  decide (before.currentGain ≠ .silent) && decide (after.currentGain = .silent) && after.claims.fault.isSome

/-- The result of an operation that took `before` to `after`. -/
def rampResult (before after : RampRecord) : RampResult := ⟨after, silencedUnderFault before after⟩

/-- The duck level taken for a target: 20 dB below it, not below -60.0 dB (R119). -/
def duckLevelFor : Gain → Int
  | .silent => floorLevel
  | .level t => max (t - 40) floorLevel

/-- The channel has come down to its duck level, or a moved level to it: HOLDING for the hold time, or silent at once when that
is 0 ms (R119, R120; log entry 23). -/
def RampRecord.reachDuckLevel (hold : Nat) (r : RampRecord) : RampRecord :=
  if hold = 0 then r.fallSilent else { r with phase := .holding, stepTimer := none, holdTimer := some (ms hold) }

/-- The current gain stands at or below a level; silent is lower than every gain. -/
def atOrBelow (level : Int) : Gain → Bool
  | .silent => true
  | .level g => decide (g ≤ level)

/-- Enter phase FADING (R117, R118). From DIPPING or HOLDING a step timer that runs at the PROTECT interval runs on (log entry 22).
From OPEN it starts for the PROTECT interval: that it starts again where the channel already ramps at PROTECT is the model's choice
(log entry 48). -/
def RampRecord.startFade (r : RampRecord) : RampRecord :=
  if atOrBelow floorLevel r.currentGain then r.fallSilent
  else
    { r with
      phase := .fading, duckLevel := none, holdTimer := none,
      stepTimer := match r.phase with
        | .open => some (stepInterval .protect)
        | _ => some (r.stepTimer.getD (stepInterval .protect)) }

/-- Enter phase DIPPING from OPEN (R117, R119). A channel at or below its duck level enters HOLDING at the gain it has, whatever
the hold time; that a hold of 0 ms then ends with its timer, as any other, is the model's choice (log entry 23). So is that the step
timer starts again where the channel already ramps at PROTECT (log entry 48). -/
def RampRecord.startDip (hold : Nat) (r : RampRecord) : RampRecord :=
  let level := duckLevelFor r.target
  if atOrBelow level r.currentGain then
    { r with phase := .holding, duckLevel := some level, stepTimer := none, holdTimer := some (ms hold) }
  else { r with phase := .dipping, duckLevel := some level, stepTimer := some (stepInterval .protect) }

/-- A claim of kind `k` is engaged on the channel: the table of R117. -/
def RampRecord.engage (hold : Nat) (k : SilencingKind) (r : RampRecord) : RampRecord :=
  match r.phase, k with
  | .silent, _ => r
  | .open, .hard => r.fallSilent
  | .open, .soft => r.startFade
  | .open, .duckHold => if r.currentGain = .silent then r.fallSilent else r.startDip hold
  | .fading, .hard => r.fallSilent
  | .fading, .soft => r
  | .fading, .duckHold => r
  | .dipping, .hard => r.fallSilent
  | .dipping, .soft => r.startFade
  | .dipping, .duckHold => r
  | .holding, .hard => r.fallSilent
  | .holding, .soft => r.startFade
  | .holding, .duckHold => r

/-- A placement of claim `c` with kind `k` joins the set or raises the kind held (R116). -/
def placementEngages (c : Claim) (k : SilencingKind) (r : RampRecord) : Bool :=
  match r.claims.get c with
  | none => true
  | some held => decide (kindRank held < kindRank k)

/-- A block places a claim (R116, R117), with the notices of R125: the channel became silent under FAULT, or FAULT joined
or was raised on a channel already silent. -/
def RampRecord.place (hold : Nat) (c : Claim) (k : SilencingKind) (r : RampRecord) : RampResult :=
  if placementEngages c k r then
    let r' := ({ r with claims := r.claims.set c (some k) }).engage hold k
    ⟨r', silencedUnderFault r r' || (decide (c = .fault) && decide (r.currentGain = .silent))⟩
  else ⟨r, false⟩

/-- What follows when the last claim has gone, by the phase the channel leaves: the table of R123. In every row the rate class
held gives way to SCENE (R121). -/
def RampRecord.leaveSilence (r : RampRecord) : RampRecord :=
  let r' :=
    { r with
      claims := .empty, phase := .open, rateClass := .scene, stepTimer := none, holdTimer := none, duckLevel := none }
  match r.phase, r.target with
  | .silent, .silent => { r' with currentGain := .silent }
  | .silent, .level t =>
    { r' with
      currentGain := .level floorLevel, stepTimer := if t = floorLevel then none else some (stepInterval .scene) }
  | _, .silent =>
    if atOrBelow floorLevel r.currentGain then { r' with currentGain := .silent }
    else { r' with stepTimer := some (stepInterval .scene) }
  | _, .level t => if r.currentGain = .level t then r' else { r' with stepTimer := some (stepInterval .scene) }

/-- A block removes a claim (R122, R123). -/
def RampRecord.remove (c : Claim) (r : RampRecord) : RampRecord :=
  match r.claims.get c with
  | none => r
  | some _ =>
    let left := r.claims.set c none
    if left = .empty then r.leaveSilence else { r with claims := left }

/-- The step timer for a ramp that goes on at class `cls`: a timer running for the same class runs on (R113). -/
def RampRecord.rampTimer (cls : RateClass) (r : RampRecord) : Timer :=
  if r.rateClass = cls then some (r.stepTimer.getD (stepInterval cls)) else some (stepInterval cls)

/-- A target handed to a channel in phase OPEN (R113, R114). -/
def RampRecord.takeOpen (target : Gain) (cls : RateClass) (r : RampRecord) : RampRecord :=
  match r.currentGain, target with
  | .silent, .silent => r
  | .silent, .level t =>
    { r with
      target := target, rateClass := cls, currentGain := .level floorLevel,
      stepTimer := if t = floorLevel then none else some (stepInterval cls) }
  | .level g, .silent =>
    if g ≤ floorLevel then { r with target := target, rateClass := cls, currentGain := .silent, stepTimer := none }
    else { r with target := target, rateClass := cls, stepTimer := r.rampTimer cls }
  | .level g, .level t =>
    if g = t then { r with target := target, rateClass := cls, stepTimer := none }
    else { r with target := target, rateClass := cls, stepTimer := r.rampTimer cls }

/-- The new duck level that a target handed in DIPPING or HOLDING gives (R120). -/
def RampRecord.moveDuckLevel (hold : Nat) (target : Gain) (r : RampRecord) : RampRecord :=
  let level := duckLevelFor target
  let r' := { r with duckLevel := some level }
  if atOrBelow level r.currentGain then
    match r.phase with
    | .dipping => r'.reachDuckLevel hold
    | _ => { r' with stepTimer := none }
  else { r' with stepTimer := some (r.stepTimer.getD (stepInterval .protect)) }

/-- The Gain Planner hands a target with a rate class (R113, R114, R120, R121). -/
def RampRecord.take (hold : Nat) (target : Gain) (cls : RateClass) (r : RampRecord) : RampResult :=
  match r.phase with
  | .open => rampResult r (r.takeOpen target cls)
  | .fading => ⟨{ r with target := target, rateClass := cls }, false⟩
  | .silent => ⟨{ r with target := target, rateClass := cls }, false⟩
  | .dipping => rampResult r (({ r with target := target, rateClass := cls }).moveDuckLevel hold target)
  | .holding => rampResult r (({ r with target := target, rateClass := cls }).moveDuckLevel hold target)

/-- One step of an OPEN channel: 0.5 dB toward its target, which a silent target puts at -60.0 dB (R112, R114). -/
def RampRecord.stepOpen (r : RampRecord) : RampRecord :=
  match r.currentGain, r.target with
  | .silent, _ => { r with stepTimer := none }
  | .level g, .silent =>
    if g - 1 ≤ floorLevel then { r with currentGain := .silent, stepTimer := none }
    else { r with currentGain := .level (g - 1), stepTimer := some (stepInterval r.rateClass) }
  | .level g, .level t =>
    let g' := if g < t then g + 1 else if t < g then g - 1 else g
    { r with currentGain := .level g', stepTimer := if g' = t then none else some (stepInterval r.rateClass) }

/-- One step down, then `reached` when the current gain comes to `level` (R118, R119, R120). -/
def RampRecord.stepDown (level : Int) (reached : RampRecord → RampRecord) (r : RampRecord) : RampRecord :=
  match r.currentGain with
  | .silent => { r with stepTimer := none }
  | .level g =>
    if g - 1 ≤ level then reached { r with currentGain := .level (g - 1), stepTimer := none }
    else { r with currentGain := .level (g - 1), stepTimer := some (stepInterval .protect) }

/-- The step timer of the channel runs out (R112, R118, R119, R120). -/
def RampRecord.step (hold : Nat) (r : RampRecord) : RampResult :=
  match r.stepTimer with
  | none => ⟨r, false⟩
  | some _ =>
    match r.phase with
    | .open => rampResult r r.stepOpen
    | .fading => rampResult r (r.stepDown floorLevel RampRecord.fallSilent)
    | .dipping => rampResult r (r.stepDown (r.duckLevel.getD floorLevel) (RampRecord.reachDuckLevel hold))
    | .holding => rampResult r (r.stepDown (r.duckLevel.getD floorLevel) id)
    | .silent => ⟨{ r with stepTimer := none }, false⟩

/-- The duck-hold timer of the channel runs out in HOLDING (R120). -/
def RampRecord.holdEnds (r : RampRecord) : RampResult :=
  match r.phase, r.holdTimer with
  | .holding, some _ => rampResult r r.fallSilent
  | _, _ => ⟨r, false⟩

end Sys2Proof.Machine
end

