-- ==== Sys2Proof/Machine/Ops.lean ====
section
/-! DEFINITION. The operations the commands share: queueing and its end notices, the speed offer, claims, targets, the cabin
cut, station faults, the station's changes of state, and the receipt of a frame. -/

namespace Sys2Proof.Machine

/-! ### Claims, and what the Protection Monitor does at a channel silent notice -/

/-- A change of one fault record. -/
def State.setRecord (n : Channel) (r : FaultRecord) (s : State) : State :=
  { s with protection := { s.protection with records := s.protection.records.set n r } }

/-- A record that leaves DUCKING goes on to LATCHED (R151). -/
def dipLeadsToLatched (mode : OvercurrentMode) (r : FaultRecord) : Bool :=
  decide (r.lastFault = some .dcOffset) || decide (mode = .latch) || decide (r.retriesUsed = 4)

/-- The channel silent notice reaches the record (R151). -/
def FaultRecord.silenced (mode : OvercurrentMode) (r : FaultRecord) : FaultRecord :=
  match r.state with
  | .ducking =>
    if dipLeadsToLatched mode r then { r with state := .latched }
    else { r with state := .retryWait, retryTimer := some (ms 200) }
  | .retryWait => if r.retryTimer = none then { r with retryTimer := some (ms 200) } else r
  | .clear | .latched | .reported => r

/-- The channel silent notice for channel `n` (R125, R151). -/
def channelSilenced (n : Channel) (s : State) : State :=
  s.setRecord n ((s.protection.records.get n).silenced s.loader.image.protection.overcurrentMode)

/-- A ramp operation on channel `n` leaves its record, and its notice is taken. -/
def applyRamp (n : Channel) (r : RampResult) (s : State) : State :=
  let s' := { s with ramps := s.ramps.set n r.record }
  if r.notice then channelSilenced n s' else s'

/-- A claim is placed on channel `n` (R116). -/
def placeClaim (c : Claim) (k : SilencingKind) (n : Channel) (s : State) : State :=
  applyRamp n ((s.ramps.get n).place s.loader.image.duckHold c k) s

/-- A claim is placed on every channel (R115). -/
def placeAll (c : Claim) (k : SilencingKind) (s : State) : State :=
  allChannels.foldl (fun s n => placeClaim c k n s) s

/-- A claim is removed from channel `n` (R122). -/
def removeClaim (c : Claim) (n : Channel) (s : State) : State :=
  { s with ramps := s.ramps.set n ((s.ramps.get n).remove c) }

/-- A claim is removed from every channel. -/
def removeAll (c : Claim) (s : State) : State := allChannels.foldl (fun s n => removeClaim c n s) s

/-- A reason for the FAULT claim of channel `n` has ended: the claim goes when no reason remains (R149). -/
def releaseFaultClaim (n : Channel) (s : State) : State :=
  if channelReason (s.protection.records.get n) || s.protection.active.railHigh then s else removeClaim .fault n s

/-! ### Targets and the cabin cut -/

/-- The target of a roster channel as it would be worked out now (R103). -/
def targetNow (s : State) (d : RosterEntry) : Gain :=
  clampTarget d.ceiling (componentsFor s.loader.image s.planner s.scene.applied.content d).sum

/-- A change of what the planner holds for one channel. -/
def State.setPlanned (n : Channel) (p : PlannedChannel) (s : State) : State :=
  { s with planner := { s.planner with channels := s.planner.channels.set n p } }

/-- One roster channel's target is worked out again, and handed when it differs from the handed one (R104, R105). The
components are recorded each time (log entry 11). -/
def handTarget (cause : RateClass) (s : State) (d : RosterEntry) : State :=
  let components := componentsFor s.loader.image s.planner s.scene.applied.content d
  let target := clampTarget d.ceiling components.sum
  let held := s.planner.channels.get d.channel
  if target = held.handedTarget then s.setPlanned d.channel { held with components := some components }
  else
    let ramp := s.ramps.get d.channel
    let cls := classHanded cause ramp held
    applyRamp d.channel (ramp.take s.loader.image.duckHold target cls)
      (s.setPlanned d.channel ⟨target, some cls, some components⟩)

/-- The targets of every roster channel are worked out again; none while the applied scene has no generation (R92, R104). -/
def handTargets (cause : RateClass) (s : State) : State :=
  match s.scene.applied.generation with
  | none => s
  | some _ => s.loader.image.roster.foldl (handTarget cause) s

/-- The greatest demand is compared with the cabin cut (R99, R100). -/
def reviewDemand (s : State) : State :=
  let g := greatestDemand s
  if s.planner.cut < g then
    handTargets .protect { s with planner := { s.planner with cut := g, settleTimer := none, fallReady := false } }
  else if g = s.planner.cut then { s with planner := { s.planner with settleTimer := none, fallReady := false } }
  else if s.planner.settleTimer = none ∧ s.planner.fallReady = false then
    { s with planner := { s.planner with settleTimer := some (ms 500) } }
  else s

/-- A change that may move the own limit demand; a changed demand is given to the Gain Planner at once (R155). -/
def withDemand (f : State → State) (s : State) : State :=
  let s' := f s
  if ownDemand s' = ownDemand s then s' else reviewDemand s'

/-- The mark event at the Gain Planner (R96, R101, R106). -/
def plannerMark (s : State) : State :=
  let gaps := gappedPositions s.peers
  let gapChanged := s.planner.gapReview && decide (gaps ≠ s.planner.gapSet)
  let falls := s.planner.fallReady
  let s' :=
    { s with planner :=
      { s.planner with
        gapSet := if s.planner.gapReview then gaps else s.planner.gapSet
        gapReview := false
        cut := if falls then greatestDemand s else s.planner.cut
        fallReady := false } }
  if gapChanged || (falls && decide (greatestDemand s ≠ s.planner.cut)) then handTargets .release s' else s'

/-- The ISOLATED flag is set: the duck begins to wait (R102). -/
def duckFlagSet (s : State) : State :=
  match s.planner.duck with
  | .off => { s with planner := { s.planner with duck := .waiting, duckTimer := some (ms 2000) } }
  | .waiting => s
  | .on => s

/-- The ISOLATED flag clears (R102). -/
def duckFlagClear (s : State) : State :=
  match s.planner.duck with
  | .off => s
  | .waiting => { s with planner := { s.planner with duck := .off, duckTimer := none } }
  | .on => handTargets .scene { s with planner := { s.planner with duck := .off, duckTimer := none } }

/-! ### The transmit queue and its end notices -/

/-- The full duration of the own cycle timer in quarter milliseconds: 20 ms + 0.25 ms x the own number (R42). -/
def cycleDuration (own : Station) : Nat := ms 20 + own.val

/-- The own MARK has ended without completing (R47). -/
def markEnds (s : State) : State :=
  match s.cycle.cycle with
  | .markQueued => { s with cycle := { s.cycle with cycle := .running (cycleDuration (own s)) } }
  | .stopped => s
  | .running _ => s

/-- The own PRESENCE has ended (R53); a stopped timer stays stopped (R56). That one which was in transmission on entering RESTING
and ends only after a wake cuts the first run then going to 100 ms is the model's choice (log entry 36). -/
def presenceEnds (s : State) : State :=
  match s.cycle.presence with
  | .stopped => s
  | .running _ => { s with cycle := { s.cycle with presence := .running (ms 100) } }
  | .presenceQueued => { s with cycle := { s.cycle with presence := .running (ms 100) } }

/-- The end notices that lead to no further frame: MARK and PRESENCE. -/
def timerNotice (b : FrameBody) (s : State) : State :=
  match b with
  | .mark _ => markEnds s
  | .presence _ => presenceEnds s
  | .alert _ | .offer _ | .scene _ | .fetch _ | .answer _ => s

/-- The station states in which the Speed Compensation Unit offers (R84). -/
def offersSpeed : StationState → Bool
  | .quiet | .railUp | .stabilising | .ready | .railDown | .shutdown => true
  | .starting | .unconfigured | .resting | .conflict => false

/-- The difference between two steps. -/
def stepGap (a b : Int) : Int := max (a - b) (b - a)

/-- An offer is due (R84). -/
def offerDue (s : State) : Bool :=
  decide (s.speed.state ≠ .noSource) &&
  decide (s.scene.unit = .agreed) &&
  offersSpeed s.controller.station &&
  decide ((s.speed.desired : Int) ≠ s.scene.applied.content.speedStep) &&
  (decide ((s.loader.image.minimumChange : Int) ≤ stepGap s.speed.desired s.scene.applied.content.speedStep) ||
    decide (s.speed.desired = 0)) &&
  !s.speed.offerWaiting &&
  decide (s.speed.spacingTimer = none) &&
  (match s.scene.pending.speedStep with
    | some e => decide (e.value ≠ s.speed.desired)
    | none => true) &&
  (match s.scene.staged with
    | some sc => decide (sc.content.speedStep ≠ s.speed.desired)
    | none => true)

/-- A step moved toward another by the whole difference when that is 4 or less, and by 4 otherwise (R85). -/
def moveToward (base desired : Int) : Int :=
  if desired - base > 4 then base + 4 else if base - desired > 4 then base - 4 else desired

/-- The content of a due speed offer (R85); none while the station holds no generation. -/
def speedOffer (s : State) : Option Offer :=
  match s.scene.staged, s.scene.applied.generation with
  | some sc, _ =>
    some ⟨sc.generation, 0, { PerField.all none with speedStep := some (moveToward sc.content.speedStep s.speed.desired) }⟩
  | none, some g =>
    some ⟨g, 0, { PerField.all none with speedStep := some (moveToward s.scene.applied.content.speedStep s.speed.desired) }⟩
  | none, none => none

/-- The OFFER is queued, the mark set and the spacing timer started (R85, R86). An OFFER that is not admitted has ended:
the mark is cleared, and the check that follows finds the spacing timer running (R87). -/
def queueSpeedOffer (o : Offer) (s : State) : State :=
  let g := s.link.give (admitsFrames s) (.offer o)
  let s' := { s with link := g.1, speed := { s.speed with offerWaiting := true, spacingTimer := some (ms 250) } }
  match g.2 with
  | none => s'
  | some b => if b.isOffer then { s' with speed := { s'.speed with offerWaiting := false } } else timerNotice b s'

/-- The offer check (R83, R84). -/
def offerCheck (s : State) : State :=
  if offerDue s then
    match speedOffer s with
    | some o => queueSpeedOffer o s
    | none => s
  else s

/-- The own speed OFFER has ended: the mark is cleared and the offer check made (R83, R87). -/
def offerEnds (s : State) : State := offerCheck { s with speed := { s.speed with offerWaiting := false } }

/-- An own frame has ended without completing: its block is given notice (R166). -/
def frameEnds (b : FrameBody) (s : State) : State := if b.isOffer then offerEnds s else timerNotice b s

/-- A block gives a frame for queueing (R167, R168, R170). That the notice to the block of a displaced frame, and so the offer
check that follows a displaced OFFER, meets the queue with the new frame already at its place is the model's choice (log entry
41). -/
def giveFrame (b : FrameBody) (s : State) : State :=
  let g := s.link.give (admitsFrames s) b
  match g.2 with
  | none => { s with link := g.1 }
  | some ended => frameEnds ended { s with link := g.1 }

/-- The presence timer has run out: a PRESENCE with the contents of the moment is queued (R52). -/
def presenceRunsOut (s : State) : State :=
  giveFrame (.presence (ownReport s)) { s with cycle := { s.cycle with presence := .presenceQueued } }

/-- The first run of the presence timer after start or wake, 6 ms x the own number; a run of 0 ms is over at once
(R51, log entry 26). -/
def startFirstPresence (s : State) : State :=
  if (own s).val = 0 then presenceRunsOut s
  else { s with cycle := { s.cycle with presence := .running (ms (6 * (own s).val)) } }

/-- The cycle timer is started for its full duration. -/
def startCycle (s : State) : State := { s with cycle := { s.cycle with cycle := .running (cycleDuration (own s)) } }

/-- Every waiting frame is removed without count, on entering RESTING or CONFLICT (R170): the two periodic timers stop
(R49, R56) and a removed OFFER clears the offer-waiting mark (R87, R89). -/
def dropWaiting (s : State) : State :=
  { s with
    link := { s.link with waiting := [] }
    cycle := { s.cycle with cycle := .stopped, presence := .stopped }
    speed := { s.speed with
      offerWaiting := s.speed.offerWaiting && !(s.link.waiting.any fun f => f.body.isOffer) } }

/-! ### Station faults, the rail window and the station's changes of state -/

/-- A station fault is marked active and its sticky flag set (R156). -/
def markFault (f : StationFault) (s : State) : State :=
  { s with protection :=
    { s.protection with active := s.protection.active.set f true, sticky := s.protection.sticky.set f true } }

/-- A station fault is marked inactive; its sticky flag stays (R156). -/
def unmarkFault (f : StationFault) (s : State) : State :=
  { s with protection := { s.protection with active := s.protection.active.set f false } }

/-- RAIL_HIGH or another rail fault becomes inactive (R156, R157). -/
def clearRailFault (f : StationFault) (s : State) : State :=
  if s.protection.active.get f then
    let s' := withDemand (unmarkFault f) s
    match f with
    | .railHigh => allChannels.foldl (fun s n => releaseFaultClaim n s) s'
    | .thermalWarn | .thermalShut | .railSag | .railLow | .railFail | .eqMemory | .configBad | .numberConflict => s'
  else s

/-- The DC_OFFSET condition of a channel clears: a record REPORTED for it becomes CLEAR (R153). -/
def FaultRecord.offsetClears (r : FaultRecord) : FaultRecord :=
  if r.state = .reported ∧ r.lastFault = some .dcOffset then { r with state := .clear } else r

/-- The rail window closes: the rail and offset conditions become NORMAL, and what was PRESENT clears (R146). -/
def closeWindow (s : State) : State :=
  let p := s.protection
  let s1 :=
    { s with protection :=
      { p with
        conditions := { p.conditions with railSag := .normal, railLow := .normal, railHigh := .normal, offset := .all .normal }
        records := .of fun n =>
          if (p.conditions.offset.get n).present then (p.records.get n).offsetClears else p.records.get n } }
  clearRailFault .railHigh (clearRailFault .railLow (clearRailFault .railSag s1))

/-- The station leaves READY: the RAIL claim is placed on every channel, and stays as it is on every other change (R178). -/
def leaveReady (k : SilencingKind) (s : State) : State :=
  if s.controller.station = .ready then placeAll .rail k s else s

/-- On entering STABILISING from RAIL_UP (R180, R181). -/
def enterStabilising (s : State) : State :=
  let s' := unmarkFault .railFail s
  { s' with controller :=
    { s'.controller with
      station := .stabilising, rail := .up, railGoodTimer := none, stabiliseTimer := some (ms 50) } }

/-- On entering RAIL_UP (R180). Out of READY with RAIL_HIGH active, R124 leaves open whether RAIL is placed before the closing window
removes the FAULT claim (R146, R157): that it is placed first is the model's choice (log entry 46). -/
def enterRailUp (s : State) : State :=
  let s1 := leaveReady .hard s
  let s2 := closeWindow
    { s1 with controller :=
      { s1.controller with
        station := .railUp, rail := .rising, stabiliseTimer := none, downTimer := none, railRetryTimer := none } }
  if s2.pins.railGood then enterStabilising s2
  else { s2 with controller := { s2.controller with railGoodTimer := some (ms 100) } }

/-- On entering READY (R181): the RAIL claim is removed from every channel. -/
def enterReady (s : State) : State :=
  removeAll .rail { s with controller := { s.controller with station := .ready, stabiliseTimer := none } }

/-- In RAIL_DOWN with every channel silent: rail-enable is released and the down timer started (R183). -/
def releaseRail (s : State) : State :=
  closeWindow { s with controller := { s.controller with rail := .draining, downTimer := some (ms 20) } }

/-- The controller takes the all channels silent notice, or reads the indication on entering RAIL_DOWN (R126, R183). -/
def takeSilence (s : State) : State :=
  if s.controller.station = .railDown ∧ railEnable s ∧ allSilent s then releaseRail s else s

/-- Every entry but SELF becomes ABSENT, with the notices this raises (R66). -/
def emptyTable (s : State) : State :=
  let entries := s.peers.entries.toList
  let hadLost := entries.any fun e => match e with
    | .known .lost _ _ => true
    | .known .active _ _ | .known .silent _ _ | .absent | .self => false
  let hadCounted := entries.any fun e => (countedDemand e).isSome
  let s' :=
    { s with
      peers :=
        { entries := s.peers.entries.map fun e => match e with
            | .self => .self
            | .absent | .known _ _ _ => .absent
          emptyingDue := false }
      planner := { s.planner with gapReview := s.planner.gapReview || hadLost } }
  if hadCounted then reviewDemand s' else s'

/-- The station enters RESTING (R184, R66, R170). -/
def enterResting (s : State) : State :=
  let s1 := dropWaiting { s with controller := { s.controller with station := .resting, rail := .off, stop := .rest } }
  if s1.link.isolated then { s1 with peers := { s1.peers with emptyingDue := true } } else emptyTable s1

/-- A RESTING station wakes (R184, R50, R56). -/
def wake (s : State) : State :=
  if s.controller.station = .resting then
    let s1 := removeAll .rest s
    let s2 :=
      if s1.protection.active.thermalShut then { s1 with controller := { s1.controller with station := .shutdown } }
      else enterRailUp s1
    startFirstPresence (startCycle s2)
  else s

/-- The Protection Monitor asks for SHUTDOWN (R185). That out of READY with RAIL_HIGH active RAIL is placed before the closing window
removes the FAULT claim is the model's choice (log entry 46). -/
def askShutdown (s : State) : State :=
  match s.controller.station with
  | .quiet | .railUp | .stabilising | .ready =>
    let s1 := leaveReady .hard s
    closeWindow
      { s1 with controller :=
        { s1.controller with
          station := .shutdown, rail := .off, railGoodTimer := none, stabiliseTimer := none, railRetryTimer := none } }
  | .railDown => placeAll .rail .hard s
  | .starting | .unconfigured | .resting | .shutdown | .conflict => s

/-- The Protection Monitor reports the recovery from thermal shutdown (R185). -/
def reportRecovery (s : State) : State := if s.controller.station = .shutdown then enterRailUp s else s

/-- The Protection Monitor asks for the return to RAIL_UP (R181). -/
def askRailUp (s : State) : State :=
  match s.controller.station with
  | .stabilising | .ready => enterRailUp s
  | .starting | .unconfigured | .quiet | .railUp | .railDown | .resting | .shutdown | .conflict => s

/-- The Protection Monitor asks for CONFLICT (R186, R49, R56, R86, R170). That with RAIL_HIGH active CONFLICT and RAIL are placed before
the closing window removes the FAULT claim is the model's choice (log entry 46). -/
def askConflict (s : State) : State :=
  match s.controller.station with
  | .starting | .unconfigured => s
  | .quiet | .railUp | .stabilising | .ready | .railDown | .resting | .shutdown | .conflict =>
    let s1 := leaveReady .hard (placeAll .conflict .hard s)
    let s2 := closeWindow
      { s1 with controller :=
        { station := .conflict, rail := .off, railGoodTimer := none, stabiliseTimer := none, downTimer := none,
          railRetryTimer := none, stop := .conflict } }
    dropWaiting { s2 with speed := { s2.speed with spacingTimer := none } }

/-- An ALERT is queued for an activation (R160); the queue admits none in STARTING, RESTING or CONFLICT. -/
def queueAlert (subject : AlertSubject) (state : AlertState) (s : State) : State := giveFrame (.alert ⟨subject, state⟩) s

/-- A station fault becomes active, with its ALERT and its action (R156, R160); an active one is left as it is. -/
def raiseFault (f : StationFault) (s : State) : State :=
  if s.protection.active.get f then s
  else
    let s' := queueAlert (.station f) .active (withDemand (markFault f) s)
    match f with
    | .thermalShut => askShutdown s'
    | .railLow => askRailUp s'
    | .railHigh => placeAll .fault .hard s'
    | .numberConflict => askConflict s'
    | .thermalWarn | .railSag | .railFail | .eqMemory | .configBad => s'

/-- A temperature fault becomes inactive (R156). -/
def clearThermalFault (f : StationFault) (s : State) : State :=
  if s.protection.active.get f then
    let s' := withDemand (unmarkFault f) s
    match f with
    | .thermalShut => reportRecovery s'
    | .thermalWarn | .railSag | .railLow | .railHigh | .railFail | .eqMemory | .configBad | .numberConflict => s'
  else s

/-- A fault silences its channel (R149, R150): the record takes the fault and enters DUCKING or its destination, and the
FAULT claim is placed. A record that enters RETRY_WAIT on a silent channel starts its timer at once (R151). -/
def silenceChannel (fault : ChannelFault) (kind : SilencingKind) (destination : RecordState) (n : Channel) (s : State) :
    State :=
  let r := s.protection.records.get n
  let silent := decide ((s.ramps.get n).currentGain = .silent)
  let entered := if kind = .duckHold ∧ ¬silent then .ducking else destination
  let timer := if entered = .retryWait ∧ silent then some (ms 200) else r.retryTimer
  placeClaim .fault kind n
    (queueAlert (.channel fault n) (.record entered)
      (s.setRecord n { r with state := entered, lastFault := some fault, retryTimer := timer }))

/-! ### Receipt of a frame, and the end of a command -/

/-- A waiting own PRESENCE is refreshed with the contents of the moment (R55). -/
def refreshPresence (s : State) : State :=
  { s with link := { s.link with
    waiting := s.link.waiting.map fun f => if f.body.isPresence then { f with body := .presence (ownReport s) } else f } }

/-- What follows every command that can silence a channel or change a field of PRESENCE (log entry 12). -/
def finish (s : State) : State := refreshPresence (takeSilence s)

/-- A frame from another station is heard (R172): the isolation timer restarts, and a set ISOLATED flag clears. -/
def frameHeard (s : State) : State :=
  let s1 := { s with link := { s.link with isolated := false, isolationTimer := some (ms 200) } }
  if s.link.isolated then duckFlagClear (if s1.peers.emptyingDue then emptyTable s1 else s1) else s1

/-- A frame with a good check has been received: acknowledged except in CONFLICT (R164), and heard (R172). -/
def goodFrame (s : State) : State :=
  frameHeard { s with link :=
    { s.link.lineFrameEnded with acknowledging := decide (s.controller.station ≠ .conflict) } }

/-- The Link Controller reports a number conflict (R173). -/
def reportConflict (s : State) : State :=
  raiseFault .numberConflict { s with link := { s.link with conflictReported := true } }

/-- A frame with a good check is routed (R164, R166, R172, R173): in STARTING to no block; one that carries the own number
raises a conflict; any other is handled by its block, and wakes a RESTING station before or after. -/
def receive (rx : Reception) (handle : State → State) (s : State) : State :=
  let s1 := goodFrame s
  if s1.controller.station = .starting then s1
  else if rx.sender = own s1 then reportConflict s1
  else if rx.wakeFirst then handle (wake s1)
  else wake (handle s1)

/-- As `receive`, for the one kind that is not reported to the Station Controller as a frame heard: REST (R166). -/
def receiveUnheard (sender : Station) (handle : State → State) (s : State) : State :=
  let s1 := goodFrame s
  if s1.controller.station = .starting then s1
  else if sender = own s1 then reportConflict s1
  else handle s1

end Sys2Proof.Machine
end

