-- ==== Sys2Proof/Machine/Agreement.lean ====
section
/-! DEFINITION. The Scene Agreement Unit over the whole state (R16 to R41), and the mark event with the blocks it reaches
(R48). -/

namespace Sys2Proof.Machine

/-! ### What the unit queues and gives notice of -/

/-- The applied scene as a SCENE carries it; none while it has no generation. -/
def appliedScene (s : State) : Option Scene :=
  match s.scene.applied.generation with
  | some g => some ⟨g, s.scene.applied.content, s.scene.applied.origin, s.scene.applied.digest⟩
  | none => none

/-- A SCENE of the applied scene is queued (R24, R30, R31). -/
def queueApplied (s : State) : State :=
  match appliedScene s with
  | some sc => giveFrame (.scene sc) s
  | none => s

/-- A FETCH is queued (R20, R35, R36, R38, R39). -/
def queueFetch (wanted : Generation) (s : State) : State := giveFrame (.fetch (some wanted)) s

/-- A FETCH is queued unless an own one is already waiting (R20, R35). -/
def queueFetchOnce (wanted : Generation) (s : State) : State :=
  if s.link.waits FrameBody.isFetch then s else queueFetch wanted s

/-- The scene applied notice at the Gain Planner and the Equaliser Bank (R28, R104, R137). -/
def sceneAppliedNotice (s : State) : State :=
  handTargets .scene
    { s with equaliser := s.equaliser.sceneApplied s.loader.image (settingsOf s.scene.applied.content) }

/-- The step on announcing, after each scene applied (R31). -/
def announce (s : State) : State := if lowerZoneActive s then s else queueApplied s

/-- A scene is placed in the staged slot and the scene staged notice reaches the Equaliser Bank (R29, R135). -/
def stageScene (sc : Scene) (s : State) : State :=
  { s with
    scene := { s.scene with staged := some sc }
    equaliser := s.equaliser.sceneStaged s.loader.image (settingsOf sc.content) }

/-- The unit leaves PROVISIONAL with an applied scene: scene applied, the PROVISIONAL claims removed, the join window
stopped, AGREED, and the step on announcing (R18, R19, R21, R31). -/
def leaveProvisional (a : AppliedScene) (s : State) : State :=
  announce (removeAll .provisional (sceneAppliedNotice
    { s with scene := { s.scene with unit := .agreed, applied := a, joinWindow := none } }))

/-- The unit leaves RESYNC for AGREED (R37, R38, R40). -/
def leaveResync (s : State) : State := { s with scene := { s.scene with unit := .agreed, fetch := none } }

/-- The fetch state afresh for a wanted generation, with its FETCH (R36, R39). -/
def fetchAfresh (wanted : Generation) (s : State) : State :=
  queueFetch wanted { s with scene := { s.scene with fetch := some ⟨wanted, 1, ms 80⟩ } }

/-- The unit enters RESYNC (R36). -/
def enterResync (wanted : Generation) (s : State) : State :=
  fetchAfresh wanted
    { s with scene := { s.scene with unit := .resync, pending := emptyRecord, conflict := none } }

/-! ### Offers -/

/-- One more offer refused (R9, R22, R23, R39). -/
def refuseOffer (s : State) : State := s.count LinkCounters.addOfferRefused

/-- The outcomes of an offer that has passed the check of R9 in AGREED (R23). -/
inductive OfferOutcome where
  | accepted | unrelated | stale | behind | overtaken
deriving DecidableEq, Repr

/-- The first case of R23 that fits a base, by the applied generation and the staged one. -/
def offerOutcome (base applied : Generation) (staged : Option Generation) : OfferOutcome :=
  if base = applied ∨ staged = some base then .accepted
  else if unrelated base applied then .unrelated
  else if older base applied then .stale
  else if newer base (staged.getD applied) then .behind
  else .overtaken

/-- An offer in AGREED, measured against the generations (R23, R24, R25). -/
def measureOffer (proposer : Station) (o : Offer) (s : State) : State :=
  match s.scene.applied.generation with
  | none => s
  | some applied =>
    match offerOutcome o.base applied (s.scene.staged.map Scene.generation) with
    | .accepted => { s with scene := { s.scene with pending := merge o proposer s.scene.pending } }
    | .unrelated => refuseOffer s
    | .stale => queueApplied (s.count LinkCounters.addStaleOffer)
    | .behind => enterResync o.base s
    | .overtaken => refuseOffer s

/-- An OFFER reaches the Scene Agreement Unit: received, or the own one completed (R9, R10, R17, R22, R23, R39). -/
def takeOffer (proposer : Station) (o : Offer) (s : State) : State :=
  if unitListens s then
    if offerPasses o then
      match s.scene.unit with
      | .agreed => measureOffer proposer o s
      | .provisional => refuseOffer s
      | .resync => refuseOffer s
    else refuseOffer s
  else s

/-! ### SCENE and FETCH -/

/-- A received SCENE settles a digest conflict (R40, last part). -/
def settles (sc : Scene) (s : State) : Bool :=
  decide (s.scene.conflict = some sc.generation) && decide (s.scene.applied.digest < sc.digest) &&
    decide (s.scene.applied.generation = some sc.generation) && s.scene.staged.isNone

/-- The scene that settling stages (R41). -/
def settledScene (sc : Scene) : Scene :=
  { generation := sc.generation + 1, content := sc.content, origin := sc.origin, digest := digestOf sc.content }

/-- A checked SCENE in AGREED (R33, R41). -/
def settleConflict (sc : Scene) (s : State) : State :=
  if settles sc s then
    stageScene (settledScene sc) { s with scene := { s.scene with pending := emptyRecord, conflict := none } }
  else s

/-- A checked SCENE in RESYNC (R37). -/
def resyncStage (sc : Scene) (s : State) : State :=
  match s.scene.applied.generation with
  | none => s
  | some applied =>
    if newer sc.generation applied then
      match s.scene.staged with
      | some held =>
        if held.generation = sc.generation ∧ held.digest = sc.digest then leaveResync s
        else leaveResync (stageScene sc s)
      | none => leaveResync (stageScene sc s)
    else s

/-- The own queued SCENE equal to a checked one is withdrawn (R32). -/
def withdrawScene (sc : Scene) (s : State) : State :=
  { s with link := s.link.withdraw (FrameBody.isSceneOf sc.generation sc.digest) }

/-- A SCENE reaches the Scene Agreement Unit (R14, R17, R19, R32, R33, R37). -/
def takeScene (sc : Scene) (s : State) : State :=
  if unitListens s && scenePasses sc then
    let s' := withdrawScene sc s
    match s'.scene.unit with
    | .provisional => leaveProvisional (asApplied sc) s'
    | .agreed => settleConflict sc s'
    | .resync => resyncStage sc s'
  else s

/-- A FETCH reaches the Scene Agreement Unit (R17, R22, R30). -/
def takeFetch (wanted : Option Generation) (s : State) : State :=
  if unitListens s ∧ s.scene.unit = .agreed then
    match wanted with
    | none => queueApplied s
    | some g =>
      if s.scene.applied.generation = some g then queueApplied s
      else
        match s.scene.applied.generation, s.scene.staged with
        | some _, some sc => if sc.generation = g then giveFrame (.scene sc) s else s
        | _, _ => s
  else s

/-! ### Generation reports -/

/-- A generation report in AGREED (R34, R35). -/
def reportInAgreed (g : Generation) (digest : Digest) (s : State) : State :=
  match s.scene.applied.generation with
  | none => s
  | some applied =>
    if newer g applied then
      match s.scene.staged with
      | none => enterResync g s
      | some sc => if newer g sc.generation then enterResync g s else s
    else if g = applied ∧ s.scene.staged = none ∧ s.scene.applied.digest < digest then
      let s' := queueFetchOnce g s
      { s' with scene := { s'.scene with conflict := some g } }
    else s

/-- A generation report in RESYNC (R39). -/
def reportInResync (g : Generation) (s : State) : State :=
  match s.scene.fetch with
  | some f => if newer g f.wanted then fetchAfresh g s else s
  | none => s

/-- A generation report reaches the Scene Agreement Unit (R17, R20, R34, R35, R39). -/
def takeReport (g : Generation) (digest : Digest) (s : State) : State :=
  if unitListens s then
    match s.scene.unit with
    | .provisional => queueFetchOnce g s
    | .agreed => reportInAgreed g digest s
    | .resync => reportInResync g s
  else s

/-! ### Timers -/

/-- The join window runs out (R21). In STARTING nothing happens until the station has left it (log entry 17). -/
def joinWindowEnds (s : State) : State :=
  if unitListens s ∧ s.scene.unit = .provisional ∧ s.scene.joinWindow.isSome then
    leaveProvisional (formApplied (some 1) s.loader.image.startScene (own s)) s
  else s

/-- The fetch timer runs out (R38). In STARTING nothing happens until the station has left it (log entry 17). -/
def fetchTimerEnds (s : State) : State :=
  if unitListens s ∧ s.scene.unit = .resync then
    match s.scene.fetch with
    | none => s
    | some f =>
      if f.attempts < 3 then
        queueFetch f.wanted { s with scene := { s.scene with fetch := some { f with attempts := f.attempts + 1, timer := ms 80 } } }
      else (leaveResync s).count LinkCounters.addFailedResync
  else s

/-! ### Mark events -/

/-- The apply step (R26). -/
def applyStaged (s : State) : State :=
  match s.scene.staged with
  | none => s
  | some sc =>
    announce (sceneAppliedNotice
      { s with scene := { s.scene with applied := asApplied sc, staged := none, conflict := none } })

/-- The stage step (R27). -/
def stagePending (s : State) : State :=
  match s.scene.applied.generation with
  | none => s
  | some g =>
    if recordHeld s.scene.pending then
      stageScene (stagedFrom s.scene.pending g s.scene.applied.content)
        { s with scene := { s.scene with pending := emptyRecord, conflict := none } }
    else s

/-- The return from RESYNC at a mark (R40). -/
def resyncAtMark (s : State) : State :=
  match s.scene.unit, s.scene.fetch, s.scene.applied.generation with
  | .resync, some f, some g => if newer f.wanted g then s else leaveResync s
  | _, _, _ => s

/-- The mark event at the Equaliser Bank (R139). -/
def bankMark (s : State) : State :=
  { s with equaliser := s.equaliser.mark (settingsOf s.scene.applied.content) }

/-- `f` in the turn the order names, else nothing. -/
def inTurn (turn : Bool) (f : State → State) (s : State) : State := if turn then f s else s

/-- A mark event: apply, then stage, with the Gain Planner and the Equaliser Bank taking the event in the turns the world
chose (R26, R27, R40, R48, R106, R139). An UNCONFIGURED station's unit takes no mark event (R17). -/
def markEvent (order : MarkOrder) (s : State) : State :=
  let listens := unitListens s
  let s1 := inTurn (decide (order.bank = .markFirst)) bankMark s
  let s2 := inTurn (decide (order.planner = .markFirst)) plannerMark s1
  let s3 := inTurn listens applyStaged s2
  let s4 := inTurn (decide (order.planner = .sceneFirst)) plannerMark s3
  let s5 := inTurn (decide (order.bank = .markBetween)) bankMark s4
  let s6 := inTurn listens (fun s => resyncAtMark (stagePending s)) s5
  inTurn (decide (order.bank = .markLast)) bankMark s6

end Sys2Proof.Machine
end

