-- ==== Sys2Proof/Machine/Speed.lean ====
section
/-! DEFINITION. The Speed Compensation Unit: curves, the desired step, staleness and the watch over equivalent offers
(R77 to R82, R88). -/

namespace Sys2Proof.Machine

/-- The computed step of one of curves 1 to 3 at speed `v` (R81). -/
def curveStep (c : Curve) (v : Nat) : Nat :=
  if v ≤ c.low then 0 else if c.high ≤ v then c.top else c.top * (v - c.low) / (c.high - c.low)

/-- The falling step of one of curves 1 to 3 (R81). -/
def curveFallingStep (c : Curve) (v : Nat) : Nat := curveStep c (v + c.hysteresis)

/-- The curve that a number names; curve 0 is the absence of a curve (R80, R81). -/
def curveOf (image : Image) (n : Int) : Option Curve :=
  if n = 1 then some image.curve1 else if n = 2 then some image.curve2 else if n = 3 then some image.curve3 else none

/-- The computed step under curve number `n` (R81). -/
def computedStep (image : Image) (n : Int) (v : Nat) : Nat :=
  match curveOf image n with
  | none => 0
  | some c => curveStep c v

/-- The falling step under curve number `n` (R81). -/
def fallingStep (image : Image) (n : Int) (v : Nat) : Nat :=
  match curveOf image n with
  | none => 0
  | some c => curveFallingStep c v

/-- The desired step after a speed is taken (R82). -/
def desiredAfter (computed falling desired : Nat) : Nat :=
  if desired < computed then computed else if falling < desired then falling else desired

/-- The source takes a SPEED from this station (R77). -/
def takesFrom (u : SpeedUnit) (n : Station) : Bool :=
  match u.state, u.source with
  | .fresh, some r => decide (r.station = n)
  | .fresh, none => false
  | .noSource, _ => true
  | .stale, _ => true

/-- The unit's state after it has taken a SPEED (R77, R82). -/
def SpeedUnit.taken (image : Image) (curve : Int) (n : Station) (v : Nat) (u : SpeedUnit) : SpeedUnit :=
  { u with
    source := some ⟨n, v, 0⟩, state := .fresh, fallTimer := none
    desired := desiredAfter (computedStep image curve v) (fallingStep image curve v) u.desired }

/-- A SPEED reaches the Speed Compensation Unit (R76, R77, R82, R83). -/
def takeSpeed (n : Station) (v : Nat) (valid : Bool) (s : State) : State :=
  if valid && takesFrom s.speed n then
    offerCheck { s with speed := s.speed.taken s.loader.image s.scene.applied.content.curve n v }
  else s

/-- The age of a FRESH speed source has come to 500 ms (R78). -/
def SpeedUnit.isOld (u : SpeedUnit) : Bool :=
  match u.source with
  | some r => decide (u.state = .fresh) && decide (ms 500 ≤ r.age)
  | none => false

/-- The unit's state on becoming STALE (R78, R79). -/
def SpeedUnit.goesStale (policy : StalePolicy) (u : SpeedUnit) : SpeedUnit :=
  let u' := { u with state := .stale }
  match policy with
  | .hold => u'
  | .fall => if u.desired = 0 then u' else { u' with fallTimer := some (ms 1000) }
  | .zero => { u' with desired := 0 }

/-- The unit's state when the fall timer runs out (R79). The desired step falls under FALL, while the source is STALE; under HOLD
and ZERO it stays as it is, and the timer, which a fresh start under another policy has left running, stops. That ZERO leaves a
step above 0 there is the model's choice (log entry 33). -/
def SpeedUnit.falls (policy : StalePolicy) (u : SpeedUnit) : SpeedUnit :=
  match policy, u.state with
  | .fall, .stale => { u with desired := u.desired - 1, fallTimer := if 1 < u.desired then some (ms 1000) else none }
  | _, _ => { u with fallTimer := none }

/-- The offer check that follows a change of the desired step made by a policy (R79). -/
def checkIfChanged (before : Nat) (s : State) : State := if s.speed.desired = before then s else offerCheck s

/-- A received OFFER that passes the check of R9 withdraws an equivalent own one that waits; the withdrawal ends the own
OFFER (R87, R88, R169). -/
def watchOffer (o : Offer) (s : State) : State :=
  if offerPasses o && s.link.waits (FrameBody.isOfferLike o) then
    offerEnds { s with link := s.link.withdraw (FrameBody.isOfferLike o) }
  else s

end Sys2Proof.Machine
end

