-- ==== Sys2Proof/Machine/Supply.lean ====
section
/-! DEFINITION. Power-on, the end of start work, and restart: POWER_ON, START_COMPLETE, RESTART (R6, R49, R51, R58, R133,
R134, R176, R178, R179, R186, R187). -/

namespace Sys2Proof.Machine

/-- POWER_ON: every block takes its power-on values and the station enters STARTING (R178). -/
def execPowerOn (s : State) : Host.Outcome State Fault Refusal := .next s.powerOnBlocks

/-- What the Start Loader keeps of the image it has read and of the straps (R175, R179). A fresh start from CONFLICT leaves
the station number in use as it was. -/
def Loader.loaded (straps : Station) (read : ImageRead) (checked : Option Image) (l : Loader) : Loader :=
  { l with
    image := checked.getD Image.unconfigured
    item := configItemOf straps read checked.isSome
    own := if l.freshStart then l.own else straps }

/-- The loader's result taken by the state. -/
def takeImage (straps : Station) (read : ImageRead) (checked : Option Image) (s : State) : State :=
  { s with loader := s.loader.loaded straps read checked }

/-- At a start after power-on or restart: the SELF entry (R58), and the applied scene filled by R6. -/
def firstStart (s : State) : State :=
  { s with
    peers := { s.peers with entries := s.peers.entries.set (own s) .self }
    scene := .resetWith s.loader.image.startScene (own s) }

/-- At a fresh start whose image check fails: the blocks named by R186 take their values after restart, except the sticky
flags and the late-swap count. The duck state is OFF while the ISOLATED flag may stand set; that it then waits for the flag to be
set anew is the model's choice (log entry 35). So is that the cabin cut of 0 stays,
whatever demands the Peer Table keeps, until the next change of a demand has them compared with it (log entry 43). -/
def freshStartFailed (s : State) : State :=
  { s with
    scene := .resetWith unconfiguredContent (own s)
    cycle := .reset
    speed := .reset
    planner := .reset
    ramps := .all .reset
    equaliser := { Equaliser.reset with lateSwaps := s.equaliser.lateSwaps }
    protection := { Protection.reset with sticky := s.protection.sticky } }

/-- The Start Loader reports a failed image check (R156, R179); the free cut mode is drawn afresh (log entry 9). -/
def configBad (s : State) : State := { markFault .configBad s with draws := s.draws + 1 }

/-- What the image check leaves, by the kind of start (R6, R58, R179, R186). At a fresh start from CONFLICT that passes, the
Gain Planner, the Ramp Engine and the Protection Monitor keep their state (R91, R110, R161) though the image may bring another
roster or other modes: that a channel which left the roster keeps its handed target, class, components and fault record, and that
no target is held afresh to a new ceiling, is the model's choice (log entry 34). So is that another THERMAL_WARN mode changes the
own limit demand at once, which is then compared with the cabin cut, while another cut mode alone is not (log entry 40). -/
def afterCheck (straps : Station) (read : ImageRead) (checked : Option Image) (s : State) : State :=
  match s.loader.freshStart, checked with
  | true, some _ => withDemand (takeImage straps read checked) s
  | true, none => configBad (freshStartFailed (takeImage straps read checked s))
  | false, some _ => firstStart (takeImage straps read checked s)
  | false, none => configBad (firstStart (takeImage straps read checked s))

/-- The self-test and the fill of the banks (R133, R134, R140). -/
def selfTested (passed : Bool) (s : State) : State :=
  if s.equaliser.bypass then s
  else if passed then
    { s with equaliser := s.equaliser.fill s.loader.image (settingsOf s.scene.applied.content) }
  else { markFault .eqMemory { s with equaliser := s.equaliser.failTest s.draws } with draws := s.draws + 1 }

/-- The state the station leaves STARTING for (R179, R186). -/
def destination (checked fresh thermalShut : Bool) : StationState :=
  if checked then if fresh && thermalShut then .shutdown else .quiet else .unconfigured

/-- The timers that start as the station leaves STARTING for a state other than UNCONFIGURED (R18, R49). -/
def startTimers (s : State) : State :=
  let s' := startCycle s
  match s'.scene.unit with
  | .provisional => { s' with scene := { s'.scene with joinWindow := some (ms 300) } }
  | .agreed => s'
  | .resync => s'

/-- The ALERT of a station fault that became active during STARTING (R160). -/
def alertIfNew (f : StationFault) (before : PerFault Bool) (s : State) : State :=
  if s.protection.active.get f && !before.get f then queueAlert (.station f) .active s else s

/-- The station leaves STARTING for `d` (R18, R49, R51, R144, R160, R179, R180). `before` holds the station faults active
before the start work marked its own. That the ALERT of CONFIG_BAD is queued before that of EQ_MEMORY is the model's choice (log
entry 5). -/
def leaveStarting (d : StationState) (before : PerFault Bool) (s : State) : State :=
  let s1 :=
    { s with
      controller := { s.controller with station := d }
      loader := { s.loader with freshStart := false }
      protection := { s.protection with scan := some 0 } }
  let s2 := if d = .unconfigured then s1 else startTimers s1
  let s3 := startFirstPresence (alertIfNew .eqMemory before (alertIfNew .configBad before s2))
  if d = .quiet then enterRailUp s3 else s3

/-- The station faults that stand active before the start work marks its own: none at a fresh start whose image check fails,
since the Protection Monitor takes its restart values there (R186). -/
def activeBefore (checkPassed : Bool) (s : State) : PerFault Bool :=
  if s.loader.freshStart && !checkPassed then Protection.reset.active else s.protection.active

/-- The start work ends (R179). -/
def startComplete (straps : Station) (read : ImageRead) (selfTest : Bool) (s : State) : State :=
  let checked := checkImage straps (if s.loader.freshStart then some s.loader.own else none) read
  let s1 := selfTested selfTest (afterCheck straps read checked s)
  leaveStarting (destination checked.isSome s.loader.freshStart s1.protection.active.thermalShut)
    (activeBefore checked.isSome s) s1

/-- START_COMPLETE: the loader, the Equaliser Bank and the Scene Agreement Unit finish their start work and the station leaves
STARTING (R179). In any other state there is no start work to end (log entry 3). -/
def execStartComplete (straps : Station) (image : ImageRead) (selfTest : Bool) (s : State) :
    Host.Outcome State Fault Refusal :=
  .next (if s.controller.station = .starting then finish (startComplete straps image selfTest s) else s)

/-- The frame in transmission at a restart: it completes, and its end moves no block (R170). -/
def orphaned (f : SendingFrame) : SendingFrame := { f with orphan := true }

/-- Every block takes its values after power-on, except the stop record; a frame in transmission completes (R170, R187), and
the frame that brought the RESTART has been acknowledged as any other (R164). -/
def restartBlocks (s : State) : State :=
  let s' := s.powerOnBlocks
  { s' with
    link := { s'.link with sending := s.link.sending.map orphaned, acknowledging := s.link.acknowledging }
    controller := .resetWith .restart }

/-- A CLEAR is addressed to this station (R176). -/
def addressed (target : Nat) (s : State) : Bool := decide (target = (own s).val) || decide (target = 16)

/-- RESTART: CLEAR with action RESTART (R176, R187). -/
def execRestart (rx : Reception) (target : Nat) (s : State) : Host.Outcome State Fault Refusal :=
  .next (finish (receive rx (fun s => if addressed target s then restartBlocks s else s) s))

end Sys2Proof.Machine
end

