-- ==== Sys2Proof/Machine/Received.lean ====
section
/-! DEFINITION. The frames of other stations, bad and malformed frames and number conflicts: MARK_RECEIVED, ALERT_RECEIVED,
OFFER_RECEIVED, SCENE_RECEIVED, SPEED_RECEIVED, FETCH_RECEIVED, PRESENCE_RECEIVED, CLEAR_FAULTS, CLEAR_STICKY, CLEAR_COUNTS,
REST_RECEIVED, ANSWER_RECEIVED, CHECK_ERROR, MALFORMED_FRAME, NUMBER_CONFLICT (R44, R59 to R72, R158, R159, R164, R166, R173,
R176, R182). -/

namespace Sys2Proof.Machine

/-- A frame passed to its block, with what follows every command. -/
def received (rx : Reception) (handle : State → State) (s : State) : State := finish (receive rx handle s)

/-! ### MARK -/

/-- The cycle timer starts again for its full duration unless it is STOPPED (R44, R46). -/
def restartCycle (s : State) : State :=
  match s.cycle.cycle with
  | .stopped => s
  | .running _ => startCycle s
  | .markQueued => startCycle s

/-- The cycle number is adopted (R44, R46). -/
def adoptNumber (cycle : CycleNumber) (s : State) : State := { s with cycle := { s.cycle with number := cycle } }

/-- A MARK at the Cycle Timer (R44). -/
def takeMark (cycle : CycleNumber) (order : MarkOrder) (s : State) : State :=
  markEvent order (restartCycle
    (adoptNumber cycle { s with link := s.link.withdraw FrameBody.isMark }))

/-- MARK_RECEIVED (R44). -/
def execMarkReceived (rx : Reception) (cycle : CycleNumber) (order : MarkOrder) (s : State) :
    Host.Outcome State Fault Refusal :=
  .next (received rx (takeMark cycle order) s)

/-! ### ALERT, OFFER, SCENE, SPEED, FETCH, ANSWER -/

/-- ALERT_RECEIVED: counted in alerts received (R166, R171). -/
def execAlertReceived (rx : Reception) (s : State) : Host.Outcome State Fault Refusal :=
  .next (received rx (State.count LinkCounters.addAlert) s)

/-- OFFER_RECEIVED: taken by the Scene Agreement Unit, then seen by the Speed Compensation Unit (R23, R88; log entry 21). -/
def execOfferReceived (rx : Reception) (offer : Offer) (s : State) : Host.Outcome State Fault Refusal :=
  .next (received rx (fun s => watchOffer offer (takeOffer rx.sender offer s)) s)

/-- SCENE_RECEIVED (R14, R19, R32, R33, R37). -/
def execSceneReceived (rx : Reception) (scene : Scene) (s : State) : Host.Outcome State Fault Refusal :=
  .next (received rx (takeScene scene) s)

/-- SPEED_RECEIVED (R77). The outcome does not depend on the order of the wake and the SPEED (R76): in RESTING the offer check
finds nothing due, and the next check after the wake decides afresh (R89; log entry 37). -/
def execSpeedReceived (rx : Reception) (speed : Nat) (valid : Bool) (s : State) : Host.Outcome State Fault Refusal :=
  .next (received ⟨rx.sender, false⟩ (takeSpeed rx.sender speed valid) s)

/-- FETCH_RECEIVED (R30). -/
def execFetchReceived (rx : Reception) (wanted : Option Generation) (s : State) : Host.Outcome State Fault Refusal :=
  .next (received rx (takeFetch wanted) s)

/-- ANSWER_RECEIVED: passed to no block (R166). -/
def execAnswerReceived (rx : Reception) (s : State) : Host.Outcome State Fault Refusal :=
  .next (received rx (fun s => s) s)

/-! ### PRESENCE -/

/-- A change of kind to or from ZONE. -/
def zoneChange (a b : Kind) : Bool := decide (a = .zone) != decide (b = .zone)

/-- A recorded PRESENCE raises a peer change notice over the entry it finds (R68). -/
def peerChanged (before : PeerEntry) (r : Report) : Bool :=
  match before with
  | .self => false
  | .absent => decide (r.kind = .zone) && !r.roster.isEmpty
  | .known life old _ =>
    decide (life = .lost) || (decide (r.kind = .zone) && decide (r.roster ≠ old.roster)) ||
      (zoneChange old.kind r.kind && (!r.roster.isEmpty || !old.roster.isEmpty))

/-- The gap review mark is set (R68, R96). -/
def askGapReview (s : State) : State := { s with planner := { s.planner with gapReview := true } }

/-- The generation report of a recorded PRESENCE (R70). -/
def reportGeneration (r : Report) (s : State) : State :=
  match r.kind, r.applied with
  | .zone, some (g, d) => takeReport g d s
  | _, _ => s

/-- A report is recorded in its sender's entry, and the notices follow (R60, R61, R68 to R71). -/
def recordReport (n : Station) (r : Report) (s : State) : State :=
  let before := s.peers.entries.get n
  if before = .self then s
  else
    let now := PeerEntry.known .active r 0
    let s1 := { s with peers := { s.peers with entries := s.peers.entries.set n now } }
    let s2 := if peerChanged before r then askGapReview s1 else s1
    let s3 := if countedDemand before = countedDemand now then s2 else reviewDemand s2
    reportGeneration r s3

/-- A PRESENCE at the Peer Table: one that fails the check of R59 is discarded (R59, R60, R74). -/
def takePresence (n : Station) (f : PresenceFrame) (s : State) : State :=
  match presenceReport f with
  | none => s
  | some r => recordReport n r s

/-- PRESENCE_RECEIVED (R60). -/
def execPresenceReceived (rx : Reception) (frame : PresenceFrame) (s : State) : Host.Outcome State Fault Refusal :=
  .next (received rx (takePresence rx.sender frame) s)

/-! ### CLEAR -/

/-- The record of a cleared channel (R158). -/
def FaultRecord.cleared (r : FaultRecord) : FaultRecord := { r with state := .clear, retryTimer := none, retriesUsed := 0 }

/-- The DC_OFFSET condition of a cleared channel (R158). -/
def Condition.afterClearing (c : Condition) : Condition := if c.present then ⟨false, 1⟩ else c

/-- A change of the offset condition of one channel. -/
def State.setOffset (n : Channel) (c : Condition) (s : State) : State :=
  { s with protection := { s.protection with
    conditions := { s.protection.conditions with offset := s.protection.conditions.offset.set n c } } }

/-- CLEAR_FAULTS on one channel; one absent from the roster, or already CLEAR, is left as it was (R158; log entry 20). -/
def clearChannel (n : Channel) (s : State) : State :=
  let r := s.protection.records.get n
  if inRoster s n ∧ r.state ≠ .clear then
    releaseFaultClaim n
      ((s.setRecord n r.cleared).setOffset n (s.protection.conditions.offset.get n).afterClearing)
  else s

/-- CLEAR_FAULTS on the named channels (R158). -/
def clearChannels (channels : PerChannel Bool) (s : State) : State :=
  allChannels.foldl (fun s n => if channels.get n then clearChannel n s else s) s

/-- CLEAR_FAULTS (R158, R176). -/
def execClearFaults (rx : Reception) (target : Nat) (channels : PerChannel Bool) (s : State) :
    Host.Outcome State Fault Refusal :=
  .next (received rx (fun s => if addressed target s then clearChannels channels s else s) s)

/-- The sticky flags after CLEAR_STICKY: a named kind keeps its flag only while its fault is active (R159). -/
def stickyAfter (kinds active sticky : PerFault Bool) : PerFault Bool :=
  .of fun f => sticky.get f && (!kinds.get f || active.get f)

/-- CLEAR_STICKY (R159, R176). -/
def execClearSticky (rx : Reception) (target : Nat) (kinds : PerFault Bool) (s : State) :
    Host.Outcome State Fault Refusal :=
  .next (received rx
    (fun s =>
      if addressed target s then
        { s with protection :=
          { s.protection with sticky := stickyAfter kinds s.protection.active s.protection.sticky } }
      else s) s)

/-- All twelve link counters and the occurrence counts are set to 0 (R159, R171, R176). -/
def clearCounts (s : State) : State :=
  { s with
    link := { s.link with counters := .zero }
    equaliser := { s.equaliser with lateSwaps := 0 }
    protection := { s.protection with records := s.protection.records.map fun r => { r with occurrences := 0 } } }

/-- CLEAR_COUNTS (R159, R171, R176). -/
def execClearCounts (rx : Reception) (target : Nat) (s : State) : Host.Outcome State Fault Refusal :=
  .next (received rx (fun s => if addressed target s then clearCounts s else s) s)

/-! ### REST -/

/-- A REST taken in READY, STABILISING or RAIL_UP (R182, R183). Soon after a wake out of RAIL_DOWN a fade may still run in RAIL_UP or
STABILISING, under a RAIL claim of kind SOFT, where R182 takes that claim to be HARD and every channel to be silent. That the claim
then stays SOFT, as R178 has it, and the controller waits for the silence, is the model's choice (log entry 47). -/
def restFromRail (s : State) : State :=
  let s1 := leaveReady .soft (placeAll .rest .soft s)
  { s1 with controller :=
    { s1.controller with station := .railDown, stabiliseTimer := none, railGoodTimer := none } }

/-- A REST taken while the wake line is not asserted (R182). -/
def takeRest (s : State) : State :=
  match s.controller.station with
  | .ready | .stabilising | .railUp => restFromRail s
  | .quiet | .shutdown => enterResting { s with controller := { s.controller with railRetryTimer := none } }
  | .starting | .unconfigured | .railDown | .resting | .conflict => s

/-- A REST at the Station Controller: refused and counted while the wake line is asserted (R182). -/
def handleRest (wakeAsserted : Bool) (s : State) : State :=
  if wakeAsserted then s.count LinkCounters.addRestRefused else takeRest s

/-- The level of the wake line as the command brings it (log entry 13). -/
def withWakeLine (level : Bool) (s : State) : State := { s with pins := { s.pins with wakeLine := level } }

/-- REST_RECEIVED (R182); a REST is not reported as a frame heard (R166). -/
def execRestReceived (rx : Reception) (wakeAsserted : Bool) (s : State) : Host.Outcome State Fault Refusal :=
  .next (finish (receiveUnheard rx.sender (handleRest wakeAsserted) (withWakeLine wakeAsserted s)))

/-! ### Bad and malformed frames, and number conflicts -/

/-- CHECK_ERROR: the acknowledge slot is left alone, one check error is counted, and the frame is discarded (R164). -/
def execCheckError (s : State) : Host.Outcome State Fault Refusal :=
  .next { s with link :=
    { s.link.lineFrameEnded with acknowledging := false, counters := s.link.counters.addCheckError } }

/-- MALFORMED_FRAME: acknowledged, heard, examined for a number conflict, and passed to no block (R164). -/
def execMalformedFrame (sender : Station) (s : State) : Host.Outcome State Fault Refusal :=
  .next (finish (receiveUnheard sender (fun s => s) s))

/-- NUMBER_CONFLICT: a frame with the own station number that the station did not send (R173). -/
def execNumberConflict (s : State) : Host.Outcome State Fault Refusal :=
  .next (finish (receiveUnheard (own s) (fun s => s) s))

end Sys2Proof.Machine
end

