-- ==== Sys2Proof/Machine/Inputs.lean ====
section
/-! DEFINITION. The sense scan, the amplifier flags, rail-good, the controller's timers and the wake line: SENSE_SLOT,
OVERCURRENT_FLAG, CLIP_FLAG, RAIL_GOOD_ARRIVAL to WAKE_LINE_RISE (R144 to R146, R150, R153, R154, R156, R180, R181, R183, R184,
R186). -/

namespace Sys2Proof.Machine

/-! ### The sense scan -/

/-- The temperature is judged (R146). -/
def judgesTemperature (s : State) : Bool := decide (s.controller.station ≠ .unconfigured)

/-- The fault a condition stands for takes its turn: it becomes active when recognised, if `enabled`, and inactive when
cleared (R156). -/
def turnFault (f : StationFault) (enabled : Bool) (clear : State → State) (t : ConditionTurn) (s : State) : State :=
  match t with
  | .unchanged => s
  | .recognised => if enabled then raiseFault f s else s
  | .cleared => clear s

/-- A temperature reading feeds THERMAL_WARN and THERMAL_SHUT together (R145, R156). -/
def judgeTemperature (v : Int) (s : State) : State :=
  let p := s.loader.image.protection
  let c := s.protection.conditions
  let w := c.thermalWarn.advance (decide (p.warnThreshold ≤ v)) (decide (v ≤ p.warnThreshold - 5))
  let h := c.thermalShut.advance (decide (p.shutThreshold ≤ v)) (decide (v ≤ p.shutThreshold - 10))
  turnFault .thermalShut true (clearThermalFault .thermalShut) h.2
    (turnFault .thermalWarn (decide (p.warnMode ≠ .ignore)) (clearThermalFault .thermalWarn) w.2
      { s with protection := { s.protection with conditions := { c with thermalWarn := w.1, thermalShut := h.1 } } })

/-- A rail reading, in 0.1 V, feeds RAIL_SAG, RAIL_LOW and RAIL_HIGH together; RAIL_LOW clears only while rail-good is
present (R145, R146, R156). RAIL_LOW acts last, since its request closes the rail window (log entry 5). -/
def judgeRail (v : Int) (s : State) : State :=
  let p := s.loader.image.protection
  let c := s.protection.conditions
  let g := c.railSag.advance (decide (v < p.sagThreshold)) (decide (p.sagThreshold + 5 ≤ v))
  let l := c.railLow.advance (decide (v < p.lowThreshold)) (decide (p.lowThreshold + 5 ≤ v) && s.pins.railGood)
  let h := c.railHigh.advance (decide (p.highThreshold < v)) (decide (v ≤ p.highThreshold - 5))
  turnFault .railLow true (clearRailFault .railLow) l.2
    (turnFault .railHigh (decide (p.railHighMode = .enable)) (clearRailFault .railHigh) h.2
      (turnFault .railSag true (clearRailFault .railSag) g.2
        { s with protection :=
          { s.protection with conditions := { c with railSag := g.1, railLow := l.1, railHigh := h.1 } } }))

/-- One more fault recorded on the channel (R148). -/
def FaultRecord.struck (r : FaultRecord) : FaultRecord := { r with occurrences := countUp 255 r.occurrences }

/-- A fault in mode REPORT on a record in CLEAR or REPORTED: the record is REPORTED for it; the ALERT follows a change of
state (R150, R153, R160). -/
def reportFault (fault : ChannelFault) (n : Channel) (s : State) : State :=
  let r := s.protection.records.get n
  let s' := s.setRecord n { r with state := .reported, lastFault := some fault }
  if r.state = .reported then s' else queueAlert (.channel fault n) (.record .reported) s'

/-- A recognised DC_OFFSET on a DUCKING record in mode LATCH (R153, R160; log entry 19). -/
def offsetOnDip (kind : SilencingKind) (n : Channel) (s : State) : State :=
  let r := s.protection.records.get n
  let s1 := s.setRecord n { r with lastFault := some .dcOffset }
  let s2 :=
    if r.lastFault = some .dcOffset then s1 else queueAlert (.channel .dcOffset n) (.record .ducking) s1
  placeClaim .fault kind n s2

/-- A recognised DC_OFFSET on a RETRY_WAIT record in mode LATCH (R153, R160). -/
def offsetOnWait (kind : SilencingKind) (n : Channel) (s : State) : State :=
  let r := s.protection.records.get n
  placeClaim .fault kind n
    (queueAlert (.channel .dcOffset n) (.record .latched)
      (s.setRecord n { r with state := .latched, lastFault := some .dcOffset, retryTimer := none }))

/-- The table of R153 for mode LATCH. -/
def latchOffset (kind : SilencingKind) (n : Channel) (s : State) : State :=
  match (s.protection.records.get n).state with
  | .clear | .reported => silenceChannel .dcOffset kind .latched n s
  | .ducking => offsetOnDip kind n s
  | .retryWait => offsetOnWait kind n s
  | .latched => s

/-- The table of R153 for mode REPORT. -/
def reportOffset (n : Channel) (s : State) : State :=
  match (s.protection.records.get n).state with
  | .clear | .reported => reportFault .dcOffset n s
  | .ducking | .retryWait | .latched => s

/-- DC_OFFSET is recognised on a channel (R153). -/
def offsetRecognised (n : Channel) (s : State) : State :=
  let s' := s.setRecord n (s.protection.records.get n).struck
  match s.loader.image.protection.dcOffsetMode with
  | .latch => latchOffset s.loader.image.protection.dcOffsetKind n s'
  | .report => reportOffset n s'
  | .ignore => s

/-- An offset reading, in mV, feeds the DC_OFFSET condition of its channel (R145, R153). -/
def judgeOffset (n : Channel) (v : Int) (s : State) : State :=
  let p := s.loader.image.protection
  let a := (s.protection.conditions.offset.get n).advance (decide (p.offsetThreshold < v)) (decide (v ≤ p.offsetThreshold / 2))
  let s' := s.setOffset n a.1
  match a.2 with
  | .unchanged => s'
  | .recognised => offsetRecognised n s'
  | .cleared => s'.setRecord n (s'.protection.records.get n).offsetClears

/-- The channel whose offset a slot reads: slots 2 to 9 are channels 0 to 7 (R144). -/
def slotChannel (slot : Fin 10) : Option Channel := if h : 2 ≤ slot.val then some ⟨slot.val - 2, by omega⟩ else none

/-- The latest reading of a slot is kept for the responder (R144); offsets are magnitudes. -/
def Readings.keep (slot : Fin 10) (v : Int) (r : Readings) : Readings :=
  match slotChannel slot with
  | some n => { r with offset := r.offset.set n (some (v.natAbs : Int)) }
  | none => if slot = 0 then { r with rail := some v } else { r with temperature := some v }

/-- The reading of a slot is handed to the condition that watches it, where it is judged (R144, R146). -/
def judgeSlot (slot : Fin 10) (v : Int) (s : State) : State :=
  match slotChannel slot with
  | some n => if railWindow s && inRoster s n then judgeOffset n (v.natAbs : Int) s else s
  | none =>
    if slot = 0 then if railWindow s then judgeRail v s else s
    else if judgesTemperature s then judgeTemperature v s else s

/-- The reading is kept and the scan moves to the next slot (R144). -/
def slotRead (slot : Fin 10) (v : Int) (s : State) : State :=
  { s with protection :=
    { s.protection with readings := s.protection.readings.keep slot v, scan := some (slot + 1) } }

/-- SENSE_SLOT: the slot at the scan position ends with a reading (R144). While the scan is stopped there is none. -/
def execSenseSlot (reading : Int) (s : State) : Host.Outcome State Fault Refusal :=
  .next
    (match s.protection.scan with
    | some slot => finish (judgeSlot slot reading (slotRead slot reading s))
    | none => s)

/-! ### Amplifier flags -/

/-- Where an OVERCURRENT leads: LATCHED in mode LATCH or with the budget spent, else RETRY_WAIT (R150). -/
def overcurrentDestination (mode : OvercurrentMode) (retriesUsed : Nat) : RecordState :=
  if mode = .latch ∨ retriesUsed = 4 then .latched else .retryWait

/-- An OVERCURRENT on a record in CLEAR or REPORTED (R150). -/
def overcurrentStrikes (n : Channel) (s : State) : State :=
  let p := s.loader.image.protection
  match p.overcurrentMode with
  | .report => reportFault .overcurrent n s
  | .latch | .retry =>
    silenceChannel .overcurrent p.overcurrentKind
      (overcurrentDestination p.overcurrentMode (s.protection.records.get n).retriesUsed) n s
  | .ignore => s

/-- The count rises and the budget timer starts again (R150). -/
def FaultRecord.overloaded (r : FaultRecord) : FaultRecord := { r.struck with budgetTimer := some (ms 10000) }

/-- A roster channel's overcurrent flag, in a mode other than IGNORE (R150). -/
def takeOvercurrent (n : Channel) (s : State) : State :=
  let r := s.protection.records.get n
  let s' := s.setRecord n r.overloaded
  match r.state with
  | .clear | .reported => overcurrentStrikes n s'
  | .ducking | .retryWait | .latched => s'

/-- OVERCURRENT_FLAG (R150, R161). -/
def execOvercurrentFlag (n : Channel) (s : State) : Host.Outcome State Fault Refusal :=
  .next
    (if flagsTaken s ∧ inRoster s n ∧ s.loader.image.protection.overcurrentMode ≠ .ignore then
      finish (takeOvercurrent n s)
    else s)

/-- A clip flag in mode REPORT (R154). -/
def reportClip (n : Channel) (s : State) : State :=
  let r := s.protection.records.get n
  let s' := s.setRecord n r.struck
  match r.state with
  | .clear => reportFault .clip n s'
  | .reported | .ducking | .retryWait | .latched => s'

/-- The clip contribution after a flag: the fall timer starts again, and the contribution rises when the guard allows
(R154). -/
def Protection.clipped (p : Protection) : Protection :=
  if p.riseGuard = none ∧ p.clip < 24 then
    { p with clip := p.clip + 1, riseGuard := some (ms 100), clipFall := some (ms 1000) }
  else { p with clipFall := some (ms 1000) }

/-- A clip flag in mode LIMIT (R154, R155, R160). -/
def limitClip (n : Channel) (s : State) : State :=
  let s' := withDemand (fun s => { s with protection := s.protection.clipped }) s
  if s.protection.clip = 0 ∧ s'.protection.clip = 1 then queueAlert (.channel .clip n) .limiting s' else s'

/-- A roster channel's clip flag by the CLIP mode (R154). -/
def takeClip (n : Channel) (s : State) : State :=
  match s.loader.image.protection.clipMode with
  | .limit => limitClip n s
  | .report => reportClip n s
  | .ignore => s

/-- CLIP_FLAG (R154, R161). -/
def execClipFlag (n : Channel) (s : State) : Host.Outcome State Fault Refusal :=
  .next (if flagsTaken s ∧ inRoster s n then finish (takeClip n s) else s)

/-! ### The rail -/

/-- RAIL_GOOD_ARRIVAL: in RAIL_UP with the rail-good timer running the station enters STABILISING (R180). -/
def execRailGoodArrival (s : State) : Host.Outcome State Fault Refusal :=
  .next
    (let s' := { s with pins := { s.pins with railGood := true } }
    if s.controller.station = .railUp ∧ s.controller.railGoodTimer.isSome then finish (enterStabilising s') else s')

/-- RAIL_LOW becomes PRESENT at once, with count 0 (R146). -/
def lowPresent (s : State) : State :=
  { s with protection :=
    { s.protection with conditions := { s.protection.conditions with railLow := ⟨true, 0⟩ } } }

/-- RAIL_GOOD_LOSS: within the rail window RAIL_LOW becomes PRESENT and its fault active (R146, R156). -/
def execRailGoodLoss (s : State) : Host.Outcome State Fault Refusal :=
  .next
    (let s' := { s with pins := { s.pins with railGood := false } }
    if railWindow s then finish (raiseFault .railLow (lowPresent s')) else s')

/-- The rail has failed: the station goes to QUIET with the retry timer running (R180). -/
def railFailed (s : State) : State :=
  raiseFault .railFail
    { s with controller :=
      { s.controller with station := .quiet, rail := .off, railGoodTimer := none, railRetryTimer := some (ms 1000) } }

/-- RAIL_GOOD_TIMER_EXPIRY (R156, R180). -/
def execRailGoodTimerExpiry (s : State) : Host.Outcome State Fault Refusal :=
  .next
    (if s.controller.station = .railUp ∧ s.controller.railGoodTimer.isSome then finish (railFailed s) else s)

/-- RAIL_RETRY_TIMER_EXPIRY (R180). -/
def execRailRetryTimerExpiry (s : State) : Host.Outcome State Fault Refusal :=
  .next
    (if s.controller.station = .quiet ∧ s.controller.railRetryTimer.isSome then finish (enterRailUp s) else s)

/-- STABILISE_TIMER_EXPIRY (R181). -/
def execStabiliseTimerExpiry (s : State) : Host.Outcome State Fault Refusal :=
  .next
    (if s.controller.station = .stabilising ∧ s.controller.stabiliseTimer.isSome then finish (enterReady s) else s)

/-- DOWN_TIMER_EXPIRY (R183). -/
def execDownTimerExpiry (s : State) : Host.Outcome State Fault Refusal :=
  .next
    (if s.controller.station = .railDown ∧ s.controller.downTimer.isSome then
      finish (enterResting { s with controller := { s.controller with downTimer := none } })
    else s)

/-! ### The wake line -/

/-- A rising wake line ends a rest in RAIL_DOWN (R183). -/
def endRest (s : State) : State := enterRailUp (removeAll .rest s)

/-- A rising wake line gives a station in CONFLICT a fresh start (R144, R156, R170, R186). That REST claims held since before the
CONFLICT stay, as every claim that R186 does not name, is the model's choice (log entry 42). -/
def freshStart (s : State) : State :=
  let s1 := unmarkFault .numberConflict (removeAll .conflict s)
  { s1 with
    controller := { s1.controller with station := .starting }
    loader := { s1.loader with freshStart := true }
    link := { s1.link with conflictReported := false }
    protection := { s1.protection with scan := none } }

/-- A rising wake line by the station state (R183, R184, R186, R187). -/
def takeWakeLine (s : State) : State :=
  match s.controller.station with
  | .resting => wake s
  | .railDown => endRest s
  | .conflict => freshStart s
  | .starting | .unconfigured | .quiet | .railUp | .stabilising | .ready | .shutdown => s

/-- WAKE_LINE_RISE (R184). -/
def execWakeLineRise (s : State) : Host.Outcome State Fault Refusal := .next (finish (takeWakeLine (withWakeLine true s)))

end Sys2Proof.Machine
end

