-- ==== Sys2Proof/Machine/OwnFrames.lean ====
section
/-! DEFINITION. The own frames on the line: FRAME_START, ARBITRATION_LOST, OWN_MARK_COMPLETE, OWN_OFFER_COMPLETE,
OWN_PRESENCE_COMPLETE, OWN_FRAME_COMPLETE, LINE_TIME_OUT (R10, R45 to R47, R53, R87, R163 to R165, R170). -/

namespace Sys2Proof.Machine

/-- The first waiting frame goes into transmission (R163). -/
def Link.start (l : Link) : Link :=
  match l.waiting with
  | [] => l
  | f :: rest => { l with waiting := rest, sending := some ⟨f, false⟩ }

/-- FRAME_START: with the link free, the first waiting frame of the queue is started in a state that starts frames
(R163, R170). -/
def execFrameStart (s : State) : Host.Outcome State Fault Refusal :=
  .next (if startsFrames s ∧ s.link.sending = none then { s with link := s.link.lineFrameEnded.start } else s)

/-- What the end of a frame does to its block, and what follows it: nothing when the block has been restarted since (R170). -/
def unlessOrphan (f : SendingFrame) (effect : State → State) (s : State) : State :=
  if f.orphan then s else finish (effect s)

/-- The frame that dropped out waits again at its place, unless the station no longer sends: then it has ended (R163, R170; log
entry 16). Of MARKs and of PRESENCEs one alone may wait (R167): that a frame which was in transmission on entering RESTING, and drops
out after a wake at which the next of its kind was queued, leaves its place to that one is the model's choice (log entry 45). -/
def waitAgain (f : QueuedFrame) (s : State) : State :=
  if admitsFrames s then
    if s.link.waits (FrameBody.sharesPlace f.body) then s
    else { s with link := { s.link with waiting := insertFrame { f with lostArbitration := true } s.link.waiting } }
  else frameEnds f.body s

/-- The own frame is on the line no longer, and one more arbitration is lost (R163, R171). -/
def droppedOut (s : State) : State :=
  { s with link := { s.link with sending := none, counters := s.link.counters.addArbitrationLost } }

/-- ARBITRATION_LOST (R163). A frame whose block has been restarted has ended (log entry 16). -/
def execArbitrationLost (s : State) : Host.Outcome State Fault Refusal :=
  .next
    (match s.link.sending with
    | none => s
    | some f => unlessOrphan f (waitAgain f.frame) (droppedOut s))

/-- The counters that a completed own frame adds to (R164, R171). -/
def LinkCounters.addCompleted (acknowledged : Bool) (k : LinkCounters) : LinkCounters :=
  if acknowledged then k.addSent else k.addSent.addNotAcknowledged

/-- The own frame has completed: counted and removed from the queue (R164). -/
def completed (acknowledged : Bool) (s : State) : State :=
  let l := s.link.lineFrameEnded
  { s with link := { l with sending := none, counters := l.counters.addCompleted acknowledged } }

/-- The own MARK has completed at the Cycle Timer; nothing in STARTING (R46, R48, R49). -/
def ownMark (cycle : CycleNumber) (order : MarkOrder) (s : State) : State :=
  if s.controller.station = .starting then s else markEvent order (restartCycle (adoptNumber cycle s))

/-- OWN_MARK_COMPLETE (R46). -/
def execOwnMarkComplete (acknowledged : Bool) (order : MarkOrder) (s : State) : Host.Outcome State Fault Refusal :=
  .next
    (match s.link.sending with
    | some f =>
      match f.frame.body with
      | .mark cycle => unlessOrphan f (ownMark cycle order) (completed acknowledged s)
      | .alert _ | .offer _ | .scene _ | .fetch _ | .presence _ | .answer _ => s
    | none => s)

/-- OWN_OFFER_COMPLETE: the own OFFER reaches the own Scene Agreement Unit, and its end is followed by the offer check
(R10, R87). -/
def execOwnOfferComplete (acknowledged : Bool) (s : State) : Host.Outcome State Fault Refusal :=
  .next
    (match s.link.sending with
    | some f =>
      match f.frame.body with
      | .offer o => unlessOrphan f (fun s => offerEnds (takeOffer (own s) o s)) (completed acknowledged s)
      | .mark _ | .alert _ | .scene _ | .fetch _ | .presence _ | .answer _ => s
    | none => s)

/-- OWN_PRESENCE_COMPLETE: the presence timer starts again for 100 ms (R53). -/
def execOwnPresenceComplete (acknowledged : Bool) (s : State) : Host.Outcome State Fault Refusal :=
  .next
    (match s.link.sending with
    | some f =>
      match f.frame.body with
      | .presence _ => unlessOrphan f presenceEnds (completed acknowledged s)
      | .mark _ | .alert _ | .offer _ | .scene _ | .fetch _ | .answer _ => s
    | none => s)

/-- OWN_FRAME_COMPLETE: an own SCENE, FETCH, ALERT or ANSWER completes; its block takes no action (R164). -/
def execOwnFrameComplete (acknowledged : Bool) (s : State) : Host.Outcome State Fault Refusal :=
  .next
    (match s.link.sending with
    | some f =>
      match f.frame.body with
      | .alert _ | .scene _ | .fetch _ | .answer _ => completed acknowledged s
      | .mark _ | .offer _ | .presence _ => s
    | none => s)

/-- The frames a line time-out abandons whose blocks take notice: the one in transmission, and those that lost arbitration in
the frame that timed out (R165). -/
def abandonedFrames (l : Link) : List FrameBody :=
  (match l.sending with
    | some f => if f.orphan then [] else [f.frame.body]
    | none => []) ++
    (l.waiting.filter QueuedFrame.lostArbitration).map QueuedFrame.body

/-- The queue after a line time-out (R165). -/
def Link.timedOut (l : Link) : Link :=
  { l with
    sending := none
    waiting := l.waiting.filter fun f => !f.lostArbitration
    counters := l.counters.addLineTimeOut }

/-- LINE_TIME_OUT (R47, R53, R87, R165). -/
def execLineTimeOut (s : State) : Host.Outcome State Fault Refusal :=
  .next ((abandonedFrames s.link).foldl (fun s b => frameEnds b s) { s with link := s.link.timedOut })

end Sys2Proof.Machine
end

