-- ==== Sys2Proof/Machine/Probes.lean ====
section
/-! DEFINITION. The responder's answers to PROBE: PROBE_SCENE_APPLIED to PROBE_UNKNOWN_ITEM (R15, R73, R90, R109, R127, R143,
R162, R168, R174, R175, R188). -/

namespace Sys2Proof.Machine

/-- A running timer's time left in whole ms (log entry 18). -/
def msLeft (t : Timer) : Option Nat := t.map (· / 4)

/-! ### Contents of the items -/

/-- Item SCENE_APPLIED (R15). -/
def sceneAppliedContents (s : State) : AnswerContents := .sceneApplied s.scene.applied

/-- Item SCENE_STAGED (R15). -/
def sceneStagedContents (s : State) : AnswerContents :=
  match s.scene.staged with
  | some sc => .sceneStaged sc
  | none => .noSuchItem

/-- Item PENDING (R15). -/
def pendingContents (s : State) : AnswerContents :=
  if recordHeld s.scene.pending then .pending s.scene.pending (leadingProposer s.scene.pending) else .noSuchItem

/-- What PEER n shows of an entry (R73). -/
def peerContents : PeerEntry → AnswerContents
  | .absent => .noSuchItem
  | .self => .peer .self
  | .known life report age => .peer (.known life report (age / 4))

/-- The station number an index gives. -/
def stationOf (n : Nat) : Option Station := if h : n < 16 then some ⟨n, h⟩ else none

/-- Item PEER n (R73). -/
def peerItemContents (index : Nat) (s : State) : AnswerContents :=
  match stationOf index with
  | some n => peerContents (s.peers.entries.get n)
  | none => .noSuchItem

/-- The Gain Planner's part of item CHANNEL n: a channel absent from the roster shows the silent target, no class and no
components (R109), whatever a fresh start under another roster has left of it (log entry 34). -/
def plannerPart (n : Channel) (s : State) : PlannedChannel :=
  match descriptorOf s.loader.image n with
  | some _ => s.planner.channels.get n
  | none => ⟨.silent, none, none⟩

/-- Item CHANNEL n (R109, R127, R143, R162, R175). -/
def channelItem (n : Channel) (s : State) : ChannelItem :=
  let p := plannerPart n s
  let r := s.ramps.get n
  let f := s.protection.records.get n
  { descriptor := descriptorOf s.loader.image n
    handedTarget := p.handedTarget, handedClass := p.handedClass, components := p.components
    currentGain := r.currentGain, target := r.target, rateClass := r.rateClass, claims := r.claims, phase := r.phase
    duckLevel := r.duckLevel, holdMsLeft := msLeft r.holdTimer
    activeBank := s.equaliser.active.get n, shadowBank := s.equaliser.shadow.get n, standing := s.equaliser.standing n
    record := f.state, lastFault := f.lastFault, occurrences := f.occurrences, retriesUsed := f.retriesUsed
    retryMsLeft := msLeft f.retryTimer, budgetMsLeft := msLeft f.budgetTimer
    offsetReading := s.protection.readings.offset.get n, offsetCondition := s.protection.conditions.offset.get n }

/-- Item CHANNEL by index. -/
def channelItemContents (index : Nat) (s : State) : AnswerContents :=
  match channelOf index with
  | some n => .channel (channelItem n s)
  | none => .noSuchItem

/-- Item STATION (R109, R127, R143, R162, R175, R188). -/
def stationItem (s : State) : StationItem :=
  let c := s.controller
  let q := s.equaliser
  let m := s.protection
  { station := c.station, rail := c.rail, stop := c.stop, wakeLine := s.pins.wakeLine, railGood := s.pins.railGood
    railGoodMsLeft := msLeft c.railGoodTimer, stabiliseMsLeft := msLeft c.stabiliseTimer, downMsLeft := msLeft c.downTimer
    railRetryMsLeft := msLeft c.railRetryTimer
    cabinCut := s.planner.cut, settleRunning := s.planner.settleTimer.isSome, fallReady := s.planner.fallReady
    gapSet := s.planner.gapSet, duckState := s.planner.duck
    allSilent := allSilent s
    bypass := q.bypass, activeSettings := q.activeSettings, preparation := q.state, preparedSettings := q.prepared
    preparationList := q.list, swapDue := q.swapDue
    faultsActive := m.active, faultsSticky := m.sticky
    ownDemand := ownDemand s, clipContribution := m.clip, thermalContribution := thermalContribution s
    sagContribution := sagContribution s, riseGuardRunning := m.riseGuard.isSome, clipFallRunning := m.clipFall.isSome
    railReading := m.readings.rail, temperatureReading := m.readings.temperature
    thermalWarnCondition := m.conditions.thermalWarn, thermalShutCondition := m.conditions.thermalShut
    railSagCondition := m.conditions.railSag, railLowCondition := m.conditions.railLow
    railHighCondition := m.conditions.railHigh
    isolated := s.link.isolated, isolationMsLeft := msLeft s.link.isolationTimer
    conflictReported := s.link.conflictReported
    sendingKind := s.link.sendingBody.map FrameBody.kind
    waitingKinds := s.link.waiting.map fun f => f.body.kind }

/-- Item LINK_COUNTS: the twelve counters in the order of R171 (R175). -/
def linkCountsItem (s : State) : LinkCountsItem :=
  let k := s.link.counters
  { framesSent := k.framesSent, notAcknowledged := k.notAcknowledged, arbitrationLost := k.arbitrationLost
    checkErrors := k.checkErrors, lineTimeOuts := k.lineTimeOuts, queueDrops := k.queueDrops
    alertsReceived := k.alertsReceived, offersRefused := k.offersRefused, staleOffers := k.staleOffers
    failedResyncs := k.failedResyncs, lateSwaps := s.equaliser.lateSwaps, restsRefused := k.restsRefused }

/-- Item SPEED (R90). That the age is rounded down to whole ms is the model's choice (log entry 18). -/
def speedItem (s : State) : SpeedItem :=
  let u := s.speed
  { state := u.state
    source := u.source.map SpeedSource.station
    lastSpeed := u.source.map SpeedSource.lastSpeed
    ageMs := u.source.map fun r => r.age / 4
    desiredStep := u.desired }

/-! ### The answer -/

/-- The ANSWER to a PROBE (R174). -/
def answerTo (requester : Station) (p : Probe) (selector : ItemSelector) (contents : AnswerContents) : FrameBody :=
  .answer ⟨requester, p.tag, selector, p.index, contents⟩

/-- The responder takes a PROBE: only one for the own number, and only while fewer than 4 ANSWERs are held (R168, R174). -/
def respond (requester : Station) (p : Probe) (selector : ItemSelector) (contents : State → AnswerContents) (s : State) :
    State :=
  if p.target = (own s).val then
    if 4 ≤ s.link.answersHeld then { s with link := s.link.countDrop }
    else giveFrame (answerTo requester p selector (contents s)) s
  else s

/-- A PROBE received, with what follows every command. -/
def probed (rx : Reception) (p : Probe) (selector : ItemSelector) (contents : State → AnswerContents) (s : State) :
    State :=
  received rx (respond rx.sender p selector contents) s

/-- PROBE_SCENE_APPLIED (R15, R174). -/
def execProbeSceneApplied (rx : Reception) (p : Probe) (s : State) : Host.Outcome State Fault Refusal :=
  .next (probed rx p .sceneApplied sceneAppliedContents s)

/-- PROBE_SCENE_STAGED (R15, R174). -/
def execProbeSceneStaged (rx : Reception) (p : Probe) (s : State) : Host.Outcome State Fault Refusal :=
  .next (probed rx p .sceneStaged sceneStagedContents s)

/-- PROBE_PENDING (R15, R174). -/
def execProbePending (rx : Reception) (p : Probe) (s : State) : Host.Outcome State Fault Refusal :=
  .next (probed rx p .pending pendingContents s)

/-- PROBE_PEER (R73, R174). -/
def execProbePeer (rx : Reception) (p : Probe) (s : State) : Host.Outcome State Fault Refusal :=
  .next (probed rx p .peer (peerItemContents p.index) s)

/-- PROBE_CHANNEL (R109, R127, R143, R162, R174). -/
def execProbeChannel (rx : Reception) (p : Probe) (s : State) : Host.Outcome State Fault Refusal :=
  .next (probed rx p .channel (channelItemContents p.index) s)

/-- PROBE_STATION (R174, R175, R188). -/
def execProbeStation (rx : Reception) (p : Probe) (wakeAsserted : Bool) (s : State) : Host.Outcome State Fault Refusal :=
  .next (probed rx p .station (fun s => .station (stationItem s)) (withWakeLine wakeAsserted s))

/-- PROBE_LINK_COUNTS (R171, R174). -/
def execProbeLinkCounts (rx : Reception) (p : Probe) (s : State) : Host.Outcome State Fault Refusal :=
  .next (probed rx p .linkCounts (fun s => .linkCounts (linkCountsItem s)) s)

/-- PROBE_SPEED (R90, R174). -/
def execProbeSpeed (rx : Reception) (p : Probe) (s : State) : Host.Outcome State Fault Refusal :=
  .next (probed rx p .speed (fun s => .speed (speedItem s)) s)

/-- PROBE_CONFIG (R174, R175). -/
def execProbeConfig (rx : Reception) (p : Probe) (s : State) : Host.Outcome State Fault Refusal :=
  .next (probed rx p .config (fun s => .config s.loader.item) s)

/-- PROBE_UNKNOWN_ITEM: answered with NO_SUCH_ITEM (R174). -/
def execProbeUnknownItem (rx : Reception) (p : Probe) (selector : ItemSelector) (s : State) :
    Host.Outcome State Fault Refusal :=
  .next (probed rx p selector (fun _ => .noSuchItem) s)

end Sys2Proof.Machine
end

