-- ==== Sys2Proof/Machine/Timers.lean ====
section
/-! DEFINITION. The timers and ages of the link, the scene, the peers, the speed, the gains, the ramps, the banks and the
protection: CYCLE_TIMER_EXPIRY to PREPARATION_TIMER_EXPIRY, RISE_GUARD_EXPIRY to BUDGET_TIMER_EXPIRY (R21, R38, R43, R52, R63,
R64, R78, R79, R86, R100, R102, R112, R120, R136, R152, R154, R172). An expiry whose timer does not run leaves the state
(log entry 3); so does an event of an age that has not come so far (R65, R78; log entry 2). -/

namespace Sys2Proof.Machine

/-- CYCLE_TIMER_EXPIRY: a MARK with the next cycle number is queued (R43). -/
def execCycleTimerExpiry (s : State) : Host.Outcome State Fault Refusal :=
  .next
    (match s.cycle.cycle with
    | .running _ => giveFrame (.mark (s.cycle.number + 1)) { s with cycle := { s.cycle with cycle := .markQueued } }
    | .stopped => s
    | .markQueued => s)

/-- PRESENCE_TIMER_EXPIRY (R52). -/
def execPresenceTimerExpiry (s : State) : Host.Outcome State Fault Refusal :=
  .next
    (match s.cycle.presence with
    | .running _ => presenceRunsOut s
    | .stopped => s
    | .presenceQueued => s)

/-- JOIN_WINDOW_EXPIRY (R21). -/
def execJoinWindowExpiry (s : State) : Host.Outcome State Fault Refusal :=
  .next (if s.scene.joinWindow.isSome then finish (joinWindowEnds s) else s)

/-- FETCH_TIMER_EXPIRY (R38). -/
def execFetchTimerExpiry (s : State) : Host.Outcome State Fault Refusal := .next (fetchTimerEnds s)

/-- An entry of the Peer Table changed. -/
def State.setPeer (n : Station) (e : PeerEntry) (s : State) : State :=
  { s with peers := { s.peers with entries := s.peers.entries.set n e } }

/-- PEER_SILENT: an ACTIVE entry's age reaches 300 ms (R63); no age advances while ISOLATED is set (R62). An entry whose age has
not come that far, as when a PRESENCE is taken first (R65), stays ACTIVE. -/
def execPeerSilent (n : Station) (s : State) : Host.Outcome State Fault Refusal :=
  .next
    (match s.link.isolated, s.peers.entries.get n with
    | false, .known .active r age => if ms 300 ≤ age then s.setPeer n (.known .silent r age) else s
    | _, _ => s)

/-- An entry becomes LOST, with its notices (R64, R68, R69, R71). -/
def peerIsLost (n : Station) (r : Report) (age : Nat) (s : State) : State :=
  let s1 := askGapReview (s.setPeer n (.known .lost r age))
  if r.kind = .zone then reviewDemand s1 else s1

/-- PEER_LOST: a SILENT entry's age reaches 1000 ms; the peer change notice, and for a zone entry the demand change notice
(R64, R65). -/
def execPeerLost (n : Station) (s : State) : Host.Outcome State Fault Refusal :=
  .next
    (match s.link.isolated, s.peers.entries.get n with
    | false, .known .silent r age => if ms 1000 ≤ age then finish (peerIsLost n r age s) else s
    | _, _ => s)

/-- SPEED_STALE: the age of the speed source reaches 500 ms in FRESH (R78, R79). A SPEED taken first leaves the source FRESH. -/
def execSpeedStale (s : State) : Host.Outcome State Fault Refusal :=
  .next
    (if s.speed.isOld then
      checkIfChanged s.speed.desired { s with speed := s.speed.goesStale s.loader.image.stalePolicy }
    else s)

/-- FALL_TIMER_EXPIRY (R79), by the stale policy of the image in use. -/
def execFallTimerExpiry (s : State) : Host.Outcome State Fault Refusal :=
  .next
    (if s.speed.fallTimer.isSome then
      checkIfChanged s.speed.desired { s with speed := s.speed.falls s.loader.image.stalePolicy }
    else s)

/-- OFFER_SPACING_EXPIRY (R86). -/
def execOfferSpacingExpiry (s : State) : Host.Outcome State Fault Refusal :=
  .next
    (if s.speed.spacingTimer.isSome then offerCheck { s with speed := { s.speed with spacingTimer := none } } else s)

/-- SETTLE_TIMER_EXPIRY (R100). -/
def execSettleTimerExpiry (s : State) : Host.Outcome State Fault Refusal :=
  .next
    (if s.planner.settleTimer.isSome then
      { s with planner := { s.planner with settleTimer := none, fallReady := true } }
    else s)

/-- DUCK_TIMER_EXPIRY (R102). -/
def execDuckTimerExpiry (s : State) : Host.Outcome State Fault Refusal :=
  .next
    (if s.planner.duck = .waiting ∧ s.planner.duckTimer.isSome then
      finish (handTargets .scene { s with planner := { s.planner with duck := .on, duckTimer := none } })
    else s)

/-- ISOLATION_TIMER_EXPIRY (R172). -/
def execIsolationTimerExpiry (s : State) : Host.Outcome State Fault Refusal :=
  .next
    (if s.link.isolationTimer.isSome then
      duckFlagSet { s with link := { s.link with isolated := true, isolationTimer := none } }
    else s)

/-- STEP_TIMER_EXPIRY (R112, R118, R119, R120). -/
def execStepTimerExpiry (n : Channel) (s : State) : Host.Outcome State Fault Refusal :=
  .next
    (if (s.ramps.get n).stepTimer.isSome then
      finish (applyRamp n ((s.ramps.get n).step s.loader.image.duckHold) s)
    else s)

/-- DUCK_HOLD_EXPIRY (R120). -/
def execDuckHoldExpiry (n : Channel) (s : State) : Host.Outcome State Fault Refusal :=
  .next
    (if (s.ramps.get n).holdTimer.isSome then finish (applyRamp n (s.ramps.get n).holdEnds s) else s)

/-- PREPARATION_TIMER_EXPIRY (R136); nothing in STARTING (R141; log entry 17). -/
def execPreparationTimerExpiry (s : State) : Host.Outcome State Fault Refusal :=
  .next
    (if s.controller.station = .starting then s
    else { s with equaliser := s.equaliser.channelPrepared s.loader.image })

/-- RISE_GUARD_EXPIRY (R154). -/
def execRiseGuardExpiry (s : State) : Host.Outcome State Fault Refusal :=
  .next (if s.protection.riseGuard.isSome then { s with protection := { s.protection with riseGuard := none } } else s)

/-- The clip contribution falls by 1 (R154). -/
def Protection.clipFalls (p : Protection) : Protection :=
  { p with clip := p.clip - 1, clipFall := if 1 < p.clip then some (ms 1000) else none }

/-- CLIP_FALL_TIMER_EXPIRY (R154, R155). -/
def execClipFallTimerExpiry (s : State) : Host.Outcome State Fault Refusal :=
  .next
    (if s.protection.clipFall.isSome then
      finish (withDemand (fun s => { s with protection := s.protection.clipFalls }) s)
    else s)

/-- The record after a retry (R152). -/
def FaultRecord.retried (r : FaultRecord) : FaultRecord :=
  { r with state := .clear, retryTimer := none, retriesUsed := countUp 4 r.retriesUsed }

/-- RETRY_TIMER_EXPIRY (R149, R152). -/
def execRetryTimerExpiry (n : Channel) (s : State) : Host.Outcome State Fault Refusal :=
  .next
    (let r := s.protection.records.get n
    if r.state = .retryWait ∧ r.retryTimer.isSome then finish (releaseFaultClaim n (s.setRecord n r.retried)) else s)

/-- BUDGET_TIMER_EXPIRY (R152). -/
def execBudgetTimerExpiry (n : Channel) (s : State) : Host.Outcome State Fault Refusal :=
  .next
    (let r := s.protection.records.get n
    if r.budgetTimer.isSome then s.setRecord n { r with retriesUsed := 0, budgetTimer := none } else s)

end Sys2Proof.Machine
end

