-- ==== Sys2Proof/Machine/Dispatch.lean ====
section
/-! DEFINITION. The meaning of each command. -/

namespace Sys2Proof.Machine

/-- The effect of a command on everything but the queue. -/
def exec (i : Instr) (s : State) : Host.Outcome State Fault Refusal :=
  match i with
  | .powerOn => Sys2Proof.Machine.execPowerOn s
  | .startComplete straps image selfTest => Sys2Proof.Machine.execStartComplete straps image selfTest s
  | .markReceived rx cycle order => Sys2Proof.Machine.execMarkReceived rx cycle order s
  | .alertReceived rx => Sys2Proof.Machine.execAlertReceived rx s
  | .offerReceived rx offer => Sys2Proof.Machine.execOfferReceived rx offer s
  | .sceneReceived rx scene => Sys2Proof.Machine.execSceneReceived rx scene s
  | .speedReceived rx speed valid => Sys2Proof.Machine.execSpeedReceived rx speed valid s
  | .fetchReceived rx wanted => Sys2Proof.Machine.execFetchReceived rx wanted s
  | .presenceReceived rx frame => Sys2Proof.Machine.execPresenceReceived rx frame s
  | .clearFaults rx target channels => Sys2Proof.Machine.execClearFaults rx target channels s
  | .clearSticky rx target kinds => Sys2Proof.Machine.execClearSticky rx target kinds s
  | .clearCounts rx target => Sys2Proof.Machine.execClearCounts rx target s
  | .restart rx target => Sys2Proof.Machine.execRestart rx target s
  | .restReceived rx wakeAsserted => Sys2Proof.Machine.execRestReceived rx wakeAsserted s
  | .probeSceneApplied rx probe => Sys2Proof.Machine.execProbeSceneApplied rx probe s
  | .probeSceneStaged rx probe => Sys2Proof.Machine.execProbeSceneStaged rx probe s
  | .probePending rx probe => Sys2Proof.Machine.execProbePending rx probe s
  | .probePeer rx probe => Sys2Proof.Machine.execProbePeer rx probe s
  | .probeChannel rx probe => Sys2Proof.Machine.execProbeChannel rx probe s
  | .probeStation rx probe wakeAsserted => Sys2Proof.Machine.execProbeStation rx probe wakeAsserted s
  | .probeLinkCounts rx probe => Sys2Proof.Machine.execProbeLinkCounts rx probe s
  | .probeSpeed rx probe => Sys2Proof.Machine.execProbeSpeed rx probe s
  | .probeConfig rx probe => Sys2Proof.Machine.execProbeConfig rx probe s
  | .probeUnknownItem rx probe selector => Sys2Proof.Machine.execProbeUnknownItem rx probe selector s
  | .answerReceived rx => Sys2Proof.Machine.execAnswerReceived rx s
  | .checkError => Sys2Proof.Machine.execCheckError s
  | .malformedFrame sender => Sys2Proof.Machine.execMalformedFrame sender s
  | .numberConflict => Sys2Proof.Machine.execNumberConflict s
  | .frameStart => Sys2Proof.Machine.execFrameStart s
  | .arbitrationLost => Sys2Proof.Machine.execArbitrationLost s
  | .ownMarkComplete acknowledged order => Sys2Proof.Machine.execOwnMarkComplete acknowledged order s
  | .ownOfferComplete acknowledged => Sys2Proof.Machine.execOwnOfferComplete acknowledged s
  | .ownPresenceComplete acknowledged => Sys2Proof.Machine.execOwnPresenceComplete acknowledged s
  | .ownFrameComplete acknowledged => Sys2Proof.Machine.execOwnFrameComplete acknowledged s
  | .lineTimeOut => Sys2Proof.Machine.execLineTimeOut s
  | .cycleTimerExpiry => Sys2Proof.Machine.execCycleTimerExpiry s
  | .presenceTimerExpiry => Sys2Proof.Machine.execPresenceTimerExpiry s
  | .joinWindowExpiry => Sys2Proof.Machine.execJoinWindowExpiry s
  | .fetchTimerExpiry => Sys2Proof.Machine.execFetchTimerExpiry s
  | .peerSilent station => Sys2Proof.Machine.execPeerSilent station s
  | .peerLost station => Sys2Proof.Machine.execPeerLost station s
  | .speedStale => Sys2Proof.Machine.execSpeedStale s
  | .fallTimerExpiry => Sys2Proof.Machine.execFallTimerExpiry s
  | .offerSpacingExpiry => Sys2Proof.Machine.execOfferSpacingExpiry s
  | .settleTimerExpiry => Sys2Proof.Machine.execSettleTimerExpiry s
  | .duckTimerExpiry => Sys2Proof.Machine.execDuckTimerExpiry s
  | .isolationTimerExpiry => Sys2Proof.Machine.execIsolationTimerExpiry s
  | .stepTimerExpiry channel => Sys2Proof.Machine.execStepTimerExpiry channel s
  | .duckHoldExpiry channel => Sys2Proof.Machine.execDuckHoldExpiry channel s
  | .preparationTimerExpiry => Sys2Proof.Machine.execPreparationTimerExpiry s
  | .senseSlot reading => Sys2Proof.Machine.execSenseSlot reading s
  | .overcurrentFlag channel => Sys2Proof.Machine.execOvercurrentFlag channel s
  | .clipFlag channel => Sys2Proof.Machine.execClipFlag channel s
  | .riseGuardExpiry => Sys2Proof.Machine.execRiseGuardExpiry s
  | .clipFallTimerExpiry => Sys2Proof.Machine.execClipFallTimerExpiry s
  | .retryTimerExpiry channel => Sys2Proof.Machine.execRetryTimerExpiry channel s
  | .budgetTimerExpiry channel => Sys2Proof.Machine.execBudgetTimerExpiry channel s
  | .railGoodArrival => Sys2Proof.Machine.execRailGoodArrival s
  | .railGoodLoss => Sys2Proof.Machine.execRailGoodLoss s
  | .railGoodTimerExpiry => Sys2Proof.Machine.execRailGoodTimerExpiry s
  | .railRetryTimerExpiry => Sys2Proof.Machine.execRailRetryTimerExpiry s
  | .stabiliseTimerExpiry => Sys2Proof.Machine.execStabiliseTimerExpiry s
  | .downTimerExpiry => Sys2Proof.Machine.execDownTimerExpiry s
  | .wakeLineRise => Sys2Proof.Machine.execWakeLineRise s

end Sys2Proof.Machine
end

