-- ==== Sys2Proof/Machine/Tick.lean ====
section
/-! DEFINITION. What an idle step does: time passes by one quarter millisecond, or the first expiry that has come due is put in
the queue (log entry 1). -/

namespace Sys2Proof.Machine

/-- A running timer with one quarter millisecond less to go. -/
def Timer.tick (t : Sys2Proof.Timer) : Sys2Proof.Timer := t.map fun n => n - 1

/-- A running timer has come to its end. -/
def Timer.over (t : Sys2Proof.Timer) : Bool := decide (t = some 0)

/-- An age one quarter millisecond later, saturating at 65535 ms (R57, R62, R75). -/
def ageTick (age : Nat) : Nat := min (age + 1) (ms 65535)

def CycleTimerState.tick : CycleTimerState → CycleTimerState
  | .running n => .running (n - 1)
  | .stopped => .stopped
  | .markQueued => .markQueued

def PresenceTimerState.tick : PresenceTimerState → PresenceTimerState
  | .running n => .running (n - 1)
  | .stopped => .stopped
  | .presenceQueued => .presenceQueued

/-- An entry's age advances (R62). -/
def entryTick : PeerEntry → PeerEntry
  | .known life r age => .known life r (ageTick age)
  | .absent => .absent
  | .self => .self

/-- The ages of the peers stand still while ISOLATED is set (R62). -/
def peersTick (isolated : Bool) (p : PeerTable) : PeerTable :=
  if isolated then p else { p with entries := p.entries.map entryTick }

def SceneUnit.tick (u : SceneUnit) : SceneUnit :=
  { u with joinWindow := Timer.tick u.joinWindow, fetch := u.fetch.map fun f => { f with timer := f.timer - 1 } }

def SpeedUnit.tick (u : SpeedUnit) : SpeedUnit :=
  { u with
    source := u.source.map fun r => { r with age := ageTick r.age }
    fallTimer := Timer.tick u.fallTimer
    spacingTimer := Timer.tick u.spacingTimer }

def Planner.tick (p : Planner) : Planner :=
  { p with settleTimer := Timer.tick p.settleTimer, duckTimer := Timer.tick p.duckTimer }

def RampRecord.tick (r : RampRecord) : RampRecord :=
  { r with stepTimer := Timer.tick r.stepTimer, holdTimer := Timer.tick r.holdTimer }

def FaultRecord.tick (r : FaultRecord) : FaultRecord :=
  { r with retryTimer := Timer.tick r.retryTimer, budgetTimer := Timer.tick r.budgetTimer }

def Protection.tick (p : Protection) : Protection :=
  { p with
    records := p.records.map FaultRecord.tick
    riseGuard := Timer.tick p.riseGuard
    clipFall := Timer.tick p.clipFall }

def Controller.tick (c : Controller) : Controller :=
  { c with
    railGoodTimer := Timer.tick c.railGoodTimer
    stabiliseTimer := Timer.tick c.stabiliseTimer
    downTimer := Timer.tick c.downTimer
    railRetryTimer := Timer.tick c.railRetryTimer }

/-- One quarter millisecond passes: every running timer comes nearer to its end, and every age that advances grows. -/
def timePasses (s : State) : State :=
  { s with
    link := { s.link with isolationTimer := Timer.tick s.link.isolationTimer }
    cycle := { s.cycle with cycle := s.cycle.cycle.tick, presence := s.cycle.presence.tick }
    peers := peersTick s.link.isolated s.peers
    scene := s.scene.tick
    speed := s.speed.tick
    planner := s.planner.tick
    ramps := s.ramps.map RampRecord.tick
    equaliser := { s.equaliser with timer := Timer.tick s.equaliser.timer }
    protection := s.protection.tick
    controller := s.controller.tick }

/-- The command, if its time has come. -/
def dueIf (c : Instr) (b : Bool) : List Instr := if b then [c] else []

/-- The ages that have come due for a station number (R63, R64). -/
def dueOfPeer (s : State) (n : Station) : List Instr :=
  match s.link.isolated, s.peers.entries.get n with
  | false, .known .active _ age => dueIf (.peerSilent n) (decide (ms 300 ≤ age))
  | false, .known .silent _ age => dueIf (.peerLost n) (decide (ms 1000 ≤ age))
  | _, _ => []

/-- The station is in STARTING, where the timers of the Scene Agreement Unit and of the Equaliser Bank wait (log entry 17). -/
def inStart (s : State) : Bool := decide (s.controller.station = .starting)

/-- The expiries of the channels that have come due. -/
def dueOfChannel (s : State) (n : Channel) : List Instr :=
  let r := s.ramps.get n
  let f := s.protection.records.get n
  dueIf (.stepTimerExpiry n) (Timer.over r.stepTimer) ++
    dueIf (.duckHoldExpiry n) (Timer.over r.holdTimer && decide (r.phase = .holding)) ++
    dueIf (.retryTimerExpiry n) (Timer.over f.retryTimer && decide (f.state = .retryWait)) ++
    dueIf (.budgetTimerExpiry n) (Timer.over f.budgetTimer)

/-- The expiries of the station's own blocks that have come due. -/
def dueOfStation (s : State) : List Instr :=
  let c := s.controller
  dueIf .cycleTimerExpiry (decide (s.cycle.cycle = .running 0)) ++
    dueIf .presenceTimerExpiry (decide (s.cycle.presence = .running 0)) ++
    dueIf .joinWindowExpiry
      (Timer.over s.scene.joinWindow && !inStart s && decide (c.station ≠ .unconfigured) &&
        decide (s.scene.unit = .provisional)) ++
    dueIf .fetchTimerExpiry
      (Timer.over (s.scene.fetch.map FetchState.timer) && !inStart s && decide (c.station ≠ .unconfigured) &&
        decide (s.scene.unit = .resync)) ++
    dueIf .speedStale s.speed.isOld ++
    dueIf .fallTimerExpiry (Timer.over s.speed.fallTimer) ++
    dueIf .offerSpacingExpiry (Timer.over s.speed.spacingTimer) ++
    dueIf .settleTimerExpiry (Timer.over s.planner.settleTimer) ++
    dueIf .duckTimerExpiry (Timer.over s.planner.duckTimer && decide (s.planner.duck = .waiting)) ++
    dueIf .isolationTimerExpiry (Timer.over s.link.isolationTimer) ++
    dueIf .preparationTimerExpiry
      (Timer.over s.equaliser.timer && !inStart s && decide (s.equaliser.state = .preparing) &&
        s.equaliser.position.isSome && s.equaliser.prepared.isSome) ++
    dueIf .riseGuardExpiry (Timer.over s.protection.riseGuard) ++
    dueIf .clipFallTimerExpiry (Timer.over s.protection.clipFall) ++
    dueIf .railGoodTimerExpiry (Timer.over c.railGoodTimer && decide (c.station = .railUp)) ++
    dueIf .railRetryTimerExpiry (Timer.over c.railRetryTimer && decide (c.station = .quiet)) ++
    dueIf .stabiliseTimerExpiry (Timer.over c.stabiliseTimer && decide (c.station = .stabilising)) ++
    dueIf .downTimerExpiry (Timer.over c.downTimer && decide (c.station = .railDown))

/-- Everything that has come due, in one fixed order (log entry 1). -/
def due (s : State) : List Instr :=
  dueOfStation s ++ allStations.flatMap (dueOfPeer s) ++ allChannels.flatMap (dueOfChannel s)

/-- An idle step: the first expiry that has come due goes into the queue; with none, a quarter millisecond passes. -/
def idle (s : State) : State :=
  match due s with
  | c :: _ => { s with pending := [c] }
  | [] => timePasses s

end Sys2Proof.Machine
end

