-- ==== Sys2Proof/Machine/Layout.lean ====
section
/-! DEFINITION. Frames as bytes: the key, the layouts of OFFER, SCENE and PRESENCE, the check, what a receiver makes of a
run of bytes, and which of two frames prevails on the line (R163, R164, R177). -/

namespace Sys2Proof.Machine

/-! ### Pieces -/

/-- The key of a frame: class rank x 16 + the sender's station number (R163). -/
def keyByte (kind : FrameKind) (n : Station) : Byte := BitVec.ofNat 8 (classRank kind * 16 + n.val)

/-- The class rank in a key. -/
def keyRank (b : Byte) : Nat := b.toNat / 16

/-- The station number in a key. -/
def keySender (b : Byte) : Station := ⟨b.toNat % 16, by omega⟩

/-- The high byte of a number of two bytes. -/
def highByte (w : BitVec 16) : Byte := w.extractLsb' 8 8

/-- The low byte of a number of two bytes. -/
def lowByte (w : BitVec 16) : Byte := w.extractLsb' 0 8

/-- A number of two bytes, high byte first. -/
def twoBytes (w : BitVec 16) : List Byte := [highByte w, lowByte w]

/-- The bytes of a frame with its check after them (R177). -/
def withCheck (bytes : List Byte) : List Byte := bytes ++ twoBytes (crc16 bytes)

/-- The byte of eight bits, the first given the most significant. -/
def byteOf (b7 b6 b5 b4 b3 b2 b1 b0 : Bool) : Byte :=
  BitVec.ofNat 8
    (128 * b7.toNat + 64 * b6.toNat + 32 * b5.toNat + 16 * b4.toNat + 8 * b3.toNat + 4 * b2.toNat + 2 * b1.toNat + b0.toNat)

/-- Two numbers of four bits in a byte, the first in bits 7 to 4. -/
def nibbles (hi lo : Nat) : Byte := BitVec.ofNat 8 (hi % 16 * 16 + lo % 16)

/-- The fields carried as signed bytes (R177). -/
def signedField : Field → Bool
  | .fade | .balance | .bass | .mid | .treble => true
  | .volume | .preset | .curve | .speedStep | .cabinMute => false

/-- The byte that carries a field's value; a negative value is carried as 256 plus the value (R177). -/
def fieldByte (v : Int) : Byte := BitVec.ofInt 8 v

/-- The value a field's byte carries (R177). -/
def fieldValue (f : Field) (b : Byte) : Int := if signedField f then b.toInt else b.toNat

/-! ### OFFER -/

/-- The byte of a field of the present set, and nothing for another field. -/
def fieldIfPresent : Option Int → List Byte
  | none => []
  | some v => [fieldByte v]

/-- The payload of an OFFER (R177). -/
def offerPayload (o : Offer) : List Byte :=
  let v := o.values
  twoBytes o.base ++
    [BitVec.ofNat 8 o.rank,
      byteOf false false false false false false v.volume.isSome v.fade.isSome,
      byteOf v.balance.isSome v.bass.isSome v.mid.isSome v.treble.isSome v.preset.isSome v.curve.isSome v.speedStep.isSome
        v.cabinMute.isSome] ++
    (fieldIfPresent v.volume ++ (fieldIfPresent v.fade ++ (fieldIfPresent v.balance ++ (fieldIfPresent v.bass ++
      (fieldIfPresent v.mid ++ (fieldIfPresent v.treble ++ (fieldIfPresent v.preset ++ (fieldIfPresent v.curve ++
        (fieldIfPresent v.speedStep ++ fieldIfPresent v.cabinMute)))))))))

/-- The next field of an OFFER's values, if its bit of the present set says that it is carried. -/
def readField (f : Field) (present : Bool) (l : List Byte) : Option (Option Int × List Byte) :=
  if present then
    match l with
    | b :: rest => some (some (fieldValue f b), rest)
    | [] => none
  else some (none, l)

/-- The ten values that a present set announces, with no byte left over. -/
def readValues (p1 p0 : Byte) (l0 : List Byte) : Option (PerField (Option Int)) := do
  let (volume, l1) ← readField .volume (p1.getLsbD 1) l0
  let (fade, l2) ← readField .fade (p1.getLsbD 0) l1
  let (balance, l3) ← readField .balance (p0.getLsbD 7) l2
  let (bass, l4) ← readField .bass (p0.getLsbD 6) l3
  let (mid, l5) ← readField .mid (p0.getLsbD 5) l4
  let (treble, l6) ← readField .treble (p0.getLsbD 4) l5
  let (preset, l7) ← readField .preset (p0.getLsbD 3) l6
  let (curve, l8) ← readField .curve (p0.getLsbD 2) l7
  let (speedStep, l9) ← readField .speedStep (p0.getLsbD 1) l8
  let (cabinMute, l10) ← readField .cabinMute (p0.getLsbD 0) l9
  if l10.isEmpty then some { volume, fade, balance, bass, mid, treble, preset, curve, speedStep, cabinMute } else none

/-- The payload of an OFFER read back; none when its length or a zero bit is wrong (R164, R177). -/
def readOffer : List Byte → Option Offer
  | g1 :: g0 :: rank :: p1 :: p0 :: values =>
    if p1.toNat < 4 then (readValues p1 p0 values).map fun v => ⟨g1 ++ g0, rank.toNat, v⟩ else none
  | _ => none

/-! ### SCENE -/

/-- The payload of a SCENE (R177). -/
def scenePayload (sc : Scene) : List Byte :=
  twoBytes sc.generation ++ sc.content.toList.map fieldByte ++ [nibbles 0 sc.origin.val] ++ twoBytes sc.digest

/-- The payload of a SCENE read back (R164, R177). -/
def readScene : List Byte → Option Scene
  | [g1, g0, volume, fade, balance, bass, mid, treble, preset, curve, speedStep, cabinMute, origin, d1, d0] =>
    if h : origin.toNat < 16 then
      some
        { generation := g1 ++ g0
          content :=
            { volume := fieldValue .volume volume, fade := fieldValue .fade fade, balance := fieldValue .balance balance,
              bass := fieldValue .bass bass, mid := fieldValue .mid mid, treble := fieldValue .treble treble,
              preset := fieldValue .preset preset, curve := fieldValue .curve curve,
              speedStep := fieldValue .speedStep speedStep, cabinMute := fieldValue .cabinMute cabinMute }
          origin := ⟨origin.toNat, h⟩
          digest := d1 ++ d0 }
    else none
  | _ => none

/-! ### PRESENCE -/

/-- The two bytes of each roster descriptor (R177). -/
def descriptorBytes : List RawPeerDescriptor → List Byte
  | [] => []
  | d :: rest => BitVec.ofNat 8 d.channel :: nibbles d.position d.role :: descriptorBytes rest

/-- Roster descriptors read back from pairs of bytes. -/
def readDescriptors : List Byte → Option (List RawPeerDescriptor)
  | [] => some []
  | [_] => none
  | c :: pr :: rest => (readDescriptors rest).map fun l => ⟨c.toNat, pr.toNat / 16, pr.toNat % 16⟩ :: l

/-- The payload of a PRESENCE (R177). -/
def presencePayload (f : PresenceFrame) : List Byte :=
  let r := f.records
  let x := f.faults
  [BitVec.ofNat 8 f.kind, BitVec.ofNat 8 f.state,
    byteOf false false false false false false f.staged.isSome f.appliedGeneration.isSome] ++
    twoBytes (f.appliedGeneration.getD 0) ++ twoBytes (f.appliedDigest.getD 0) ++ twoBytes (f.staged.getD 0) ++
    [BitVec.ofNat 8 f.demand, nibbles r.c0 r.c1, nibbles r.c2 r.c3, nibbles r.c4 r.c5, nibbles r.c6 r.c7,
      byteOf false false false false false false false x.numberConflict,
      byteOf x.configBad x.eqMemory x.railFail x.railHigh x.railLow x.railSag x.thermalShut x.thermalWarn,
      BitVec.ofNat 8 f.roster.length] ++
    descriptorBytes f.roster

/-- The payload of a PRESENCE read back (R164, R177). The bytes of an optional field whose presence bit is clear are not read:
that they need not be 0 for the frame to be well formed is the model's choice (log entry 38). -/
def readPresence : List Byte → Option PresenceFrame
  | kind :: state :: flags :: g1 :: g0 :: d1 :: d0 :: t1 :: t0 :: demand :: r0 :: r1 :: r2 :: r3 :: x1 :: x0 :: count ::
      roster =>
    if flags.toNat < 4 ∧ x1.toNat < 2 ∧ roster.length = 2 * count.toNat then
      (readDescriptors roster).map fun roster =>
        { kind := kind.toNat, state := state.toNat
          appliedGeneration := if flags.getLsbD 0 then some (g1 ++ g0) else none
          appliedDigest := if flags.getLsbD 0 then some (d1 ++ d0) else none
          staged := if flags.getLsbD 1 then some (t1 ++ t0) else none
          demand := demand.toNat
          records :=
            ⟨r0.toNat / 16, r0.toNat % 16, r1.toNat / 16, r1.toNat % 16, r2.toNat / 16, r2.toNat % 16, r3.toNat / 16,
              r3.toNat % 16⟩
          faults :=
            { thermalWarn := x0.getLsbD 0, thermalShut := x0.getLsbD 1, railSag := x0.getLsbD 2, railLow := x0.getLsbD 3,
              railHigh := x0.getLsbD 4, railFail := x0.getLsbD 5, eqMemory := x0.getLsbD 6, configBad := x0.getLsbD 7,
              numberConflict := x1.getLsbD 0 }
          roster }
    else none
  | _ => none

/-- The codes that carry a report (R54, R177). -/
def carried (r : Report) : PresenceFrame :=
  { kind := kindCode r.kind, state := stationCode r.state
    appliedGeneration := r.applied.map Prod.fst
    appliedDigest := r.applied.map Prod.snd
    staged := r.staged
    demand := r.demand
    records := r.records.map recordCode
    faults := r.faults
    roster := r.roster.map fun d => ⟨d.channel.val, positionCode d.position, roleCode d.role⟩ }

/-! ### Whole frames -/

/-- The bytes of an OFFER of station `n`. -/
def offerBytes (n : Station) (o : Offer) : List Byte := withCheck (keyByte .offer n :: offerPayload o)

/-- The bytes of a SCENE of station `n`. -/
def sceneBytes (n : Station) (sc : Scene) : List Byte := withCheck (keyByte .scene n :: scenePayload sc)

/-- The bytes of a PRESENCE of station `n`. -/
def presenceBytes (n : Station) (f : PresenceFrame) : List Byte := withCheck (keyByte .presence n :: presencePayload f)

/-- The bytes of an own frame, for the kinds whose layout the handbook gives; the others are given by their named fields
(R164, R177). -/
def bytesOf (n : Station) : FrameBody → Option (List Byte)
  | .offer o => some (offerBytes n o)
  | .scene sc => some (sceneBytes n sc)
  | .presence r => some (presenceBytes n (carried r))
  | .mark _ | .alert _ | .fetch _ | .answer _ => none

/-- What a receiver makes of the bytes of a frame (R164). A frame of a kind given by its named fields keeps its payload as
bytes. -/
inductive LineFrame where
  | badCheck
  | malformed (sender : Station)
  | offer (sender : Station) (offer : Offer)
  | scene (sender : Station) (scene : Scene)
  | presence (sender : Station) (frame : PresenceFrame)
  | named (kind : FrameKind) (sender : Station) (payload : List Byte)
deriving DecidableEq, Repr

/-- A payload that reads is a frame of its kind; one that does not is malformed. -/
def orMalformed {α : Type} (sender : Station) (f : Station → α → LineFrame) : Option α → LineFrame
  | some a => f sender a
  | none => .malformed sender

/-- The frame behind a key and payload whose check is good (R164). -/
def frameOf (key : Byte) (payload : List Byte) : LineFrame :=
  match kindOfRank (keyRank key) with
  | none => .malformed (keySender key)
  | some .offer => orMalformed (keySender key) .offer (readOffer payload)
  | some .scene => orMalformed (keySender key) .scene (readScene payload)
  | some .presence => orMalformed (keySender key) .presence (readPresence payload)
  | some kind => .named kind (keySender key) payload

/-- The frame that a run of bytes is to its receiver (R164). -/
def readFrame (bytes : List Byte) : LineFrame :=
  if endsWithCheck bytes then
    match bytes.take (bytes.length - 2) with
    | key :: payload => frameOf key payload
    | [] => .badCheck
  else .badCheck

/-- The command that a frame read from the line is to this station, for the kinds whose layout the handbook gives and for the
two kinds of which no block takes more than the sender (R166). The other named kinds bring fields whose places the handbook does
not give. -/
def LineFrame.command (wakeFirst : Bool) : LineFrame → Option Instr
  | .badCheck => some .checkError
  | .malformed sender => some (.malformedFrame sender)
  | .offer sender o => some (.offerReceived ⟨sender, wakeFirst⟩ o)
  | .scene sender sc => some (.sceneReceived ⟨sender, wakeFirst⟩ sc)
  | .presence sender f => some (.presenceReceived ⟨sender, wakeFirst⟩ f)
  | .named .alert sender _ => some (.alertReceived ⟨sender, wakeFirst⟩)
  | .named .answer sender _ => some (.answerReceived ⟨sender, wakeFirst⟩)
  | .named _ _ _ => none

/-! ### Arbitration -/

/-- The bits of a frame in the order sent, each byte's most significant bit first (R163). -/
def lineBits (bytes : List Byte) : List Bool := bytes.flatMap bitsOf

/-- The first frame drives a dominant 0 at the first bit in which the two differ, so that the second loses arbitration
(R163). -/
def prevails : List Bool → List Bool → Bool
  | a :: as, b :: bs => if a = b then prevails as bs else b
  | _, _ => false

end Sys2Proof.Machine
end

