-- ==== Sys2Proof/Safety.lean ====
section
/-! DEFINITION. The properties of a state that the handbook says always hold, each under the rule it comes from. -/

namespace Sys2Proof.Machine

/-- A channel is OPEN exactly when its silence-claim set is empty, and in phase SILENT its gain is silent (R110, R116, R117,
R123). -/
abbrev RampRecord.coherent (r : RampRecord) : Prop :=
  (r.phase = .open ↔ r.claims = .empty) ∧ (r.phase = .silent → r.currentGain = .silent)

/-- Every channel record is coherent. -/
abbrev rampsCoherent (s : State) : Prop := ∀ n, (s.ramps.get n).coherent

/-- The RAIL claim is held on every channel in every state but READY (R178). -/
abbrev railHeld (s : State) : Prop := s.controller.station ≠ .ready → ∀ n, (s.ramps.get n).claims.rail.isSome = true

/-- In RAIL_DOWN rail-enable is driven only while a roster channel sounds (R183). -/
abbrev railDownSounds (s : State) : Prop :=
  s.controller.station = .railDown → railEnable s = true → allSilent s = false

/-- The FAULT claim of a channel is held exactly while one of its two reasons holds (R149). -/
abbrev faultHeld (s : State) : Prop :=
  ∀ n, (s.ramps.get n).claims.fault.isSome =
    (channelReason (s.protection.records.get n) || s.protection.active.railHigh)

/-- The fetch state is present in RESYNC alone, with an attempt count of 1 to 3 (R16). -/
def SceneUnit.fetchFits (u : SceneUnit) : Prop :=
  (u.unit = .resync ↔ u.fetch.isSome = true) ∧ ∀ f, u.fetch = some f → 1 ≤ f.attempts ∧ f.attempts ≤ 3

/-- While PROVISIONAL the applied scene has no generation and the staged slot is empty; otherwise it has one (R18, R26). -/
def SceneUnit.provisionalFits (u : SceneUnit) : Prop :=
  (u.unit = .provisional ↔ u.applied.generation = none) ∧ (u.unit = .provisional → u.staged = none)

/-- The pending change record and the conflict record are held in AGREED alone (R16, R18, R36). -/
def SceneUnit.recordsFit (u : SceneUnit) : Prop :=
  u.unit ≠ .agreed → u.pending = emptyRecord ∧ u.conflict = none

/-- A staged scene's generation is newer than the applied one (R27). -/
def SceneUnit.stagedNewer (u : SceneUnit) : Prop :=
  ∀ sc g, u.staged = some sc → u.applied.generation = some g → newer sc.generation g = true

/-- Every scene held carries the digest of its content (R4). -/
def SceneUnit.digestsTrue (u : SceneUnit) : Prop :=
  u.applied.digest = digestOf u.applied.content ∧ ∀ sc, u.staged = some sc → sc.digest = digestOf sc.content

/-- What always holds of the Scene Agreement Unit. -/
def sceneCoherent (s : State) : Prop :=
  s.scene.fetchFits ∧ s.scene.provisionalFits ∧ s.scene.recordsFit ∧ s.scene.stagedNewer ∧ s.scene.digestsTrue

/-- Every held place of a pending change record holds a value in the range of its field (R9, R11). -/
def entriesInRange (p : PendingRecord) : Prop := ∀ f e, p.get f = some e → inRange f e.value = true

/-- Every scene held, the record that changes it and the start scene have each content field within its range (R1). -/
def scenesInRange (s : State) : Prop :=
  contentInRange s.scene.applied.content = true ∧
    (∀ sc, s.scene.staged = some sc → contentInRange sc.content = true) ∧ entriesInRange s.scene.pending ∧
    contentInRange s.loader.image.startScene = true

/-- The transmit queue holds at most 8 frames and at most 4 ANSWERs, the one in transmission included (R167, R168). -/
abbrev queueFits (s : State) : Prop := s.link.placesHeld ≤ 8 ∧ s.link.answersHeld ≤ 4

/-- The generations of the SCENEs the queue holds, the one in transmission included. -/
def Link.sceneGenerations (l : Link) : List Generation :=
  (l.sendingBody.toList ++ l.waiting.map QueuedFrame.body).filterMap fun b => match b with
    | .scene sc => some sc.generation
    | .mark _ | .alert _ | .offer _ | .fetch _ | .presence _ | .answer _ => none

/-- No two MARKs and no two PRESENCEs wait, and no two SCENEs held are of one generation (R167). -/
abbrev queueSingle (s : State) : Prop :=
  (s.link.waiting.filter fun f => f.body.isMark).length ≤ 1 ∧
    (s.link.waiting.filter fun f => f.body.isPresence).length ≤ 1 ∧ allDistinct s.link.sceneGenerations = true

/-- A fault record within its ranges, its retry timer running in RETRY_WAIT alone (R148, R151, R152). -/
abbrev FaultRecord.fits (r : FaultRecord) : Prop :=
  r.occurrences ≤ 255 ∧ r.retriesUsed ≤ 4 ∧ (r.state ≠ .retryWait → r.retryTimer = none)

/-- The timers of a fault record within their runs of 200 ms and 10 s (R148). -/
abbrev FaultRecord.timersFit (r : FaultRecord) : Prop := r.retryTimer.getD 0 ≤ 800 ∧ r.budgetTimer.getD 0 ≤ 40000

/-- The Protection Monitor's counts and timers within their ranges (R148, R154). -/
abbrev protectionFits (s : State) : Prop :=
  (∀ n, (s.protection.records.get n).fits ∧ (s.protection.records.get n).timersFit) ∧ s.protection.clip ≤ 24 ∧
    s.protection.riseGuard.getD 0 ≤ 400 ∧ s.protection.clipFall.getD 0 ≤ 4000

/-- Every waiting own PRESENCE carries the values of the moment (R54, R55). -/
def presenceFresh (s : State) : Prop := ∀ f ∈ s.link.waiting, ∀ r, f.body = .presence r → r = ownReport s

/-- The roster's channels differ, its ceilings are 0 dB or more, and no roster channel's handed target, target or current gain
exceeds its ceiling (R103, R108, R111). -/
abbrev underCeilings (s : State) : Prop :=
  allDistinct (s.loader.image.roster.map RosterEntry.channel) = true ∧
    ∀ d ∈ s.loader.image.roster, 0 ≤ d.ceiling ∧
      atOrBelow d.ceiling (s.planner.channels.get d.channel).handedTarget = true ∧
      atOrBelow d.ceiling (s.ramps.get d.channel).target = true ∧
      atOrBelow d.ceiling (s.ramps.get d.channel).currentGain = true

/-- While BYPASS is set nothing is prepared: the state is IDLE, every shadow bank empty, the swap-due mark clear (R140). -/
abbrev bypassIdle (s : State) : Prop :=
  s.equaliser.bypass = true →
    s.equaliser.state = .idle ∧ (∀ n, s.equaliser.shadow.get n = none) ∧ s.equaliser.swapDue = false

end Sys2Proof.Machine
end

