-- ==== Sys2Proof/Certificates/Slice0/Obligations.lean ====
section
/-! DEFINITION. The statements for the provers. Each docstring names the rules its clauses come from; a clause that rests on a
choice of the model names the log entry. -/

open Sys2Proof Sys2Proof.Machine

namespace Sys2Proof.Machine

/-- The station is in a state in which the Scene Agreement Unit listens (R17). -/
abbrev listening (s : State) : Prop := s.controller.station ≠ .starting ∧ s.controller.station ≠ .unconfigured

/-- A frame that is routed: the station is not STARTING and the sender's number is not the own (R166, R173). -/
abbrev routed (rx : Reception) (s : State) : Prop := s.controller.station ≠ .starting ∧ rx.sender ≠ s.loader.own

/-- The channel record after power-on (R110). -/
abbrev silentFromPowerOn (r : RampRecord) : Prop :=
  r = { currentGain := .silent, target := .silent, rateClass := .scene, stepTimer := none,
        claims := { provisional := some .hard, rail := some .hard, fault := none, rest := none, conflict := none },
        phase := .silent, duckLevel := none, holdTimer := none }

/-- Every controller timer is stopped. -/
abbrev controllerTimersStopped (c : Controller) : Prop :=
  c.railGoodTimer = none ∧ c.stabiliseTimer = none ∧ c.downTimer = none ∧ c.railRetryTimer = none

/-- The station state that entering RAIL_UP ends in (R180). -/
def railUpEnd (s : State) : StationState := if s.pins.railGood then .stabilising else .railUp

/-- A command answers a next state in whose transmit queue a frame with this content waits. -/
def queues (c : Instr) (s : State) (b : FrameBody) : Prop := ∃ t, exec c s = .next t ∧ ∃ f ∈ t.link.waiting, f.body = b

/-- The ten PROBE commands; STATION brings the level of the wake line, and the last a selector that names no item. -/
def probes (rx : Reception) (p : Probe) (level : Bool) (sel : ItemSelector) : List Instr :=
  [.probeSceneApplied rx p, .probeSceneStaged rx p, .probePending rx p, .probePeer rx p, .probeChannel rx p,
    .probeStation rx p level, .probeLinkCounts rx p, .probeSpeed rx p, .probeConfig rx p, .probeUnknownItem rx p sel]

/-- A MARK of another station. -/
def isMarkReceived : Instr → Bool
  | .markReceived _ _ _ => true
  | _ => false

/-- The command brings a mark event: a MARK of another station, or the own MARK in transmission that completes (R48). -/
def bringsMark (c : Instr) (s : State) : Prop :=
  (∃ rx cycle order, c = .markReceived rx cycle order ∧ rx.sender ≠ s.loader.own) ∨
    (∃ ack order cycle stamp lost, c = .ownMarkComplete ack order ∧
      s.link.sending = some ⟨⟨.mark cycle, stamp, lost⟩, false⟩)

/-- The station admits frames, and a place of its queue is free. -/
abbrev queueHasPlace (s : State) : Prop :=
  s.controller.station ≠ .starting ∧ s.controller.station ≠ .resting ∧ s.controller.station ≠ .conflict ∧
    s.link.placesHeld < 8

/-- A FETCH for the generation waits in the queue. -/
abbrev fetchWaits (g : Generation) (s : State) : Prop := ∃ f ∈ s.link.waiting, f.body = .fetch (some g)

/-- What the comparison of the greatest demand, as it is in `t`, with the cabin cut of `s` leaves in `t` (R99, R100). -/
abbrev cutFollows (s t : State) : Prop :=
  (s.planner.cut < greatestDemand t →
    t.planner.cut = greatestDemand t ∧ t.planner.settleTimer = none ∧ t.planner.fallReady = false) ∧
  (greatestDemand t = s.planner.cut →
    t.planner.cut = s.planner.cut ∧ t.planner.settleTimer = none ∧ t.planner.fallReady = false) ∧
  (greatestDemand t < s.planner.cut →
    t.planner.cut = s.planner.cut ∧ t.planner.fallReady = s.planner.fallReady ∧
    t.planner.settleTimer =
      if s.planner.settleTimer = none ∧ s.planner.fallReady = false then some 2000 else s.planner.settleTimer)

/-- Every roster channel holds the target its terms give as they stand (R104). -/
abbrev targetsCurrent (t : State) : Prop :=
  ∀ d ∈ t.loader.image.roster, (t.planner.channels.get d.channel).handedTarget = targetNow t d

/-- Every roster channel that `t` hands another target than `s` did has it handed with class `cls`, and the Ramp Engine holds it;
a silent target is left out of the last, since R114 lets it leave a silent channel as it was. -/
abbrev newTargetsHandedAt (cls : RateClass) (s t : State) : Prop :=
  ∀ d ∈ t.loader.image.roster,
    (t.planner.channels.get d.channel).handedTarget ≠ (s.planner.channels.get d.channel).handedTarget →
    (t.planner.channels.get d.channel).handedClass = some cls ∧
    ((t.planner.channels.get d.channel).handedTarget ≠ .silent →
      (t.ramps.get d.channel).target = (t.planner.channels.get d.channel).handedTarget)

/-- No ramp of a roster channel is in flight (R105). -/
abbrev noneInFlight (s : State) : Prop :=
  ∀ d ∈ s.loader.image.roster, (s.ramps.get d.channel).claims ≠ .empty ∨
    (s.ramps.get d.channel).currentGain = (s.planner.channels.get d.channel).handedTarget

/-- The two offers carry the same base generation and the same speed step (R88). -/
def sameStep (o w : Offer) : Bool :=
  decide (w.base = o.base) && o.values.speedStep.isSome && decide (w.values.speedStep = o.values.speedStep)

/-- The Peer Table shows no ACTIVE zone station with a number lower than the own (R31). -/
def noLowerZone (s : State) : Prop :=
  ∀ n r age, n < s.loader.own → s.peers.entries.get n = .known .active r age → r.kind ≠ .zone

/-- A SCENE with this record waits in the queue. -/
abbrev sceneWaits (sc : Scene) (s : State) : Prop := ∃ f ∈ s.link.waiting, f.body = .scene sc

/-- Every SCENE that waits in `t` waited in `s`. -/
def noSceneQueued (s t : State) : Prop :=
  ∀ f ∈ t.link.waiting, ∀ sc, f.body = .scene sc → sceneWaits sc s

/-- No SCENE is in transmission. -/
def noSceneInFlight (s : State) : Prop := ∀ x sc, s.link.sending = some x → x.frame.body ≠ .scene sc

/-- The step on announcing that leads from `s` to `t`, where `sc` is the applied scene (R31): with no lower zone station ACTIVE its
SCENE waits afterwards, if the queue has a place; and otherwise none is queued. No emptying of the Peer Table is due. -/
def announces (sc : Scene) (s t : State) : Prop :=
  s.peers.emptyingDue = false →
    (noLowerZone s → queueHasPlace s → noSceneInFlight s → sceneWaits sc t) ∧ (¬noLowerZone s → noSceneQueued s t)

/-- Every entry but SELF is ABSENT, and no emptying is due (R66). -/
def tableEmptied (s t : State) : Prop :=
  t.peers.emptyingDue = false ∧
    ∀ n, t.peers.entries.get n = if s.peers.entries.get n = .self then .self else .absent

/-- The seat positions beside a position, as the table of R97 lists them. -/
def beside : Position → List Position
  | .frontLeft => [.frontCentre, .middleLeft]
  | .frontCentre => [.frontLeft, .frontRight, .middleCentre]
  | .frontRight => [.frontCentre, .middleRight]
  | .middleLeft => [.frontLeft, .middleCentre, .rearLeft]
  | .middleCentre => [.frontCentre, .middleLeft, .middleRight, .rearCentre]
  | .middleRight => [.frontRight, .middleCentre, .rearRight]
  | .rearLeft => [.middleLeft, .rearCentre]
  | .rearCentre => [.middleCentre, .rearLeft, .rearRight]
  | .rearRight => [.middleRight, .rearCentre]
  | .cabin => []

/-- The rail is not released in RAIL_DOWN on the way from `s` to `t` (R183). -/
abbrev railKept (s t : State) : Prop := s.controller.station = .railDown → t.controller.rail = s.controller.rail

/-- Rail-enable is driven (R178). -/
abbrev railDriven (s : State) : Prop := s.controller.rail = .rising ∨ s.controller.rail = .up

/-- The rail window is open (R146). -/
abbrev windowOpen (s : State) : Prop :=
  railDriven s ∧
    (s.controller.station = .stabilising ∨ s.controller.station = .ready ∨ s.controller.station = .railDown)

/-- What the release of rail-enable in RAIL_DOWN leaves: the down timer has just been started, and the rail window has closed
(R146, R183). -/
abbrev railReleased (t : State) : Prop :=
  t.controller.station = .railDown ∧ t.controller.rail = .draining ∧ t.controller.downTimer = some 80 ∧
    t.protection.conditions.railSag = ⟨false, 0⟩ ∧ t.protection.conditions.railLow = ⟨false, 0⟩ ∧
    t.protection.conditions.railHigh = ⟨false, 0⟩ ∧ (∀ n, t.protection.conditions.offset.get n = ⟨false, 0⟩) ∧
    t.protection.active.railSag = false ∧ t.protection.active.railLow = false ∧ t.protection.active.railHigh = false

/-- Every roster channel but `n` is silent. -/
abbrev othersSilent (n : Channel) (s : State) : Prop :=
  ∀ d ∈ s.loader.image.roster, d.channel ≠ n → (s.ramps.get d.channel).currentGain = .silent

/-- A roster channel other than `n` still sounds. -/
abbrev anotherSounds (n : Channel) (s : State) : Prop :=
  ∃ d ∈ s.loader.image.roster, d.channel ≠ n ∧ (s.ramps.get d.channel).currentGain ≠ .silent

/-- The temperature `v` neither recognises THERMAL_SHUT nor clears it (R145). -/
abbrev shutStays (v : Int) (s : State) : Prop :=
  (s.protection.conditions.thermalShut.advance (decide (s.loader.image.protection.shutThreshold ≤ v))
    (decide (v ≤ s.loader.image.protection.shutThreshold - 10))).2 = .unchanged

/-- An ALERT with this content waits in the queue. -/
abbrev alertWaits (a : Alert) (s : State) : Prop := ∃ f ∈ s.link.waiting, f.body = .alert a

/-- Every ALERT that waits in `t` waited in `s`. -/
def noAlertQueued (s t : State) : Prop := ∀ f ∈ t.link.waiting, ∀ a, f.body = .alert a → alertWaits a s

/-- An entry that tells a demand: kind ZONE, ACTIVE or SILENT (R98). -/
abbrev demandTold (e : PeerEntry) (demand : Nat) : Prop :=
  ∃ life r age, e = .known life r age ∧ life ≠ .lost ∧ r.kind = .zone ∧ r.demand = demand

/-- What a frame heard from another station does to a set ISOLATED flag (R66, R102, R172): an emptying held over is made, with its
notices, and the duck ends. -/
abbrev isolationEnds (s t : State) : Prop :=
  s.link.isolated = true →
    (s.peers.emptyingDue = true →
      tableEmptied s t ∧ ((∃ n r age, s.peers.entries.get n = .known .lost r age) → t.planner.gapReview = true)) ∧
    (s.peers.emptyingDue = false → t.peers = s.peers) ∧
    t.planner.duck = .off ∧ (s.planner.duck ≠ .off → t.planner.duckTimer = none) ∧
    (railKept s t →
      (s.peers.emptyingDue = true → (∃ n demand, demandTold (s.peers.entries.get n) demand) → cutFollows s t) ∧
      (s.peers.emptyingDue = false ∨ (∀ n demand, ¬demandTold (s.peers.entries.get n) demand) →
        t.planner.cut = s.planner.cut ∧ t.planner.settleTimer = s.planner.settleTimer ∧
        t.planner.fallReady = s.planner.fallReady ∧
        (s.planner.duck ≠ .on → t.planner.channels = s.planner.channels ∧ t.ramps = s.ramps)) ∧
      (s.planner.duck = .on → s.scene.applied.generation ≠ none →
        allDistinct (s.loader.image.roster.map RosterEntry.channel) = true →
        targetsCurrent t ∧ (s.peers.emptyingDue = false → noneInFlight s → newTargetsHandedAt .scene s t)))

/-- A recorded report changes what the Gain Planner may take for gaps (R68): the entry leaves LOST, a ZONE roster differs from the one
held, or the kind turns to or from ZONE while either roster holds anything. An ABSENT entry holds no kind and no roster. -/
def gapNoticeDue (r : Report) : PeerEntry → Prop
  | .known life old _ =>
    life = .lost ∨ (r.kind = .zone ∧ r.roster ≠ old.roster) ∨
      (¬(r.kind = .zone ↔ old.kind = .zone) ∧ (r.roster ≠ [] ∨ old.roster ≠ []))
  | .absent => r.kind = .zone ∧ r.roster ≠ []
  | .self => False

/-- A running timer with one quarter millisecond less to go. -/
abbrev oneLess (t : Sys2Proof.Timer) : Sys2Proof.Timer := t.map fun k => k - 1

/-- The expiry commands of the station's own timers and ages that an idle step can find due. -/
def isTimed : Instr → Bool
  | .cycleTimerExpiry | .presenceTimerExpiry | .joinWindowExpiry | .fetchTimerExpiry | .peerSilent _ | .peerLost _
  | .speedStale | .fallTimerExpiry | .offerSpacingExpiry | .settleTimerExpiry | .duckTimerExpiry | .isolationTimerExpiry
  | .stepTimerExpiry _ | .duckHoldExpiry _ | .preparationTimerExpiry | .riseGuardExpiry | .clipFallTimerExpiry
  | .retryTimerExpiry _ | .budgetTimerExpiry _ | .railGoodTimerExpiry | .railRetryTimerExpiry | .stabiliseTimerExpiry
  | .downTimerExpiry => true
  | _ => false

/-- The frames received from another station that reach a block or the responder. -/
def isReception : Instr → Bool
  | .markReceived _ _ _ | .alertReceived _ | .offerReceived _ _ | .sceneReceived _ _ | .speedReceived _ _ _
  | .fetchReceived _ _ | .presenceReceived _ _ | .clearFaults _ _ _ | .clearSticky _ _ _ | .clearCounts _ _
  | .restart _ _ | .restReceived _ _ | .probeSceneApplied _ _ | .probeSceneStaged _ _ | .probePending _ _
  | .probePeer _ _ | .probeChannel _ _ | .probeStation _ _ _ | .probeLinkCounts _ _ | .probeSpeed _ _
  | .probeConfig _ _ | .probeUnknownItem _ _ _ | .answerReceived _ | .malformedFrame _ | .numberConflict => true
  | _ => false

/-- Commands that leave every channel record of the Ramp Engine. -/
def leavesRamps : Instr → Bool
  | .checkError | .frameStart | .arbitrationLost | .ownOfferComplete _ | .ownPresenceComplete _ | .ownFrameComplete _
  | .lineTimeOut | .cycleTimerExpiry | .presenceTimerExpiry | .fetchTimerExpiry | .peerSilent _ | .speedStale
  | .fallTimerExpiry | .offerSpacingExpiry | .settleTimerExpiry | .isolationTimerExpiry | .preparationTimerExpiry
  | .riseGuardExpiry | .budgetTimerExpiry _ => true
  | _ => false

/-- The sender of a received frame that reaches the link, the scene, the speed or the responder alone. -/
def quietSender : Instr → Option Station
  | .alertReceived rx | .offerReceived rx _ | .speedReceived rx _ _ | .fetchReceived rx _ | .clearSticky rx _ _
  | .clearCounts rx _ | .probeSceneApplied rx _ | .probeSceneStaged rx _ | .probePending rx _ | .probePeer rx _
  | .probeChannel rx _ | .probeStation rx _ _ | .probeLinkCounts rx _ | .probeSpeed rx _ | .probeConfig rx _
  | .probeUnknownItem rx _ _ | .answerReceived rx => some rx.sender
  | .malformedFrame n => some n
  | _ => none

/-- The completions of an own frame. -/
def isOwnCompletion : Instr → Bool
  | .ownMarkComplete _ _ | .ownOfferComplete _ | .ownPresenceComplete _ | .ownFrameComplete _ => true
  | _ => false

/-- The commands that set a block, or all of them, to its values at the start. -/
def isStart : Instr → Bool
  | .powerOn | .startComplete _ _ _ | .restart _ _ => true
  | _ => false

end Sys2Proof.Machine

/-! ### The queue of commands -/

/-- The interface of this row: a step takes the command at the front of the queue and runs it on the rest. -/
def Obligations.StepRunsFrontCommand : Prop :=
  ∀ (c : Instr) (rest : List Instr) (s : State),
    step { s with pending := c :: rest } = exec c { s with pending := rest }

/-- The model's choice, log entry 1: an idle step queues the first expiry that is due, or lets a quarter ms pass. An expiry is due
when its timer is at its end, in the state in which it acts (R62 to R64, R78; log entry 17), and nothing else is ever due. In a
quarter ms every running timer loses one, each age gains one, up to 65535 ms, and the ages of the peers stand still while ISOLATED
is set. -/
def Obligations.IdleStepQueuesFirstDueOrPassesTime : Prop :=
  (∀ s : State, s.pending = [] →
    (∀ c rest, due s = c :: rest → step s = .next { s with pending := [c] }) ∧
    (due s = [] → ∃ t, step s = .next t ∧ t.pending = [] ∧ t.pins = s.pins ∧ t.loader = s.loader ∧ t.draws = s.draws ∧
      t.link = { s.link with isolationTimer := oneLess s.link.isolationTimer } ∧
      t.cycle.number = s.cycle.number ∧
      (∀ k, s.cycle.cycle = .running k → t.cycle.cycle = .running (k - 1)) ∧
      ((∀ k, s.cycle.cycle ≠ .running k) → t.cycle.cycle = s.cycle.cycle) ∧
      (∀ k, s.cycle.presence = .running k → t.cycle.presence = .running (k - 1)) ∧
      ((∀ k, s.cycle.presence ≠ .running k) → t.cycle.presence = s.cycle.presence) ∧
      t.peers.emptyingDue = s.peers.emptyingDue ∧ (s.link.isolated = true → t.peers = s.peers) ∧
      (∀ n life r age, s.link.isolated = false → s.peers.entries.get n = .known life r age →
        t.peers.entries.get n = .known life r (min (age + 1) 262140)) ∧
      (∀ n, (s.peers.entries.get n = .absent ∨ s.peers.entries.get n = .self) →
        t.peers.entries.get n = s.peers.entries.get n) ∧
      t.scene = { s.scene with
        joinWindow := oneLess s.scene.joinWindow, fetch := s.scene.fetch.map fun f => ⟨f.wanted, f.attempts, f.timer - 1⟩ } ∧
      t.speed = { s.speed with
        source := s.speed.source.map fun r => ⟨r.station, r.lastSpeed, min (r.age + 1) 262140⟩
        fallTimer := oneLess s.speed.fallTimer, spacingTimer := oneLess s.speed.spacingTimer } ∧
      t.planner = { s.planner with
        settleTimer := oneLess s.planner.settleTimer, duckTimer := oneLess s.planner.duckTimer } ∧
      (∀ n, t.ramps.get n = { s.ramps.get n with
        stepTimer := oneLess (s.ramps.get n).stepTimer, holdTimer := oneLess (s.ramps.get n).holdTimer }) ∧
      t.equaliser = { s.equaliser with timer := oneLess s.equaliser.timer } ∧
      (∀ n, t.protection.records.get n = { s.protection.records.get n with
        retryTimer := oneLess (s.protection.records.get n).retryTimer
        budgetTimer := oneLess (s.protection.records.get n).budgetTimer }) ∧
      t.protection = { s.protection with
        records := t.protection.records
        riseGuard := oneLess s.protection.riseGuard, clipFall := oneLess s.protection.clipFall } ∧
      t.controller = { s.controller with
        railGoodTimer := oneLess s.controller.railGoodTimer, stabiliseTimer := oneLess s.controller.stabiliseTimer
        downTimer := oneLess s.controller.downTimer, railRetryTimer := oneLess s.controller.railRetryTimer })) ∧
  ∀ s : State,
    (∀ c ∈ due s, isTimed c = true) ∧
    (.cycleTimerExpiry ∈ due s ↔ s.cycle.cycle = .running 0) ∧
    (.presenceTimerExpiry ∈ due s ↔ s.cycle.presence = .running 0) ∧
    (.joinWindowExpiry ∈ due s ↔ s.scene.joinWindow = some 0 ∧ listening s ∧ s.scene.unit = .provisional) ∧
    (.fetchTimerExpiry ∈ due s ↔ s.scene.fetch.map FetchState.timer = some 0 ∧ listening s ∧ s.scene.unit = .resync) ∧
    (∀ n, .peerSilent n ∈ due s ↔
      s.link.isolated = false ∧ ∃ r age, s.peers.entries.get n = .known .active r age ∧ 1200 ≤ age) ∧
    (∀ n, .peerLost n ∈ due s ↔
      s.link.isolated = false ∧ ∃ r age, s.peers.entries.get n = .known .silent r age ∧ 4000 ≤ age) ∧
    (.speedStale ∈ due s ↔ s.speed.state = .fresh ∧ ∃ r, s.speed.source = some r ∧ 2000 ≤ r.age) ∧
    (.fallTimerExpiry ∈ due s ↔ s.speed.fallTimer = some 0) ∧
    (.offerSpacingExpiry ∈ due s ↔ s.speed.spacingTimer = some 0) ∧
    (.settleTimerExpiry ∈ due s ↔ s.planner.settleTimer = some 0) ∧
    (.duckTimerExpiry ∈ due s ↔ s.planner.duckTimer = some 0 ∧ s.planner.duck = .waiting) ∧
    (.isolationTimerExpiry ∈ due s ↔ s.link.isolationTimer = some 0) ∧
    (∀ n, .stepTimerExpiry n ∈ due s ↔ (s.ramps.get n).stepTimer = some 0) ∧
    (∀ n, .duckHoldExpiry n ∈ due s ↔ (s.ramps.get n).holdTimer = some 0 ∧ (s.ramps.get n).phase = .holding) ∧
    (.preparationTimerExpiry ∈ due s ↔
      s.equaliser.timer = some 0 ∧ s.controller.station ≠ .starting ∧ s.equaliser.state = .preparing ∧
        s.equaliser.position ≠ none ∧ s.equaliser.prepared ≠ none) ∧
    (.riseGuardExpiry ∈ due s ↔ s.protection.riseGuard = some 0) ∧
    (.clipFallTimerExpiry ∈ due s ↔ s.protection.clipFall = some 0) ∧
    (∀ n, .retryTimerExpiry n ∈ due s ↔
      (s.protection.records.get n).retryTimer = some 0 ∧ (s.protection.records.get n).state = .retryWait) ∧
    (∀ n, .budgetTimerExpiry n ∈ due s ↔ (s.protection.records.get n).budgetTimer = some 0) ∧
    (.railGoodTimerExpiry ∈ due s ↔ s.controller.railGoodTimer = some 0 ∧ s.controller.station = .railUp) ∧
    (.railRetryTimerExpiry ∈ due s ↔ s.controller.railRetryTimer = some 0 ∧ s.controller.station = .quiet) ∧
    (.stabiliseTimerExpiry ∈ due s ↔ s.controller.stabiliseTimer = some 0 ∧ s.controller.station = .stabilising) ∧
    (.downTimerExpiry ∈ due s ↔ s.controller.downTimer = some 0 ∧ s.controller.station = .railDown)

/-- No command stops the machine, and none touches the queue of commands. -/
def Obligations.EveryCommandAnswersNextAndKeepsTheQueue : Prop :=
  ∀ (c : Instr) (s : State), ∃ t, exec c s = .next t ∧ t.pending = s.pending

/-! ### Start and restart -/

/-- R6, R7, R11, R16, R42, R51, R58, R75, R91, R110, R148, R154, R156, R167, R170 to R173, R178 at power-on. That the pins
keep their levels, and that a frame in transmission is dropped, is the model's choice (log entries 7 and 31). -/
def Obligations.PowerOnValues : Prop :=
  ∀ s : State, ∃ t, exec .powerOn s = .next t ∧
    t.controller.station = .starting ∧ t.controller.rail = .off ∧ controllerTimersStopped t.controller ∧
    t.controller.stop = .powerOn ∧
    (∀ n, silentFromPowerOn (t.ramps.get n)) ∧
    t.link.waiting = [] ∧ t.link.sending = none ∧ t.link.counters = .zero ∧ t.link.isolated = false ∧
    t.link.isolationTimer = some 800 ∧ t.link.conflictReported = false ∧
    t.cycle.number = 0 ∧ t.cycle.cycle = .stopped ∧ t.cycle.presence = .stopped ∧
    (∀ n, t.peers.entries.get n = .absent) ∧ t.peers.emptyingDue = false ∧
    t.scene.unit = .provisional ∧ t.scene.applied.generation = none ∧ t.scene.staged = none ∧
    t.scene.pending = emptyRecord ∧ t.scene.joinWindow = none ∧ t.scene.fetch = none ∧ t.scene.conflict = none ∧
    t.speed = { source := none, state := .noSource, desired := 0, fallTimer := none, spacingTimer := none,
                offerWaiting := false } ∧
    (∀ n, t.planner.channels.get n = ⟨.silent, none, none⟩) ∧ t.planner.cut = 0 ∧ t.planner.gapSet = [] ∧
    t.planner.gapReview = false ∧ t.planner.settleTimer = none ∧ t.planner.fallReady = false ∧
    t.planner.duck = .off ∧ t.planner.duckTimer = none ∧
    (∀ n, t.equaliser.active.get n = ⟨.pass, .pass, .pass, .pass, .pass, .pass⟩ ∧ t.equaliser.shadow.get n = none) ∧
    t.equaliser.bypass = false ∧ t.equaliser.activeSettings = none ∧ t.equaliser.state = .idle ∧
    t.equaliser.prepared = none ∧ t.equaliser.list = [] ∧ t.equaliser.position = none ∧ t.equaliser.timer = none ∧
    t.equaliser.swapDue = false ∧ t.equaliser.lateSwaps = 0 ∧
    t.protection.scan = none ∧ t.protection.readings = ⟨none, none, .all none⟩ ∧
    t.protection.conditions = ⟨⟨false, 0⟩, ⟨false, 0⟩, ⟨false, 0⟩, ⟨false, 0⟩, ⟨false, 0⟩, .all ⟨false, 0⟩⟩ ∧
    t.protection.clip = 0 ∧ t.protection.riseGuard = none ∧ t.protection.clipFall = none ∧
    t.protection.active = .all false ∧ t.protection.sticky = .all false ∧
    (∀ n, t.protection.records.get n = ⟨.clear, none, 0, 0, none, none⟩) ∧
    t.pins = s.pins

/-- R5, R6, R18, R49, R58, R133, R134, R144, R179, R180 for a start after power-on or restart: an image that passes its check
starts the blocks and leads to RAIL_UP or on to STABILISING, and one that fails it leads to UNCONFIGURED. -/
def Obligations.StartAfterPowerOnOrRestart : Prop :=
  (∀ (straps : Station) (read : ImageRead) (selfTest : Bool) (image : Image) (s : State),
    s.controller.station = .starting → s.loader.freshStart = false → s.equaliser.bypass = false →
    checkImage straps none read = some image →
    ∃ t, exec (.startComplete straps read selfTest) s = .next t ∧
      t.loader.own = straps ∧ t.loader.image = image ∧ t.peers.entries.get straps = .self ∧
      t.scene.unit = .provisional ∧ t.scene.applied = ⟨none, image.startScene, straps, digestOf image.startScene⟩ ∧
      t.scene.joinWindow = some 1200 ∧
      t.controller.station = railUpEnd s ∧
      t.controller.rail = (if s.pins.railGood then .up else .rising) ∧
      t.cycle.cycle = .running (80 + straps.val) ∧ t.protection.scan = some 0 ∧
      (selfTest = true → t.equaliser.bypass = false ∧
        ∀ n, t.equaliser.active.get n = bankFor image (settingsOf image.startScene) n) ∧
      (selfTest = false → t.equaliser.bypass = true ∧ t.protection.active.eqMemory = true ∧
        t.protection.sticky.eqMemory = true)) ∧
  (∀ (straps : Station) (read : ImageRead) (selfTest : Bool) (s : State),
    s.controller.station = .starting → s.loader.freshStart = false → s.cycle.cycle = .stopped →
    checkImage straps none read = none →
    ∃ t, exec (.startComplete straps read selfTest) s = .next t ∧
      t.controller.station = .unconfigured ∧ t.loader.own = straps ∧ t.loader.image.roster = [] ∧
      t.scene.unit = .provisional ∧ t.scene.joinWindow = none ∧
      t.scene.applied = ⟨none, unconfiguredContent, straps, digestOf unconfiguredContent⟩ ∧
      t.protection.active.configBad = true ∧ t.protection.sticky.configBad = true ∧
      t.cycle.cycle = .stopped ∧ t.protection.scan = some 0)

/-- R16, R75, R91, R110, R142, R154, R161, R171, R172, R179, R186 for a fresh start from CONFLICT: what is kept when the image check
passes, and what is set when it fails. The counters are said of an empty queue, in which nothing can be dropped (R170); the ramps, the
planner's own records and the fault records of an image whose THERMAL_WARN mode is as before, outside the rail window, where no rail
fault and no offset condition stands (R146). Model's choices: what another THERMAL_WARN mode does (log entry 40); that the planner's
records, the ramps and the fault records stay as they are under another roster or other ceilings too (log entry 34), REST claims held
since before the CONFLICT among them (log entry 42); that the speed record and the fall timer stay under another stale policy too (log
entry 33); and, when the check fails, that the duck is OFF though the ISOLATED flag may stand set (log entry 35) and the cut is 0 though
the Peer Table keeps its demands (log entry 43). -/
def Obligations.FreshStartFromConflict : Prop :=
  ∀ (straps : Station) (read : ImageRead) (selfTest : Bool) (s : State),
    s.controller.station = .starting → s.loader.freshStart = true →
    (∀ image, checkImage straps (some s.loader.own) read = some image →
      ∃ t, exec (.startComplete straps read selfTest) s = .next t ∧
        t.loader.own = s.loader.own ∧ t.loader.image = image ∧
        t.scene.unit = s.scene.unit ∧ t.scene.applied = s.scene.applied ∧ t.scene.staged = s.scene.staged ∧
        t.scene.pending = s.scene.pending ∧ t.scene.fetch = s.scene.fetch ∧ t.peers = s.peers ∧
        t.speed.source = s.speed.source ∧ t.speed.state = s.speed.state ∧ t.speed.desired = s.speed.desired ∧
        t.speed.fallTimer = s.speed.fallTimer ∧
        t.link.isolated = s.link.isolated ∧ t.link.isolationTimer = s.link.isolationTimer ∧
        (s.link.waiting = [] → t.link.counters = s.link.counters) ∧
        t.equaliser.lateSwaps = s.equaliser.lateSwaps ∧
        t.planner.gapSet = s.planner.gapSet ∧ t.planner.gapReview = s.planner.gapReview ∧
        t.planner.duck = s.planner.duck ∧ t.planner.duckTimer = s.planner.duckTimer ∧
        t.protection.clip = s.protection.clip ∧ t.protection.riseGuard = s.protection.riseGuard ∧
        t.protection.clipFall = s.protection.clipFall ∧ t.protection.scan = some 0 ∧
        t.protection.active.thermalWarn = s.protection.active.thermalWarn ∧
        t.protection.active.thermalShut = s.protection.active.thermalShut ∧
        (∀ f, s.protection.sticky.get f = true → t.protection.sticky.get f = true) ∧
        (image.protection.warnMode = s.loader.image.protection.warnMode →
          s.protection.active.railSag = false → s.protection.active.railLow = false →
          s.protection.active.railHigh = false → (∀ n, (s.protection.conditions.offset.get n).present = false) →
          t.planner = s.planner ∧ t.ramps = s.ramps ∧ t.protection.records = s.protection.records) ∧
        t.controller.station = (if s.protection.active.thermalShut then .shutdown else railUpEnd s) ∧
        t.controller.stop = s.controller.stop) ∧
    (checkImage straps (some s.loader.own) read = none →
      ∃ t, exec (.startComplete straps read selfTest) s = .next t ∧
        t.controller.station = .unconfigured ∧ t.loader.own = s.loader.own ∧ t.loader.image.roster = [] ∧
        t.scene.unit = .provisional ∧ t.scene.staged = none ∧
        t.scene.applied = ⟨none, unconfiguredContent, s.loader.own, digestOf unconfiguredContent⟩ ∧
        t.speed.source = none ∧ t.speed.desired = 0 ∧ t.peers = s.peers ∧
        t.planner.cut = 0 ∧ t.planner.gapSet = [] ∧ t.planner.duck = .off ∧
        (∀ n, silentFromPowerOn (t.ramps.get n)) ∧
        (∀ n, t.protection.records.get n = ⟨.clear, none, 0, 0, none, none⟩) ∧ t.protection.clip = 0 ∧
        t.link.isolated = s.link.isolated ∧ t.link.isolationTimer = s.link.isolationTimer ∧
        (s.link.waiting = [] → t.link.counters = s.link.counters) ∧
        t.equaliser.lateSwaps = s.equaliser.lateSwaps ∧ t.protection.active.configBad = true ∧
        (∀ f, s.protection.sticky.get f = true → t.protection.sticky.get f = true) ∧
        t.controller.stop = s.controller.stop)

/-- R164, R170, R176, R187: a CLEAR with action RESTART addressed to the station. Its frame is acknowledged as any other, the
frame in transmission stays, marked so that its end moves no block (log entry 16; OwnFramesComplete says what its end does). The
values of the loader after a restart are the model's (log entry 7). -/
def Obligations.RestartValues : Prop :=
  ∀ (rx : Reception) (target : Nat) (s : State),
    routed rx s → (target = s.loader.own.val ∨ target = 16) →
    exec (.restart rx target) s = .next
      { s with
        loader := .reset
        link := { Link.reset with
          sending := s.link.sending.map fun f => { f with orphan := true }
          acknowledging := decide (s.controller.station ≠ .conflict) }
        cycle := .reset, peers := .reset, scene := .resetWith unconfiguredContent 0, speed := .reset
        planner := .reset, ramps := .all .reset, equaliser := .reset, protection := .reset
        controller := ⟨.starting, .off, none, none, none, none, .restart⟩ }

/-! ### Frames received -/

/-- R44, R50: a MARK from another station is adopted, an own waiting MARK is withdrawn, and a timer that is not STOPPED starts
again. -/
def Obligations.MarkReceivedAtTheCycleTimer : Prop :=
  ∀ (rx : Reception) (cycle : CycleNumber) (order : MarkOrder) (s : State), routed rx s →
    ∃ t, exec (.markReceived rx cycle order) s = .next t ∧ t.cycle.number = cycle ∧
      (s.cycle.cycle ≠ .stopped ∨ s.controller.station = .resting →
        t.cycle.cycle = .running (80 + s.loader.own.val)) ∧
      (s.cycle.cycle = .stopped → s.controller.station ≠ .resting → t.cycle.cycle = .stopped) ∧
      ((s.link.waiting.filter fun f => f.body.isMark).length ≤ 1 → ∀ f ∈ t.link.waiting, f.body.isMark = false)

/-- R26, R27, R31, R40, R48: on a mark event, received or own, the staged scene is applied, and announced when no zone station with a
lower number is ACTIVE. In AGREED the pending change record is then
laid over the applied scene to form the next staged scene; in RESYNC, whose record is empty, the unit returns to AGREED once the
wanted generation is no longer newer than the applied one. -/
def Obligations.MarkAppliesThenStages : Prop :=
  ∀ (c : Instr) (s : State) (g : Generation), listening s → bringsMark c s → s.scene.applied.generation = some g →
    (s.scene.unit = .agreed →
      ∃ t, exec c s = .next t ∧ t.scene.unit = .agreed ∧
        (∀ sc, s.scene.staged = some sc →
          t.scene.applied = ⟨some sc.generation, sc.content, sc.origin, sc.digest⟩ ∧
          t.scene.conflict = none ∧ t.scene.pending = emptyRecord ∧
          (recordHeld s.scene.pending = true → t.scene.staged =
            some ⟨sc.generation + 1, layOver s.scene.pending sc.content, leadingProposer s.scene.pending,
              digestOf (layOver s.scene.pending sc.content)⟩) ∧
          (recordHeld s.scene.pending = false → t.scene.staged = none) ∧ announces sc s t) ∧
        (s.scene.staged = none → noSceneQueued s t ∧ t.scene.applied = s.scene.applied ∧
          (recordHeld s.scene.pending = true → t.scene.conflict = none ∧ t.scene.pending = emptyRecord ∧
            t.scene.staged = some ⟨g + 1, layOver s.scene.pending s.scene.applied.content,
              leadingProposer s.scene.pending, digestOf (layOver s.scene.pending s.scene.applied.content)⟩) ∧
          (recordHeld s.scene.pending = false → t.scene = s.scene))) ∧
    (∀ f, s.scene.unit = .resync → s.scene.fetch = some f → s.scene.pending = emptyRecord →
      ∃ t, exec c s = .next t ∧
        (∀ sc, s.scene.staged = some sc →
          t.scene = { s.scene with
            applied := ⟨some sc.generation, sc.content, sc.origin, sc.digest⟩, staged := none, conflict := none,
            unit := if newer f.wanted sc.generation then .resync else .agreed,
            fetch := if newer f.wanted sc.generation then some f else none } ∧ announces sc s t) ∧
        (s.scene.staged = none → noSceneQueued s t ∧
          t.scene = { s.scene with
            unit := if newer f.wanted g then .resync else .agreed,
            fetch := if newer f.wanted g then some f else none }))

/-- R96, R101, R104, R105, R106: on a mark event the gap set is formed afresh when its review is asked for, and the cabin cut falls
to the greatest demand when the fall is ready. A position is gapped by a LOST zone station with a FULL, HIGH or HEAD
loudspeaker there. A change of gap set or cut, or a scene applied, leaves every roster channel with the target its terms then give;
the new targets of a gap or cut change alone are handed at RELEASE, and those of a scene alone at SCENE, where no ramp is in flight. In
RAIL_DOWN this is said while the rail is not released. -/
def Obligations.MarkMovesGapSetCutAndTargets : Prop :=
  (∀ (s : State) (p : Position), p ∈ gappedPositions s.peers ↔
    p ≠ .cabin ∧ ∃ n r age, s.peers.entries.get n = .known .lost r age ∧ r.kind = .zone ∧
      ∃ d ∈ r.roster, d.position = p ∧ d.role ≠ .low) ∧
  ∀ (c : Instr) (s : State) (g : Generation), listening s → bringsMark c s → s.scene.applied.generation = some g →
    s.scene.unit = .agreed → s.controller.station ≠ .resting →
    isMarkReceived c = false ∨ s.link.isolated = false → allDistinct (s.loader.image.roster.map RosterEntry.channel) = true →
    ∃ t, exec c s = .next t ∧ (railKept s t →
      t.planner.fallReady = false ∧ t.planner.gapReview = false ∧
      t.planner.settleTimer = s.planner.settleTimer ∧ t.planner.duck = s.planner.duck ∧
      t.planner.cut = (if s.planner.fallReady then greatestDemand s else s.planner.cut) ∧
      t.planner.gapSet = (if s.planner.gapReview then gappedPositions s.peers else s.planner.gapSet) ∧
      (s.scene.staged ≠ none ∨ t.planner.cut ≠ s.planner.cut ∨ t.planner.gapSet ≠ s.planner.gapSet → targetsCurrent t) ∧
      (noneInFlight s →
        (s.scene.staged = none → newTargetsHandedAt .release s t) ∧
        (t.planner.cut = s.planner.cut → t.planner.gapSet = s.planner.gapSet → newTargetsHandedAt .scene s t)))

/-- R62, R66, R102, R164, R166, R171, R172, R184: the frames that reach no block. An ALERT is counted, an ANSWER is not; both wake a
RESTING station, and a malformed frame does not. Each ends an isolation: an emptying of the Peer Table that was held over is made, and
the duck is taken off, its targets worked out again and handed at SCENE where it was ON. A bad check is counted, the acknowledge slot is left alone, and nothing else changes but
the marks of the frame that has ended on the line (log entries 15 and 29). -/
def Obligations.FramesThatReachNoBlock : Prop :=
  (∀ (rx : Reception) (s : State), routed rx s →
    (∃ t, exec (.alertReceived rx) s = .next t ∧
      t.link.counters.alertsReceived = countUp 65535 s.link.counters.alertsReceived ∧
      t.link.isolated = false ∧ t.link.isolationTimer = some 800 ∧
      t.link.acknowledging = decide (s.controller.station ≠ .conflict) ∧ t.scene = s.scene ∧
      (s.controller.station ≠ .resting → isolationEnds s t) ∧
      (s.controller.station = .resting →
        t.controller.station = (if s.protection.active.thermalShut then .shutdown else railUpEnd s))) ∧
    (∃ t, exec (.answerReceived rx) s = .next t ∧
      t.link.counters.alertsReceived = s.link.counters.alertsReceived ∧
      t.link.isolated = false ∧ t.link.isolationTimer = some 800 ∧
      t.link.acknowledging = decide (s.controller.station ≠ .conflict) ∧ t.scene = s.scene ∧
      (s.controller.station ≠ .resting → isolationEnds s t) ∧
      (s.controller.station = .resting →
        t.controller.station = (if s.protection.active.thermalShut then .shutdown else railUpEnd s))) ∧
    (∃ t, exec (.malformedFrame rx.sender) s = .next t ∧
      t.link.counters = s.link.counters ∧ t.link.isolated = false ∧ t.link.isolationTimer = some 800 ∧
      t.link.acknowledging = decide (s.controller.station ≠ .conflict) ∧ t.scene = s.scene ∧
      t.controller.station = s.controller.station ∧ isolationEnds s t)) ∧
  ∀ s : State, exec .checkError s = .next
    { s with link := { s.link with
        acknowledging := false
        waiting := s.link.waiting.map fun f => { f with lostArbitration := false }
        counters := { s.link.counters with checkErrors := countUp 65535 s.link.counters.checkErrors } } }

/-- R12, R23, R87, R88: an offer that passes the check of R9 in AGREED, against the applied or the staged generation, is merged at once and
the unit's other records stay; each field of the merge is decided alone, by presence, rank and proposer; and two offers that
differ in rank or in proposer merge to the same record in either order. One of the same base and speed step as the own waiting OFFER
withdraws it, and any other leaves it. -/
def Obligations.AcceptedOfferIsMergedFieldByField : Prop :=
  (∀ (rx : Reception) (o : Offer) (s : State) (g : Generation), routed rx s → listening s →
    s.scene.unit = .agreed → s.scene.applied.generation = some g → offerPasses o = true →
    (o.base = g ∨ ∃ sc, s.scene.staged = some sc ∧ o.base = sc.generation) →
    ∃ t, exec (.offerReceived rx o) s = .next t ∧
      t.scene = { s.scene with pending := merge o rx.sender s.scene.pending }) ∧
  (∀ (o : Offer) (proposer : Station) (p : PendingRecord) (f : Field),
    (o.values.get f = none → (merge o proposer p).get f = p.get f) ∧
    (∀ v, o.values.get f = some v →
      (p.get f = none → (merge o proposer p).get f = some ⟨v, o.rank, proposer⟩) ∧
      (∀ e, p.get f = some e →
        (e.rank < o.rank ∨ (o.rank = e.rank ∧ e.proposer < proposer) →
          (merge o proposer p).get f = some ⟨v, o.rank, proposer⟩) ∧
        (¬(e.rank < o.rank ∨ (o.rank = e.rank ∧ e.proposer < proposer)) → (merge o proposer p).get f = some e)))) ∧
  (∀ (o₁ o₂ : Offer) (p₁ p₂ : Station) (p : PendingRecord), o₁.rank ≠ o₂.rank ∨ p₁ ≠ p₂ →
    merge o₂ p₂ (merge o₁ p₁ p) = merge o₁ p₁ (merge o₂ p₂ p)) ∧
  (∀ (rx : Reception) (o : Offer) (s : State), routed rx s → s.controller.station ≠ .resting → offerPasses o = true →
    ∃ t, exec (.offerReceived rx o) s = .next t ∧
      (∀ w, sameStep o w = false → (∃ f ∈ s.link.waiting, f.body = .offer w) → ∃ f ∈ t.link.waiting, f.body = .offer w) ∧
      (∀ f ∈ s.link.waiting, ∀ w k, f.body = .offer w → sameStep o w = true → s.speed.spacingTimer = some k →
        (s.link.waiting.filter fun f => f.body.isOffer).length = 1 →
        t.speed.offerWaiting = false ∧ ∀ f ∈ t.link.waiting, f.body.isOffer = false))

/-- R9, R22, R23, R24, R25, R36, R39: the offers that are not accepted. One that fails its check, or comes in PROVISIONAL or
RESYNC, is refused and counted; in AGREED one on an unrelated base is refused, one on an older base is counted as stale and
answered with a SCENE of the applied scene, one newer than the latest generation takes the unit to RESYNC, with a FETCH for it, and one between the applied and the staged
generation is refused. -/
def Obligations.OfferNotAccepted : Prop :=
  ∀ (rx : Reception) (o : Offer) (s : State), routed rx s → listening s →
    (offerPasses o = false ∨ s.scene.unit ≠ .agreed →
      ∃ t, exec (.offerReceived rx o) s = .next t ∧ t.scene = s.scene ∧
        t.link.counters.offersRefused = countUp 65535 s.link.counters.offersRefused) ∧
    (∀ g, offerPasses o = true → s.scene.unit = .agreed → s.scene.applied.generation = some g → o.base ≠ g →
      (∀ sc, s.scene.staged = some sc → o.base ≠ sc.generation) →
      (unrelated o.base g = true →
        ∃ t, exec (.offerReceived rx o) s = .next t ∧ t.scene = s.scene ∧
          t.link.counters.offersRefused = countUp 65535 s.link.counters.offersRefused) ∧
      (older o.base g = true →
        ∃ t, exec (.offerReceived rx o) s = .next t ∧ t.scene = s.scene ∧
          t.link.counters.staleOffers = countUp 65535 s.link.counters.staleOffers ∧
          (queueHasPlace s → noSceneInFlight s →
            sceneWaits ⟨g, s.scene.applied.content, s.scene.applied.origin, s.scene.applied.digest⟩ t)) ∧
      (newer o.base g = true → (∀ sc, s.scene.staged = some sc → newer o.base sc.generation = true) →
        ∃ t, exec (.offerReceived rx o) s = .next t ∧
          t.scene = { s.scene with
            unit := .resync, pending := emptyRecord, conflict := none, fetch := some ⟨o.base, 1, 320⟩ } ∧
          (queueHasPlace s → fetchWaits o.base t)) ∧
      (newer o.base g = true → (∃ sc, s.scene.staged = some sc ∧ newer o.base sc.generation = false) →
        ∃ t, exec (.offerReceived rx o) s = .next t ∧ t.scene = s.scene ∧
          t.link.counters.offersRefused = countUp 65535 s.link.counters.offersRefused))

/-- R14, R18, R19, R28, R31, R32: the first SCENE to pass its check in PROVISIONAL is adopted at once, the Equaliser Bank takes the
scene applied notice, and the scene is announced when no zone station with a lower number is ACTIVE; one that fails changes nothing
in the unit, and withdraws no own SCENE. -/
def Obligations.SceneAdoptedInProvisional : Prop :=
  ∀ (rx : Reception) (sc : Scene) (s : State), routed rx s → listening s →
    (scenePasses sc = true → s.scene.unit = .provisional →
      ∃ t, exec (.sceneReceived rx sc) s = .next t ∧
        t.scene = { s.scene with
          unit := .agreed, applied := ⟨some sc.generation, sc.content, sc.origin, sc.digest⟩, joinWindow := none } ∧
        t.equaliser = s.equaliser.sceneApplied s.loader.image (settingsOf sc.content) ∧ announces sc s t ∧
        ∀ n, (t.ramps.get n).claims.provisional = none) ∧
    (scenePasses sc = false → ∃ t, exec (.sceneReceived rx sc) s = .next t ∧ t.scene = s.scene ∧
      ∀ w, sceneWaits w s → s.controller.station ≠ .resting → sceneWaits w t)

/-- R29, R32, R33, R37, R40, R41: a checked SCENE in AGREED settles a waiting digest conflict and does nothing else; in RESYNC a newer
one is staged and ends the RESYNC. Each scene staged reaches the Equaliser Bank. An own waiting SCENE of the same generation and digest
is withdrawn, and no other. -/
def Obligations.SceneInAgreedAndResync : Prop :=
  ∀ (rx : Reception) (sc : Scene) (s : State) (g : Generation), routed rx s → listening s → scenePasses sc = true →
    s.scene.applied.generation = some g →
    (s.scene.unit = .agreed →
      (s.scene.conflict = some sc.generation → s.scene.applied.digest < sc.digest → g = sc.generation →
        s.scene.staged = none →
        ∃ t, exec (.sceneReceived rx sc) s = .next t ∧
          t.scene = { s.scene with
            staged := some ⟨sc.generation + 1, sc.content, sc.origin, digestOf sc.content⟩,
            pending := emptyRecord, conflict := none } ∧
          t.equaliser = s.equaliser.sceneStaged s.loader.image (settingsOf sc.content)) ∧
      (s.scene.conflict ≠ some sc.generation ∨ ¬s.scene.applied.digest < sc.digest ∨ g ≠ sc.generation ∨
          s.scene.staged ≠ none →
        ∃ t, exec (.sceneReceived rx sc) s = .next t ∧ t.scene = s.scene)) ∧
    (s.scene.unit = .resync →
      (newer sc.generation g = true →
        ∃ t, exec (.sceneReceived rx sc) s = .next t ∧ t.scene.unit = .agreed ∧ t.scene.fetch = none ∧
          t.scene.applied = s.scene.applied ∧ ∃ held, t.scene.staged = some held ∧
          held.generation = sc.generation ∧ held.digest = sc.digest ∧
          ((∀ old, s.scene.staged = some old → old.generation ≠ sc.generation ∨ old.digest ≠ sc.digest) →
            held = sc ∧ t.equaliser = s.equaliser.sceneStaged s.loader.image (settingsOf sc.content))) ∧
      (newer sc.generation g = false → ∃ t, exec (.sceneReceived rx sc) s = .next t ∧ t.scene = s.scene)) ∧
    (s.scene.unit ≠ .provisional → s.controller.station ≠ .resting →
      ∃ t, exec (.sceneReceived rx sc) s = .next t ∧ noSceneQueued s t ∧
      (∀ w, w.generation ≠ sc.generation ∨ w.digest ≠ sc.digest → sceneWaits w s → sceneWaits w t) ∧
      ((s.link.waiting.filter fun f => f.body.isSceneOf sc.generation sc.digest).length ≤ 1 →
        ∀ f ∈ t.link.waiting, f.body.isSceneOf sc.generation sc.digest = false))

/-- R76, R77, R82: which SPEED is taken, and what it leaves: a desired step below the computed step rises to it, one above the
falling step comes down to it, and one between stays. A SPEED that is invalid, or set aside, changes nothing in the record; and a
SPEED's outcome does not depend on whether it or the wake is taken first. -/
def Obligations.SpeedTakenOrSetAside : Prop :=
  ∀ (rx : Reception) (v : Nat) (valid : Bool) (s : State), routed rx s →
    (valid = true →
      (s.speed.state ≠ .fresh ∨ ∃ r, s.speed.source = some r ∧ r.station = rx.sender) →
      ∃ t, exec (.speedReceived rx v valid) s = .next t ∧ t.speed.source = some ⟨rx.sender, v, 0⟩ ∧
        t.speed.state = .fresh ∧ t.speed.fallTimer = none ∧
        ∀ computed falling,
          computed = computedStep s.loader.image s.scene.applied.content.curve v →
          falling = fallingStep s.loader.image s.scene.applied.content.curve v →
          (s.speed.desired < computed → t.speed.desired = computed) ∧
          (computed ≤ s.speed.desired → falling < s.speed.desired → t.speed.desired = falling) ∧
          (computed ≤ s.speed.desired → s.speed.desired ≤ falling → t.speed.desired = s.speed.desired)) ∧
    (valid = false ∨ (s.speed.state = .fresh ∧ ∀ r, s.speed.source = some r → r.station ≠ rx.sender) →
      ∃ t, exec (.speedReceived rx v valid) s = .next t ∧ t.speed.source = s.speed.source ∧
        t.speed.state = s.speed.state ∧ t.speed.desired = s.speed.desired ∧ t.speed.fallTimer = s.speed.fallTimer) ∧
    exec (.speedReceived ⟨rx.sender, true⟩ v valid) s = exec (.speedReceived ⟨rx.sender, false⟩ v valid) s

/-- R30: in AGREED a FETCH for no generation or the applied one is answered with the applied scene, and one for the staged
generation with the staged scene. -/
def Obligations.FetchAnswered : Prop :=
  ∀ (rx : Reception) (wanted : Option Generation) (s : State) (g : Generation), routed rx s → listening s →
    s.controller.station ≠ .resting → s.controller.station ≠ .conflict → s.scene.unit = .agreed →
    s.scene.applied.generation = some g → s.link.placesHeld < 8 → s.link.sending = none →
    (∀ f ∈ s.link.waiting, ∀ sc, f.body ≠ .scene sc) →
    (wanted = none ∨ wanted = some g →
      queues (.fetchReceived rx wanted) s
        (.scene ⟨g, s.scene.applied.content, s.scene.applied.origin, s.scene.applied.digest⟩)) ∧
    (∀ sc, s.scene.staged = some sc → sc.generation ≠ g → wanted = some sc.generation →
      queues (.fetchReceived rx wanted) s (.scene sc))

/-- R59, R60, R61, R68, R69, R71, R99, R100: a PRESENCE that passes its check is recorded whole in its sender's entry, ACTIVE with age
0. A gap review is asked for when the entry leaves LOST, its ZONE roster changes or its kind turns to or from ZONE; and when its
counted demand changes, the greatest demand is compared with the cut, and not otherwise. One that fails its check leaves the table,
unless hearing it empties a table whose emptying is due. The comparison starts from the state in which the frame has been heard, in
RESTING with no rail fault active (R146), and in RAIL_DOWN while the rail is not released. -/
def Obligations.PresenceRecorded : Prop :=
  ∀ (rx : Reception) (f : PresenceFrame) (s : State), routed rx s →
    (∀ r, presenceReport f = some r → s.peers.entries.get rx.sender ≠ .self →
      ∃ t, exec (.presenceReceived rx f) s = .next t ∧ t.peers.entries.get rx.sender = .known .active r 0 ∧
        (railKept s t → (s.controller.station = .resting → s.protection.active.railSag = false) →
          ∀ heard before, heard = goodFrame s → before = heard.peers.entries.get rx.sender →
            (gapNoticeDue r before → t.planner.gapReview = true) ∧
            (¬gapNoticeDue r before → t.planner.gapReview = heard.planner.gapReview) ∧
            (¬(∀ demand, demandTold before demand ↔ demandTold (.known .active r 0) demand) → cutFollows heard t) ∧
            ((∀ demand, demandTold before demand ↔ demandTold (.known .active r 0) demand) →
              t.planner = { heard.planner with gapReview := t.planner.gapReview }))) ∧
    (presenceReport f = none → s.link.isolated = false ∨ s.peers.emptyingDue = false →
      ∃ t, exec (.presenceReceived rx f) s = .next t ∧ t.peers = s.peers)

/-- R20, R34, R35, R36, R39, R70: the generation report of a recorded PRESENCE. In PROVISIONAL it leaves the unit, and queues a FETCH
for its generation where no own FETCH waits. In AGREED one newer than the latest generation takes
the unit to RESYNC, and one of the applied generation with a greater digest, while nothing is staged, opens a digest conflict;
in RESYNC one newer than the wanted generation takes its place. Each of these queues a FETCH for the generation reported, the
digest conflict only where no own FETCH waits already. Every other report leaves the unit. -/
def Obligations.GenerationReports : Prop :=
  (∀ (rx : Reception) (f : PresenceFrame) (s : State) (r : Report) (g : Generation) (d : Digest), routed rx s →
    listening s → presenceReport f = some r → s.peers.entries.get rx.sender ≠ .self → r.kind = .zone →
    r.applied = some (g, d) → s.scene.unit = .provisional →
    ∃ t, exec (.presenceReceived rx f) s = .next t ∧ t.scene = s.scene ∧
      (queueHasPlace s → (∀ q ∈ s.link.waiting, q.body.isFetch = false) → fetchWaits g t) ∧
      ((∃ q ∈ s.link.waiting, q.body.isFetch = true) →
        ∀ q ∈ t.link.waiting, q.body.isFetch = true → ∃ p ∈ s.link.waiting, p.body = q.body)) ∧
  ∀ (rx : Reception) (f : PresenceFrame) (s : State) (r : Report) (g own : Generation) (d : Digest), routed rx s →
    listening s → presenceReport f = some r → s.peers.entries.get rx.sender ≠ .self → r.kind = .zone →
    r.applied = some (g, d) → s.scene.applied.generation = some own →
    (s.scene.unit = .agreed → newer g own = true →
      (∀ sc, s.scene.staged = some sc → newer g sc.generation = true) →
      ∃ t, exec (.presenceReceived rx f) s = .next t ∧
        t.scene = { s.scene with
          unit := .resync, pending := emptyRecord, conflict := none, fetch := some ⟨g, 1, 320⟩ } ∧
        (queueHasPlace s → fetchWaits g t)) ∧
    (s.scene.unit = .agreed → g = own → s.scene.staged = none → s.scene.applied.digest < d →
      ∃ t, exec (.presenceReceived rx f) s = .next t ∧ t.scene = { s.scene with conflict := some g } ∧
        (queueHasPlace s → (∀ q ∈ s.link.waiting, q.body.isFetch = false) → fetchWaits g t)) ∧
    (s.scene.unit = .agreed → newer g own = false → g ≠ own →
      ∃ t, exec (.presenceReceived rx f) s = .next t ∧ t.scene = s.scene) ∧
    (∀ sc, s.scene.unit = .agreed → newer g own = true → s.scene.staged = some sc → newer g sc.generation = false →
      ∃ t, exec (.presenceReceived rx f) s = .next t ∧ t.scene = s.scene) ∧
    (s.scene.unit = .agreed → g = own → s.scene.staged ≠ none ∨ ¬s.scene.applied.digest < d →
      ∃ t, exec (.presenceReceived rx f) s = .next t ∧ t.scene = s.scene) ∧
    (∀ fetch, s.scene.unit = .resync → s.scene.fetch = some fetch → newer g fetch.wanted = true →
      ∃ t, exec (.presenceReceived rx f) s = .next t ∧ t.scene = { s.scene with fetch := some ⟨g, 1, 320⟩ } ∧
        (queueHasPlace s → fetchWaits g t)) ∧
    (∀ fetch, s.scene.unit = .resync → s.scene.fetch = some fetch → newer g fetch.wanted = false →
      ∃ t, exec (.presenceReceived rx f) s = .next t ∧ t.scene = s.scene)

/-- R149, R158, R159, R171, R176: CLEAR_FAULTS clears the record of a named roster channel that is not CLEAR, keeps its counts of
the past, and lifts its FAULT claim unless RAIL_HIGH holds it; CLEAR_STICKY clears the named flags whose fault is inactive; and
CLEAR_COUNTS sets all twelve counters and the occurrence counts to 0. -/
def Obligations.ClearFaultsStickyAndCounts : Prop :=
  ∀ (rx : Reception) (target : Nat) (s : State), routed rx s → s.controller.station ≠ .resting →
    (target = s.loader.own.val ∨ target = 16) →
    (∀ (channels : PerChannel Bool) (n : Channel) (d : RosterEntry), channels.get n = true →
      descriptorOf s.loader.image n = some d → (s.protection.records.get n).state ≠ .clear →
      ∃ t, exec (.clearFaults rx target channels) s = .next t ∧
        t.protection.records.get n =
          { s.protection.records.get n with state := .clear, retryTimer := none, retriesUsed := 0 } ∧
        (s.protection.active.railHigh = false → (t.ramps.get n).claims.fault = none) ∧
        ((s.protection.conditions.offset.get n).present = true → railKept s t →
          t.protection.conditions.offset.get n = ⟨false, 1⟩)) ∧
    (∀ kinds : PerFault Bool, ∃ t, exec (.clearSticky rx target kinds) s = .next t ∧
      ∀ f, t.protection.sticky.get f =
        if kinds.get f && !s.protection.active.get f then false else s.protection.sticky.get f) ∧
    (∃ t, exec (.clearCounts rx target) s = .next t ∧ t.link.counters = .zero ∧ t.equaliser.lateSwaps = 0 ∧
      ∀ n, (t.protection.records.get n).occurrences = 0)

/-- R66, R146, R166, R170, R178, R182, R183: a REST is refused and counted while the wake line is asserted, and is otherwise taken by
the station state. On entering RAIL_DOWN the rail is released at once when every roster channel is silent as the frame is heard, and
stays driven while one sounds above -60.0 dB. That this holds too in RAIL_UP and STABILISING, where a fade may still run soon after a
wake, is the model's choice (log entry 47). Entering RESTING empties the Peer Table at once, since the REST has just been heard. -/
def Obligations.RestRefusedOrTaken : Prop :=
  ∀ (rx : Reception) (s : State), routed rx s →
    (∃ t, exec (.restReceived rx true) s = .next t ∧ t.controller.station = s.controller.station ∧
      t.link.counters.restsRefused = countUp 65535 s.link.counters.restsRefused ∧ t.pins.wakeLine = true) ∧
    ((s.controller.station = .ready ∨ s.controller.station = .stabilising ∨ s.controller.station = .railUp) →
      ∃ t, exec (.restReceived rx false) s = .next t ∧ t.controller.station = .railDown ∧
        t.controller.stabiliseTimer = none ∧ t.controller.railGoodTimer = none ∧
        (∀ n, (t.ramps.get n).claims.rest.isSome = true) ∧
        (s.controller.station = .ready → ∀ n, (t.ramps.get n).claims.rail.isSome = true) ∧
        (railDriven s →
          (∀ d ∈ s.loader.image.roster, ((goodFrame s).ramps.get d.channel).currentGain = .silent) → railReleased t) ∧
        ((∃ d ∈ s.loader.image.roster, ∃ g, ((goodFrame s).ramps.get d.channel).currentGain = .level g ∧ -120 < g) →
          t.controller.rail = s.controller.rail ∧ t.controller.downTimer = s.controller.downTimer)) ∧
    ((s.controller.station = .quiet ∨ s.controller.station = .shutdown) →
      ∃ t, exec (.restReceived rx false) s = .next t ∧ t.controller.station = .resting ∧
        t.controller.stop = .rest ∧ t.controller.railRetryTimer = none ∧ t.link.waiting = [] ∧
        t.cycle.cycle = .stopped ∧ t.cycle.presence = .stopped ∧ tableEmptied s t ∧ t.scene = s.scene) ∧
    ((s.controller.station = .railDown ∨ s.controller.station = .resting ∨ s.controller.station = .unconfigured ∨
        s.controller.station = .conflict) →
      ∃ t, exec (.restReceived rx false) s = .next t ∧ t.controller.station = s.controller.station ∧
        t.link.counters = s.link.counters)

/-- R156, R170, R173, R186: a number conflict not yet active takes a listening station to CONFLICT with every channel silent and
the queue empty. -/
def Obligations.NumberConflictEntersConflict : Prop :=
  ∀ s : State, listening s → s.protection.active.numberConflict = false →
    (∀ n, (s.ramps.get n).claims.conflict = none) →
    ∃ t, exec .numberConflict s = .next t ∧ t.controller.station = .conflict ∧ t.controller.rail = .off ∧
      controllerTimersStopped t.controller ∧ t.controller.stop = .conflict ∧ t.link.waiting = [] ∧
      t.link.conflictReported = true ∧ t.protection.active.numberConflict = true ∧
      t.protection.sticky.numberConflict = true ∧ t.cycle.cycle = .stopped ∧ t.cycle.presence = .stopped ∧
      t.speed.spacingTimer = none ∧
      ∀ n, (t.ramps.get n).claims.conflict = some .hard ∧ (t.ramps.get n).phase = .silent

/-- R15, R73, R90, R109, R127, R143, R162, R168, R171, R174, R175, R188: every PROBE for the own station with a free place for
its ANSWER is answered with the item as it stands once the frame has been heard; one that finds 4 ANSWERs held is counted in
queue drops and not answered; and one for another station is neither. -/
def Obligations.ProbesAnsweredOrDropped : Prop :=
  (∀ (rx : Reception) (p : Probe) (s : State), routed rx s → s.controller.station ≠ .resting →
    s.controller.station ≠ .conflict → p.target = s.loader.own.val → s.link.answersHeld < 4 → s.link.placesHeld < 8 →
    queues (.probeSceneApplied rx p) s
      (.answer ⟨rx.sender, p.tag, .sceneApplied, p.index, .sceneApplied s.scene.applied⟩) ∧
    queues (.probeSceneStaged rx p) s
      (.answer ⟨rx.sender, p.tag, .sceneStaged, p.index,
        match s.scene.staged with
        | some sc => .sceneStaged sc
        | none => .noSuchItem⟩) ∧
    queues (.probePending rx p) s
      (.answer ⟨rx.sender, p.tag, .pending, p.index,
        if recordHeld s.scene.pending then .pending s.scene.pending (leadingProposer s.scene.pending)
        else .noSuchItem⟩) ∧
    (∀ n : Station, p.index = n.val → queues (.probePeer rx p) s
      (.answer ⟨rx.sender, p.tag, .peer, p.index,
        match (goodFrame s).peers.entries.get n with
        | .absent => .noSuchItem
        | .self => .peer .self
        | .known life report age => .peer (.known life report (age / 4))⟩)) ∧
    (15 < p.index → queues (.probePeer rx p) s (.answer ⟨rx.sender, p.tag, .peer, p.index, .noSuchItem⟩)) ∧
    queues (.probeChannel rx p) s
      (.answer ⟨rx.sender, p.tag, .channel, p.index, channelItemContents p.index (goodFrame s)⟩) ∧
    (∀ n : Channel, p.index = n.val → ∃ item, queues (.probeChannel rx p) s
        (.answer ⟨rx.sender, p.tag, .channel, p.index, .channel item⟩) ∧
      (descriptorOf s.loader.image n = none →
        item.handedTarget = .silent ∧ item.handedClass = none ∧ item.components = none) ∧
      (descriptorOf s.loader.image n ≠ none →
        (⟨item.handedTarget, item.handedClass, item.components⟩ : PlannedChannel) =
          (goodFrame s).planner.channels.get n)) ∧
    (∀ level, queues (.probeStation rx p level) s
      (.answer ⟨rx.sender, p.tag, .station, p.index,
        .station (stationItem (goodFrame { s with pins := { s.pins with wakeLine := level } }))⟩)) ∧
    queues (.probeLinkCounts rx p) s
      (.answer ⟨rx.sender, p.tag, .linkCounts, p.index, .linkCounts
        { framesSent := s.link.counters.framesSent, notAcknowledged := s.link.counters.notAcknowledged
          arbitrationLost := s.link.counters.arbitrationLost, checkErrors := s.link.counters.checkErrors
          lineTimeOuts := s.link.counters.lineTimeOuts, queueDrops := s.link.counters.queueDrops
          alertsReceived := s.link.counters.alertsReceived, offersRefused := s.link.counters.offersRefused
          staleOffers := s.link.counters.staleOffers, failedResyncs := s.link.counters.failedResyncs
          lateSwaps := s.equaliser.lateSwaps, restsRefused := s.link.counters.restsRefused }⟩) ∧
    (∀ r, s.speed.source = some r → queues (.probeSpeed rx p) s
      (.answer ⟨rx.sender, p.tag, .speed, p.index, .speed
        ⟨s.speed.state, some r.station, some r.lastSpeed, some (r.age / 4), s.speed.desired⟩⟩)) ∧
    (s.speed.source = none → queues (.probeSpeed rx p) s
      (.answer ⟨rx.sender, p.tag, .speed, p.index, .speed ⟨s.speed.state, none, none, none, s.speed.desired⟩⟩)) ∧
    queues (.probeConfig rx p) s (.answer ⟨rx.sender, p.tag, .config, p.index, .config s.loader.item⟩) ∧
    (∀ sel, queues (.probeUnknownItem rx p sel) s (.answer ⟨rx.sender, p.tag, sel, p.index, .noSuchItem⟩))) ∧
  (∀ (rx : Reception) (p : Probe) (level : Bool) (sel : ItemSelector) (s : State) (c : Instr), routed rx s →
    s.controller.station ≠ .resting → c ∈ probes rx p level sel →
    (p.target = s.loader.own.val → 4 ≤ s.link.answersHeld →
      ∃ t, exec c s = .next t ∧ t.link.answersHeld = s.link.answersHeld ∧
        t.link.counters = { s.link.counters with queueDrops := countUp 65535 s.link.counters.queueDrops }) ∧
    (p.target ≠ s.loader.own.val →
      ∃ t, exec c s = .next t ∧ t.link.answersHeld = s.link.answersHeld ∧ t.link.counters = s.link.counters))

/-! ### Own frames on the line -/

/-- R163, R167, R170: the first waiting frame is started, in a state that starts frames and not after a reported conflict; a
frame that loses arbitration is counted and waits again at its place, with its age; a MARK or a PRESENCE, of which one alone may wait,
leaves its place to one that waits already. That one started before a restart ends there is the model's reading (log entry 16); which
of two MARKs or PRESENCEs stays is its choice (log entry 45). -/
def Obligations.FrameStartAndArbitrationLost : Prop :=
  (∀ (s : State) (f : QueuedFrame) (rest : List QueuedFrame), s.link.sending = none → s.link.waiting = f :: rest →
    ((s.controller.station ≠ .starting ∧ s.controller.station ≠ .resting ∧ s.controller.station ≠ .conflict ∧
        s.link.conflictReported = false) →
      exec .frameStart s = .next
        { s with link := { s.link with
            waiting := rest.map fun f => { f with lostArbitration := false }
            sending := some ⟨{ f with lostArbitration := false }, false⟩ } }) ∧
    ((s.controller.station = .starting ∨ s.controller.station = .resting ∨ s.controller.station = .conflict ∨
        s.link.conflictReported = true) →
      exec .frameStart s = .next s)) ∧
  (∀ (s : State) (q : QueuedFrame), s.link.sending = some ⟨q, false⟩ →
    s.controller.station ≠ .starting → s.controller.station ≠ .resting → s.controller.station ≠ .conflict →
    ∃ t, exec .arbitrationLost s = .next t ∧ t.link.sending = none ∧
      t.link.counters = { s.link.counters with arbitrationLost := countUp 65535 s.link.counters.arbitrationLost } ∧
      ((q.body.kind ≠ .mark ∧ q.body.kind ≠ .presence) ∨ (∀ f ∈ s.link.waiting, f.body.kind ≠ q.body.kind) →
        t.link.waiting.map (fun f => (f.stamp, f.body.kind)) =
          (insertFrame q s.link.waiting).map (fun f => (f.stamp, f.body.kind)) ∧
        ∃ f ∈ t.link.waiting, f.stamp = q.stamp ∧ f.body.kind = q.body.kind ∧ f.lostArbitration = true ∧
          (q.body.kind ≠ .presence → f.body = q.body)) ∧
      (q.body.kind = .mark ∨ q.body.kind = .presence → (∃ f ∈ s.link.waiting, f.body.kind = q.body.kind) →
        t.link.waiting.map (fun f => (f.stamp, f.body.kind)) = s.link.waiting.map (fun f => (f.stamp, f.body.kind)))) ∧
  (∀ (s : State) (q : QueuedFrame), s.link.sending = some ⟨q, true⟩ →
    exec .arbitrationLost s = .next
      { s with link := { s.link with
          sending := none
          counters := { s.link.counters with arbitrationLost := countUp 65535 s.link.counters.arbitrationLost } } })

/-- R10, R46, R53, R164, R170: an own frame that completes is counted, leaves the queue, and moves its block; one that was in
transmission at a restart is counted, and moves no block. What an own OFFER does is said for one based on the applied generation. That
a PRESENCE starts its timer for 100 ms also where a first run already goes, after a wake made while it was in transmission, is the
model's choice (log entry 36). That a frame in transmission at a restart moves no block is the model's reading (log entry 16). -/
def Obligations.OwnFramesComplete : Prop :=
  (∀ (s : State) (ack : Bool) (q : QueuedFrame), s.link.sending = some ⟨q, false⟩ →
    (∀ cycle order, q.body = .mark cycle → s.controller.station ≠ .starting →
      ∃ t, exec (.ownMarkComplete ack order) s = .next t ∧ t.link.sending = none ∧ t.cycle.number = cycle ∧
        (s.cycle.cycle ≠ .stopped → t.cycle.cycle = .running (80 + s.loader.own.val)) ∧
        (s.cycle.cycle = .stopped → t.cycle.cycle = .stopped) ∧
        t.link.counters.framesSent = countUp 65535 s.link.counters.framesSent) ∧
    (∀ o g, q.body = .offer o → listening s → s.scene.unit = .agreed → s.scene.applied.generation = some g →
      offerPasses o = true → o.base = g →
      ∃ t, exec (.ownOfferComplete ack) s = .next t ∧ t.link.sending = none ∧
        t.scene = { s.scene with pending := merge o s.loader.own s.scene.pending } ∧
        t.link.counters.framesSent = countUp 65535 s.link.counters.framesSent) ∧
    (∀ r, q.body = .presence r → s.cycle.presence ≠ .stopped →
      ∃ t, exec (.ownPresenceComplete ack) s = .next t ∧ t.link.sending = none ∧ t.cycle.presence = .running 400 ∧
        t.link.counters.framesSent = countUp 65535 s.link.counters.framesSent) ∧
    ((∃ sc, q.body = .scene sc) ∨ (∃ w, q.body = .fetch w) ∨ (∃ a, q.body = .alert a) ∨ (∃ a, q.body = .answer a) →
      exec (.ownFrameComplete ack) s = .next
        { s with link := { s.link with
            sending := none
            waiting := s.link.waiting.map fun f => { f with lostArbitration := false }
            counters := { s.link.counters with
              framesSent := countUp 65535 s.link.counters.framesSent
              notAcknowledged :=
                if ack then s.link.counters.notAcknowledged else countUp 65535 s.link.counters.notAcknowledged } } })) ∧
  ∀ (s : State) (ack : Bool) (order : MarkOrder) (q : QueuedFrame) (c : Instr), s.link.sending = some ⟨q, true⟩ →
    ((∃ cycle, q.body = .mark cycle) ∧ c = .ownMarkComplete ack order ∨
      (∃ o, q.body = .offer o) ∧ c = .ownOfferComplete ack ∨
      (∃ r, q.body = .presence r) ∧ c = .ownPresenceComplete ack ∨
      ((∃ sc, q.body = .scene sc) ∨ (∃ w, q.body = .fetch w) ∨ (∃ a, q.body = .alert a) ∨ (∃ a, q.body = .answer a)) ∧
        c = .ownFrameComplete ack) →
    exec c s = .next
      { s with link := { s.link with
          sending := none
          waiting := s.link.waiting.map fun f => { f with lostArbitration := false }
          counters := { s.link.counters with
            framesSent := countUp 65535 s.link.counters.framesSent
            notAcknowledged :=
              if ack then s.link.counters.notAcknowledged else countUp 65535 s.link.counters.notAcknowledged } } }

/-- R47, R53, R165: a line time-out is counted once, and the frame in transmission and those that lost arbitration in it are
abandoned; the other waiting frames stay when no OFFER is among them (an OFFER's end is followed by the offer check, R87); a
MARK or a PRESENCE abandoned, in transmission or waiting after a lost arbitration, starts its timer again. -/
def Obligations.LineTimeOutAbandons : Prop :=
  ∀ s : State, ∃ t, exec .lineTimeOut s = .next t ∧ t.link.sending = none ∧
    (∀ f ∈ t.link.waiting, f.lostArbitration = false) ∧
    ((∀ b ∈ abandonedFrames s.link, b.isOffer = false) →
      t.link.waiting = s.link.waiting.filter fun f => !f.lostArbitration) ∧
    t.link.counters.lineTimeOuts = countUp 65535 s.link.counters.lineTimeOuts ∧
    t.link.counters.framesSent = s.link.counters.framesSent ∧ t.scene = s.scene ∧ t.cycle.number = s.cycle.number ∧
    (∀ cycle stamp lost, s.link.sending = some ⟨⟨.mark cycle, stamp, lost⟩, false⟩ → s.cycle.cycle = .markQueued →
      t.cycle.cycle = .running (80 + s.loader.own.val)) ∧
    (∀ r stamp lost, s.link.sending = some ⟨⟨.presence r, stamp, lost⟩, false⟩ → s.cycle.presence = .presenceQueued →
      t.cycle.presence = .running 400) ∧
    (∀ f ∈ s.link.waiting, ∀ cycle, f.body = .mark cycle → f.lostArbitration = true → s.cycle.cycle = .markQueued →
      t.cycle.cycle = .running (80 + s.loader.own.val)) ∧
    (∀ f ∈ s.link.waiting, ∀ r, f.body = .presence r → f.lostArbitration = true → s.cycle.presence = .presenceQueued →
      t.cycle.presence = .running 400)

/-! ### Timers and ages -/

/-- R43, R52, R54, R168: the cycle timer queues the MARK of the next number, which a full queue admits too, and the presence timer queues a PRESENCE of the moment's values. -/
def Obligations.CycleAndPresenceTimersQueueTheirFrames : Prop :=
  ∀ s : State, s.controller.station ≠ .starting → s.controller.station ≠ .resting →
    s.controller.station ≠ .conflict →
    (∀ k, s.cycle.cycle = .running k →
      ∃ t, exec .cycleTimerExpiry s = .next t ∧ t.cycle.cycle = .markQueued ∧ t.cycle.number = s.cycle.number ∧
        ∃ f ∈ t.link.waiting, f.body = .mark (s.cycle.number + 1)) ∧
    (∀ k, s.cycle.presence = .running k → s.link.placesHeld < 8 →
      ∃ t, exec .presenceTimerExpiry s = .next t ∧ t.cycle.presence = .presenceQueued ∧
        ∃ f ∈ t.link.waiting, f.body = .presence (ownReport s))

/-- R16, R18, R21, R31, R38: the join window ends with the start scene applied as generation 1, and announced when no zone station
with a lower number is ACTIVE; and the fetch timer asks again, by a FETCH
for the wanted generation, or ends the RESYNC after three attempts. -/
def Obligations.JoinWindowAndFetchTimer : Prop :=
  ∀ s : State, listening s →
    (∀ k, s.scene.unit = .provisional → s.scene.joinWindow = some k →
      ∃ t, exec .joinWindowExpiry s = .next t ∧
        t.scene = { s.scene with
          unit := .agreed, joinWindow := none,
          applied := ⟨some 1, s.loader.image.startScene, s.loader.own, digestOf s.loader.image.startScene⟩ } ∧
        announces ⟨1, s.loader.image.startScene, s.loader.own, digestOf s.loader.image.startScene⟩ s t ∧
        ∀ n, (t.ramps.get n).claims.provisional = none) ∧
    (∀ f, s.scene.unit = .resync → s.scene.fetch = some f →
      (f.attempts < 3 →
        ∃ t, exec .fetchTimerExpiry s = .next t ∧
          t.scene = { s.scene with fetch := some ⟨f.wanted, f.attempts + 1, 320⟩ } ∧
          (queueHasPlace s → fetchWaits f.wanted t)) ∧
      (f.attempts = 3 →
        exec .fetchTimerExpiry s = .next
          { s with
            scene := { s.scene with unit := .agreed, fetch := none }
            link := { s.link with counters :=
              { s.link.counters with failedResyncs := countUp 65535 s.link.counters.failedResyncs } } }))

/-- R62, R63, R64, R65, R68, R69, R71, R99, R100: an ACTIVE entry whose age has come to 300 ms becomes SILENT with every field kept,
and a SILENT one whose age has come to 1000 ms becomes LOST with a gap review asked for and, for a zone entry, the demand compared
with the cut. Neither happens before its age, as when a PRESENCE is taken first, nor while ISOLATED is set. In RAIL_DOWN the
comparison is said while the rail is not released. -/
def Obligations.PeerAges : Prop :=
  ∀ (n : Station) (s : State) (r : Report) (age : Nat),
    (s.link.isolated = false → s.peers.entries.get n = .known .active r age →
      (1200 ≤ age → exec (.peerSilent n) s = .next
        { s with peers := { s.peers with entries := s.peers.entries.set n (.known .silent r age) } }) ∧
      (age < 1200 → exec (.peerSilent n) s = .next s)) ∧
    (s.link.isolated = false → s.peers.entries.get n = .known .silent r age →
      (4000 ≤ age → ∃ t, exec (.peerLost n) s = .next t ∧ t.planner.gapReview = true ∧
        t.peers = { s.peers with entries := s.peers.entries.set n (.known .lost r age) } ∧
        (railKept s t →
          (r.kind = .zone → cutFollows s t) ∧ (r.kind ≠ .zone → t.planner = { s.planner with gapReview := true }))) ∧
      (age < 4000 → exec (.peerLost n) s = .next s)) ∧
    (s.link.isolated = true → exec (.peerSilent n) s = .next s ∧ exec (.peerLost n) s = .next s)

/-- R78, R79, R84, R85, R86: a FRESH source whose age has come to 500 ms becomes STALE and the policy acts, the fall timer takes one
step away under FALL and none under HOLD, and the end of the spacing timer is followed by the offer check; an offer is due by the nine
conditions of R84, and carries the speed step alone, at rank 0, on the latest generation, at most 4 from its base scene's step. That
under ZERO a step still above 0 stays, as under HOLD, is the model's choice (log entry 33). -/
def Obligations.SpeedTimersAndOffers : Prop :=
  (∀ (s : State) (o : Offer), speedOffer s = some o →
    o.rank = 0 ∧
    (∃ v base : Int, o.values = { PerField.all none with speedStep := some v } ∧
      ((∃ sc, s.scene.staged = some sc ∧ o.base = sc.generation ∧ base = sc.content.speedStep) ∨
        (s.scene.staged = none ∧ s.scene.applied.generation = some o.base ∧ base = s.scene.applied.content.speedStep)) ∧
      v - base ≤ 4 ∧ base - v ≤ 4 ∧
      (((s.speed.desired : Int) - base ≤ 4 ∧ base - s.speed.desired ≤ 4) → v = s.speed.desired))) ∧
  (∀ s : State, offerDue s = true ↔
    (s.speed.state = .fresh ∨ s.speed.state = .stale) ∧ s.scene.unit = .agreed ∧
    s.controller.station ∈ [.quiet, .railUp, .stabilising, .ready, .railDown, .shutdown] ∧
    (s.speed.desired : Int) ≠ s.scene.applied.content.speedStep ∧
    ((s.loader.image.minimumChange : Int) ≤ s.speed.desired - s.scene.applied.content.speedStep ∨
      (s.loader.image.minimumChange : Int) ≤ s.scene.applied.content.speedStep - s.speed.desired ∨ s.speed.desired = 0) ∧
    s.speed.offerWaiting = false ∧ s.speed.spacingTimer = none ∧
    (∀ e, s.scene.pending.speedStep = some e → e.value ≠ s.speed.desired) ∧
    (∀ sc, s.scene.staged = some sc → sc.content.speedStep ≠ s.speed.desired)) ∧
  ∀ s : State,
    (∀ r, s.speed.state = .fresh → s.speed.source = some r → r.age < 2000 → exec .speedStale s = .next s) ∧
    (∀ r, s.speed.state = .fresh → s.speed.source = some r → 2000 ≤ r.age →
      ∃ t, exec .speedStale s = .next t ∧ t.speed.state = .stale ∧ t.speed.source = s.speed.source ∧
        (s.loader.image.stalePolicy = .hold →
          t.speed.desired = s.speed.desired ∧ t.speed.fallTimer = s.speed.fallTimer) ∧
        (s.loader.image.stalePolicy = .fall →
          t.speed.desired = s.speed.desired ∧ (0 < s.speed.desired → t.speed.fallTimer = some 4000)) ∧
        (s.loader.image.stalePolicy = .zero → t.speed.desired = 0)) ∧
    (∀ k, s.speed.fallTimer = some k → s.speed.state = .stale →
      (s.loader.image.stalePolicy = .fall →
        ∃ t, exec .fallTimerExpiry s = .next t ∧ t.speed.desired = s.speed.desired - 1 ∧
          t.speed.state = s.speed.state ∧ t.speed.source = s.speed.source ∧
          t.speed.fallTimer = if 1 < s.speed.desired then some 4000 else none) ∧
      (s.loader.image.stalePolicy = .hold ∨ s.loader.image.stalePolicy = .zero →
        exec .fallTimerExpiry s = .next { s with speed := { s.speed with fallTimer := none } })) ∧
    (∀ k, s.speed.spacingTimer = some k →
      (offerDue { s with speed := { s.speed with spacingTimer := none } } = false →
        exec .offerSpacingExpiry s = .next { s with speed := { s.speed with spacingTimer := none } }) ∧
      (∀ o, offerDue { s with speed := { s.speed with spacingTimer := none } } = true → speedOffer s = some o →
        s.link.placesHeld < 8 →
        ∃ t, exec .offerSpacingExpiry s = .next t ∧ t.speed.spacingTimer = some 1000 ∧ t.speed.offerWaiting = true ∧
          ∃ f ∈ t.link.waiting, f.body = .offer o))

/-- R100, R102, R104, R105, R172: the settle timer sets the fall-ready mark, the isolation timer sets ISOLATED and starts the duck's
wait, and the duck timer sets the duck, which leaves every roster channel with the target its terms then give, handed at SCENE where
no ramp is in flight; in RAIL_DOWN, while the rail is not released. -/
def Obligations.SettleIsolationAndDuckTimers : Prop :=
  ∀ s : State,
    (∀ k, s.planner.settleTimer = some k →
      exec .settleTimerExpiry s = .next { s with planner := { s.planner with settleTimer := none, fallReady := true } }) ∧
    (∀ k, s.link.isolationTimer = some k → s.planner.duck = .off →
      exec .isolationTimerExpiry s = .next
        { s with
          link := { s.link with isolated := true, isolationTimer := none }
          planner := { s.planner with duck := .waiting, duckTimer := some 8000 } }) ∧
    (∀ k, s.planner.duck = .waiting → s.planner.duckTimer = some k →
      ∃ t, exec .duckTimerExpiry s = .next t ∧ t.planner.duck = .on ∧ t.planner.duckTimer = none ∧ t.scene = s.scene ∧
        (railKept s t → s.scene.applied.generation ≠ none →
          allDistinct (s.loader.image.roster.map RosterEntry.channel) = true →
          t.planner.cut = s.planner.cut ∧ t.planner.gapSet = s.planner.gapSet ∧ targetsCurrent t ∧
          (noneInFlight s → newTargetsHandedAt .scene s t)))

/-- R112, R114, R118, R119, R126, R146, R183: one step of 0.5 dB of a channel: an OPEN one toward its target, a FADING one toward
silence, a DIPPING one down to its duck level and into HOLDING. Every other channel is left, and so are the claims. In RAIL_DOWN the
step that silences the last roster channel releases the rail; while another still sounds the controller is left. -/
def Obligations.StepTimerMovesOneStep : Prop :=
  ∀ (n : Channel) (s : State) (k : Nat) (g : Int),
    (s.ramps.get n).stepTimer = some k → (s.ramps.get n).currentGain = .level g →
    ∃ t, exec (.stepTimerExpiry n) s = .next t ∧ (anotherSounds n s → t.controller = s.controller) ∧
      (railKept s t →
        (∀ m, m ≠ n → t.ramps.get m = s.ramps.get m) ∧ (t.ramps.get n).claims = (s.ramps.get n).claims ∧
        ((s.ramps.get n).phase = .open →
          (∀ l, (s.ramps.get n).target = .level l → g ≠ l →
            (t.ramps.get n).currentGain = .level (if g < l then g + 1 else g - 1) ∧
            ((t.ramps.get n).currentGain = .level l → (t.ramps.get n).stepTimer = none) ∧
            ((t.ramps.get n).currentGain ≠ .level l →
              (t.ramps.get n).stepTimer = some (stepInterval (s.ramps.get n).rateClass))) ∧
          ((s.ramps.get n).target = .silent →
            (t.ramps.get n).currentGain = if g - 1 ≤ -120 then .silent else .level (g - 1))) ∧
        ((s.ramps.get n).phase = .fading →
          (g - 1 ≤ -120 → (t.ramps.get n).currentGain = .silent ∧ (t.ramps.get n).phase = .silent ∧
            (t.ramps.get n).stepTimer = none) ∧
          (-120 < g - 1 → (t.ramps.get n).currentGain = .level (g - 1) ∧ (t.ramps.get n).phase = .fading ∧
            (t.ramps.get n).stepTimer = some 2)) ∧
        ((s.ramps.get n).phase = .dipping → ∀ level, (s.ramps.get n).duckLevel = some level →
          (level < g - 1 → (t.ramps.get n).currentGain = .level (g - 1) ∧ (t.ramps.get n).stepTimer = some 2) ∧
          (g - 1 ≤ level → 0 < s.loader.image.duckHold →
            (t.ramps.get n).phase = .holding ∧ (t.ramps.get n).holdTimer = some (4 * s.loader.image.duckHold)))) ∧
      (s.controller.station = .railDown → railDriven s → othersSilent n s → (s.ramps.get n).phase = .fading →
        g - 1 ≤ -120 → (s.ramps.get n).claims.rail.isSome = true →
        railReleased t ∧ (t.ramps.get n).currentGain = .silent ∧ (t.ramps.get n).phase = .silent)

/-- R120, R126, R136, R183: the end of a hold silences the channel, which in RAIL_DOWN releases the rail when every other roster channel
is silent, and the preparation timer completes the shadow bank being made. -/
def Obligations.DuckHoldAndPreparationTimers : Prop :=
  ∀ s : State,
    (∀ n k, (s.ramps.get n).phase = .holding → (s.ramps.get n).holdTimer = some k →
      ∃ t, exec (.duckHoldExpiry n) s = .next t ∧ (anotherSounds n s → t.controller = s.controller) ∧
        (railKept s t →
          (t.ramps.get n).currentGain = .silent ∧ (t.ramps.get n).phase = .silent ∧ (t.ramps.get n).duckLevel = none ∧
          (t.ramps.get n).claims = (s.ramps.get n).claims) ∧
        (s.controller.station = .railDown → railDriven s → othersSilent n s →
          (s.ramps.get n).claims.rail.isSome = true →
          railReleased t ∧ (t.ramps.get n).currentGain = .silent ∧ (t.ramps.get n).phase = .silent)) ∧
    (∀ n k settings, s.controller.station ≠ .starting → s.equaliser.state = .preparing →
      s.equaliser.timer = some k → s.equaliser.position = some n → s.equaliser.prepared = some settings →
      ∃ t, exec .preparationTimerExpiry s = .next t ∧
        t.equaliser.shadow.get n = some (bankFor s.loader.image settings n) ∧
        t.equaliser.active = s.equaliser.active ∧
        ((∀ m ∈ s.equaliser.list, ¬n < m) →
          t.equaliser.state = .complete ∧ t.equaliser.timer = none ∧ t.equaliser.position = none) ∧
        (∀ m rest, s.equaliser.list.filter (fun m => decide (n < m)) = m :: rest →
          t.equaliser.position = some m ∧ t.equaliser.timer = some 8 ∧ t.equaliser.state = .preparing))

/-- R99, R100, R149, R152, R154, R155: the rise guard stops, the clip contribution falls by 1 and the demand is compared with the
cabin cut, a retry clears the record and lifts the FAULT claim
unless RAIL_HIGH holds it, and the budget is renewed. In RAIL_DOWN what moves the cut and the channel is said while the rail is not
released. -/
def Obligations.ProtectionTimers : Prop :=
  ∀ s : State,
    (∀ k, s.protection.riseGuard = some k →
      exec .riseGuardExpiry s = .next { s with protection := { s.protection with riseGuard := none } }) ∧
    (∀ k, s.protection.clipFall = some k →
      ∃ t, exec .clipFallTimerExpiry s = .next t ∧ t.protection.clip = s.protection.clip - 1 ∧
        t.protection.clipFall = (if 1 < s.protection.clip then some 4000 else none) ∧
        t.protection.riseGuard = s.protection.riseGuard ∧
        (0 < s.protection.clip → railKept s t → cutFollows s t)) ∧
    (∀ n k, (s.protection.records.get n).state = .retryWait → (s.protection.records.get n).retryTimer = some k →
      ∃ t, exec (.retryTimerExpiry n) s = .next t ∧
        t.protection.records.get n =
          { s.protection.records.get n with
            state := .clear, retryTimer := none, retriesUsed := countUp 4 (s.protection.records.get n).retriesUsed } ∧
        (s.protection.active.railHigh = false → (t.ramps.get n).claims.fault = none) ∧
        (s.protection.active.railHigh = true → railKept s t → t.ramps.get n = s.ramps.get n)) ∧
    (∀ n k, (s.protection.records.get n).budgetTimer = some k →
      exec (.budgetTimerExpiry n) s = .next
        { s with protection := { s.protection with
            records := s.protection.records.set n
              { s.protection.records.get n with retriesUsed := 0, budgetTimer := none } } })

/-! ### Inputs -/

/-- R144, R145, R146: a sense slot keeps its reading and the scan moves on, returning to slot 0 after slot 9; a stopped scan reads
nothing. A rail or offset reading outside the rail window, an offset of a channel absent from the roster, and a temperature in
UNCONFIGURED are kept and not judged. Two consecutive readings past a threshold recognise a condition or clear it, and a reading between sets the count to
0. -/
def Obligations.SenseSlotsAndConditions : Prop :=
  (∀ past recovered : Bool,
    Condition.advance true recovered ⟨false, 0⟩ = (⟨false, 1⟩, .unchanged) ∧
    Condition.advance true recovered ⟨false, 1⟩ = (⟨true, 0⟩, .recognised) ∧
    (∀ count, Condition.advance false recovered ⟨false, count⟩ = (⟨false, 0⟩, .unchanged)) ∧
    Condition.advance past true ⟨true, 0⟩ = (⟨true, 1⟩, .unchanged) ∧
    Condition.advance past true ⟨true, 1⟩ = (⟨false, 0⟩, .cleared) ∧
    (∀ count, Condition.advance past false ⟨true, count⟩ = (⟨true, 0⟩, .unchanged))) ∧
  ∀ (v : Int) (s : State),
    (∀ slot, s.protection.scan = some slot →
      ∃ t, exec (.senseSlot v) s = .next t ∧ t.protection.scan = some (slot + 1) ∧
        (slot = 0 → t.protection.readings = { s.protection.readings with rail := some v }) ∧
        (slot = 1 → t.protection.readings = { s.protection.readings with temperature := some v }) ∧
        (∀ n : Channel, slot.val = n.val + 2 →
          t.protection.readings =
            { s.protection.readings with offset := s.protection.readings.offset.set n (some (v.natAbs : Int)) }) ∧
        ((slot ≠ 1 ∧ ¬windowOpen s) ∨ (∃ n : Channel, slot.val = n.val + 2 ∧ descriptorOf s.loader.image n = none) ∨
            (slot = 1 ∧ s.controller.station = .unconfigured) → railKept s t →
          t.protection = { s.protection with readings := t.protection.readings, scan := t.protection.scan })) ∧
    (s.protection.scan = none → exec (.senseSlot v) s = .next s)

/-- R98 to R100, R145, R146, R149, R155, R156, R157, R160, R178, R180, R181, R183, R185: what the second reading past a threshold of
THERMAL_WARN, THERMAL_SHUT, RAIL_SAG, RAIL_LOW and RAIL_HIGH does, with its ALERT where the queue has places for it and for those that the
same reading may bring before it, and what the second past its recovery threshold undoes. The warning temperature adds 12 to the own demand in mode LIMIT, nothing in mode REPORT, and no fault is
marked in mode IGNORE; the demand is said of a reading that does not turn THERMAL_SHUT too. The shut temperature takes a station on its
way to READY, or there, to SHUTDOWN and silences a fading one in RAIL_DOWN, which releases the rail; the recovery brings SHUTDOWN back to
RAIL_UP. A sagging rail adds 12 to the own demand. A low one takes a station in STABILISING or READY back to RAIL_UP, and stands in
RAIL_DOWN until it clears, which it does only while rail-good is present. A high one silences every channel until it clears. What is
said of a rail fault, or of the demand, in RAIL_DOWN is said while the rail is not released. -/
def Obligations.StationFaultsTurnWithTheirConditions : Prop :=
  ∀ (v : Int) (s : State) (p : ProtectionConfig), p = s.loader.image.protection →
    (s.protection.scan = some 1 → s.protection.conditions.thermalWarn = ⟨false, 1⟩ → p.warnThreshold ≤ v →
      s.protection.active.thermalWarn = false → s.controller.station ≠ .unconfigured →
      ∃ t, exec (.senseSlot v) s = .next t ∧ t.protection.conditions.thermalWarn = ⟨true, 0⟩ ∧
        (p.warnMode = .ignore →
          t.protection.active.thermalWarn = false ∧ t.protection.sticky.thermalWarn = s.protection.sticky.thermalWarn) ∧
        (p.warnMode ≠ .ignore →
          t.protection.active.thermalWarn = true ∧ t.protection.sticky.thermalWarn = true ∧
          (queueHasPlace s → alertWaits ⟨.station .thermalWarn, .active⟩ t)) ∧
        (shutStays v s → railKept s t →
          (p.warnMode = .limit → ownDemand t = ownDemand s + 12 ∧ cutFollows s t) ∧
          (p.warnMode ≠ .limit → ownDemand t = ownDemand s ∧ t.planner = s.planner))) ∧
    (s.protection.scan = some 1 → s.protection.conditions.thermalWarn = ⟨true, 1⟩ → v ≤ p.warnThreshold - 5 →
      s.protection.active.thermalWarn = true → s.controller.station ≠ .unconfigured →
      ∃ t, exec (.senseSlot v) s = .next t ∧ t.protection.conditions.thermalWarn = ⟨false, 0⟩ ∧
        t.protection.active.thermalWarn = false ∧ t.protection.sticky.thermalWarn = s.protection.sticky.thermalWarn ∧
        (shutStays v s → railKept s t →
          (p.warnMode = .limit → ownDemand t + 12 = ownDemand s ∧ cutFollows s t) ∧
          (p.warnMode ≠ .limit → ownDemand t = ownDemand s ∧ t.planner = s.planner))) ∧
    (s.protection.scan = some 1 → s.protection.conditions.thermalShut = ⟨false, 1⟩ → p.shutThreshold ≤ v →
      s.protection.active.thermalShut = false → s.controller.station ≠ .unconfigured →
      ∃ t, exec (.senseSlot v) s = .next t ∧ t.protection.conditions.thermalShut = ⟨true, 0⟩ ∧
        t.protection.active.thermalShut = true ∧ t.protection.sticky.thermalShut = true ∧
        (queueHasPlace s → s.link.placesHeld < 7 → alertWaits ⟨.station .thermalShut, .active⟩ t) ∧
        (s.controller.station ∈ [.quiet, .railUp, .stabilising, .ready] →
          t.controller.station = .shutdown ∧ t.controller.rail = .off ∧ t.controller.railRetryTimer = none ∧
          t.controller.railGoodTimer = none ∧ t.controller.stabiliseTimer = none) ∧
        (s.controller.station = .ready → ∀ n, (t.ramps.get n).claims.rail = some .hard) ∧
        (s.controller.station = .railDown →
          (∀ n, (t.ramps.get n).claims.rail = some .hard) ∧
          (railDriven s → rampsCoherent s → (∀ n, (s.ramps.get n).claims.rail = some .soft) →
            railReleased t ∧ ∀ n, (t.ramps.get n).currentGain = .silent)) ∧
        (s.controller.station = .resting ∨ s.controller.station = .conflict →
          t.controller.station = s.controller.station)) ∧
    (s.protection.scan = some 1 → s.protection.conditions.thermalShut = ⟨true, 1⟩ → v ≤ p.shutThreshold - 10 →
      s.protection.active.thermalShut = true → s.controller.station ≠ .unconfigured →
      ∃ t, exec (.senseSlot v) s = .next t ∧ t.protection.conditions.thermalShut = ⟨false, 0⟩ ∧
        t.protection.active.thermalShut = false ∧ t.protection.sticky.thermalShut = s.protection.sticky.thermalShut ∧
        (s.controller.station = .shutdown →
          t.controller.station = railUpEnd s ∧ t.controller.rail = (if s.pins.railGood then .up else .rising) ∧
          ∀ n, (t.ramps.get n).claims.rail = (s.ramps.get n).claims.rail) ∧
        (s.controller.station ≠ .shutdown → t.controller.station = s.controller.station)) ∧
    (s.protection.scan = some 0 → windowOpen s → s.protection.conditions.railSag = ⟨false, 1⟩ → v < p.sagThreshold →
      p.lowThreshold ≤ v → s.protection.active.railSag = false →
      ∃ t, exec (.senseSlot v) s = .next t ∧ t.protection.sticky.railSag = true ∧
        (railKept s t →
          t.protection.conditions.railSag = ⟨true, 0⟩ ∧ t.protection.active.railSag = true ∧
          ownDemand t = ownDemand s + 12 ∧ cutFollows s t ∧
          (queueHasPlace s → alertWaits ⟨.station .railSag, .active⟩ t))) ∧
    (s.protection.scan = some 0 → windowOpen s → s.protection.conditions.railSag = ⟨true, 1⟩ → p.sagThreshold + 5 ≤ v →
      s.protection.active.railSag = true →
      ∃ t, exec (.senseSlot v) s = .next t ∧ t.protection.conditions.railSag = ⟨false, 0⟩ ∧
        t.protection.active.railSag = false ∧ t.protection.sticky.railSag = s.protection.sticky.railSag ∧
        ownDemand t + 12 = ownDemand s ∧ cutFollows s t) ∧
    (s.protection.scan = some 0 → windowOpen s → s.protection.conditions.railLow = ⟨false, 1⟩ → v < p.lowThreshold →
      s.protection.active.railLow = false →
      ∃ t, exec (.senseSlot v) s = .next t ∧ t.protection.sticky.railLow = true ∧
        (queueHasPlace s → s.link.placesHeld < 6 → alertWaits ⟨.station .railLow, .active⟩ t) ∧
        (s.controller.station = .stabilising ∨ s.controller.station = .ready →
          t.controller.station = railUpEnd s ∧ t.controller.rail = (if s.pins.railGood then .up else .rising) ∧
          t.controller.stabiliseTimer = (if s.pins.railGood then some 200 else none) ∧
          t.controller.railGoodTimer = (if s.pins.railGood then none else some 400) ∧
          t.protection.conditions.railLow = ⟨false, 0⟩ ∧ t.protection.active.railLow = false) ∧
        (s.controller.station = .ready → ∀ n, (t.ramps.get n).claims.rail = some .hard) ∧
        (s.controller.station = .railDown →
          t.controller.station = .railDown ∧
          (railKept s t → t.protection.conditions.railLow = ⟨true, 0⟩ ∧ t.protection.active.railLow = true))) ∧
    (s.protection.scan = some 0 → windowOpen s → s.protection.conditions.railLow = ⟨true, 1⟩ → p.lowThreshold + 5 ≤ v →
      s.protection.active.railLow = true →
      ∃ t, exec (.senseSlot v) s = .next t ∧ t.controller.station = s.controller.station ∧
        t.protection.sticky.railLow = s.protection.sticky.railLow ∧
        (s.pins.railGood = true →
          t.protection.conditions.railLow = ⟨false, 0⟩ ∧ t.protection.active.railLow = false) ∧
        (s.pins.railGood = false → railKept s t →
          t.protection.conditions.railLow = ⟨true, 0⟩ ∧ t.protection.active.railLow = true)) ∧
    (s.protection.scan = some 0 → windowOpen s → s.protection.conditions.railHigh = ⟨false, 1⟩ → p.highThreshold < v →
      p.lowThreshold ≤ v → p.railHighMode = .enable → s.protection.active.railHigh = false →
      ∃ t, exec (.senseSlot v) s = .next t ∧ t.protection.sticky.railHigh = true ∧
        (railKept s t →
          t.protection.conditions.railHigh = ⟨true, 0⟩ ∧ t.protection.active.railHigh = true ∧
          (∀ n, (t.ramps.get n).claims.fault = some .hard ∧
            ((s.ramps.get n).coherent → (s.ramps.get n).claims.fault = none →
              (t.ramps.get n).phase = .silent ∧ (t.ramps.get n).currentGain = .silent)) ∧
          (queueHasPlace s → s.link.placesHeld < 7 → alertWaits ⟨.station .railHigh, .active⟩ t))) ∧
    (s.protection.scan = some 0 → windowOpen s → s.protection.conditions.railHigh = ⟨true, 1⟩ → v ≤ p.highThreshold - 5 →
      s.protection.active.railHigh = true →
      ∃ t, exec (.senseSlot v) s = .next t ∧ t.protection.conditions.railHigh = ⟨false, 0⟩ ∧
        t.protection.active.railHigh = false ∧ t.protection.sticky.railHigh = s.protection.sticky.railHigh ∧
        ∀ n, ((s.protection.records.get n).state ∈ [.clear, .reported] → (t.ramps.get n).claims.fault = none) ∧
          ((s.protection.records.get n).state ∈ [.ducking, .retryWait, .latched] →
            (t.ramps.get n).claims.fault = (s.ramps.get n).claims.fault))

/-- R145, R148, R149, R153, R160: the DC_OFFSET condition of a roster channel in the rail window. Its second reading above the threshold
adds to the count and acts by the mode and the record: LATCH silences a CLEAR or REPORTED channel, turns a dip toward LATCHED and latches
one that waits for a retry, each with its ALERT where the queue has a place; REPORT moves a CLEAR or REPORTED record alone; a LATCHED
record stays. The second reading at or below half the threshold clears a record REPORTED for it, and no other. That a dip already led
by DC_OFFSET queues no further ALERT is the model's choice (log entry 19). In RAIL_DOWN this is said while the rail is not released. -/
def Obligations.OffsetFaultsFollowTheTable : Prop :=
  ∀ (n : Channel) (d : RosterEntry) (v : Int) (s : State) (slot : Fin 10) (p : ProtectionConfig) (r : FaultRecord),
    p = s.loader.image.protection → r = s.protection.records.get n → s.protection.scan = some slot →
    slot.val = n.val + 2 → windowOpen s → descriptorOf s.loader.image n = some d →
    ∃ t, exec (.senseSlot v) s = .next t ∧ (railKept s t →
      (s.protection.conditions.offset.get n = ⟨false, 1⟩ → p.offsetThreshold < v.natAbs →
        t.protection.conditions.offset.get n = ⟨true, 0⟩ ∧
        (p.dcOffsetMode = .latch → ∀ placed, placed = (s.ramps.get n).place s.loader.image.duckHold .fault p.dcOffsetKind →
          (r.state = .clear ∨ r.state = .reported → ∀ entered,
            entered = (if p.dcOffsetKind = .duckHold ∧ (s.ramps.get n).currentGain ≠ .silent then .ducking else .latched) →
            t.protection.records.get n =
              { r with state := entered, lastFault := some .dcOffset, occurrences := countUp 255 r.occurrences } ∧
            t.ramps.get n = placed.record ∧
            (queueHasPlace s → alertWaits ⟨.channel .dcOffset n, .record entered⟩ t)) ∧
          (r.state = .ducking →
            t.protection.records.get n =
              { r with
                state := if placed.notice then .latched else .ducking, lastFault := some .dcOffset
                occurrences := countUp 255 r.occurrences } ∧
            t.ramps.get n = placed.record ∧
            (r.lastFault ≠ some .dcOffset → queueHasPlace s → alertWaits ⟨.channel .dcOffset n, .record .ducking⟩ t) ∧
            (r.lastFault = some .dcOffset → noAlertQueued s t)) ∧
          (r.state = .retryWait →
            t.protection.records.get n =
              { r with
                state := .latched, lastFault := some .dcOffset, occurrences := countUp 255 r.occurrences
                retryTimer := none } ∧
            t.ramps.get n = placed.record ∧
            (queueHasPlace s → alertWaits ⟨.channel .dcOffset n, .record .latched⟩ t)) ∧
          (r.state = .latched →
            t.protection.records.get n = { r with occurrences := countUp 255 r.occurrences } ∧ t.ramps = s.ramps ∧
            noAlertQueued s t)) ∧
        (p.dcOffsetMode = .report →
          t.ramps = s.ramps ∧
          (r.state = .clear ∨ r.state = .reported → t.protection.records.get n =
            { r with state := .reported, lastFault := some .dcOffset, occurrences := countUp 255 r.occurrences }) ∧
          (r.state = .clear → queueHasPlace s → alertWaits ⟨.channel .dcOffset n, .record .reported⟩ t) ∧
          (r.state ≠ .clear → noAlertQueued s t) ∧
          (r.state = .ducking ∨ r.state = .retryWait ∨ r.state = .latched →
            t.protection.records.get n = { r with occurrences := countUp 255 r.occurrences })) ∧
        (p.dcOffsetMode = .ignore →
          t.ramps = s.ramps ∧ t.protection.records = s.protection.records ∧ noAlertQueued s t)) ∧
      (s.protection.conditions.offset.get n = ⟨true, 1⟩ → 2 * (v.natAbs : Int) ≤ p.offsetThreshold →
        t.protection.conditions.offset.get n = ⟨false, 0⟩ ∧ t.ramps = s.ramps ∧
        t.protection.records.get n =
          if r.state = .reported ∧ r.lastFault = some .dcOffset then { r with state := .clear } else r) ∧
      ∀ m, m ≠ n → t.ramps.get m = s.ramps.get m ∧ t.protection.records.get m = s.protection.records.get m)

/-- R146, R149, R150, R151, R160, R183: an overcurrent on a roster channel. In mode RETRY or LATCH it silences a CLEAR or REPORTED
channel by the kind of the image: the record enters DUCKING, RETRY_WAIT or LATCHED, with its ALERT where the queue has a place, the FAULT
claim is placed, and a wait begins when the channel is silent. With kind HARD that is at once, and in RAIL_DOWN it releases the rail when
every other roster channel is silent. In mode REPORT such a record becomes REPORTED. On a channel already in hand it only counts, and in
mode IGNORE it does nothing. What is said of the gains in RAIL_DOWN, and of a channel already in hand, is said while the rail is not
released; with a channel in hand it is not, in a state in which railDownSounds (ChannelsHeldOutsideReady) holds. -/
def Obligations.OvercurrentSilencesItsChannel : Prop :=
  ∀ (n : Channel) (d : RosterEntry) (s : State) (p : ProtectionConfig) (r : FaultRecord), listening s →
    p = s.loader.image.protection → r = s.protection.records.get n → descriptorOf s.loader.image n = some d →
    (p.overcurrentMode = .retry ∨ p.overcurrentMode = .latch → r.state = .clear ∨ r.state = .reported → r.fits →
      ∀ placed destination entered, placed = (s.ramps.get n).place s.loader.image.duckHold .fault p.overcurrentKind →
      destination = (if p.overcurrentMode = .latch ∨ r.retriesUsed = 4 then .latched else .retryWait) →
      entered = (if p.overcurrentKind = .duckHold ∧ (s.ramps.get n).currentGain ≠ .silent then .ducking else destination) →
      ∃ t, exec (.overcurrentFlag n) s = .next t ∧
        t.protection.records.get n =
          { state := entered, lastFault := some .overcurrent, occurrences := countUp 255 r.occurrences
            retriesUsed := r.retriesUsed, budgetTimer := some 40000
            retryTimer :=
              if entered = .retryWait ∧ ((s.ramps.get n).currentGain = .silent ∨ placed.notice = true) then some 800
              else none } ∧
        (railKept s t → t.ramps.get n = placed.record) ∧
        (queueHasPlace s → alertWaits ⟨.channel .overcurrent n, .record entered⟩ t) ∧
        (p.overcurrentKind = .hard → (s.ramps.get n).coherent → (s.ramps.get n).claims.fault = none →
          (t.ramps.get n).claims.fault = some .hard ∧ (t.ramps.get n).phase = .silent ∧
          (t.ramps.get n).currentGain = .silent ∧ (entered = .retryWait → placed.notice = true) ∧
          (s.controller.station = .railDown → railDriven s → othersSilent n s → railReleased t))) ∧
    (p.overcurrentMode = .report → r.state = .clear ∨ r.state = .reported →
      ∃ t, exec (.overcurrentFlag n) s = .next t ∧
        t.protection.records.get n =
          { r with
            state := .reported, lastFault := some .overcurrent, occurrences := countUp 255 r.occurrences
            budgetTimer := some 40000 } ∧
        (railKept s t → t.ramps = s.ramps) ∧
        (r.state = .clear → queueHasPlace s → alertWaits ⟨.channel .overcurrent n, .record .reported⟩ t) ∧
        (r.state = .reported → noAlertQueued s t)) ∧
    (p.overcurrentMode ≠ .ignore → r.state = .ducking ∨ r.state = .retryWait ∨ r.state = .latched →
      ∃ t, exec (.overcurrentFlag n) s = .next t ∧ noAlertQueued s t ∧ (railDownSounds s → railKept s t) ∧
        (railKept s t → t.ramps = s.ramps ∧
          t.protection.records.get n = { r with occurrences := countUp 255 r.occurrences, budgetTimer := some 40000 })) ∧
    (p.overcurrentMode = .ignore → exec (.overcurrentFlag n) s = .next s)

/-- R98, R99, R100, R104, R154, R155, R160: the own demand is the sum of the clip, thermal and sag contributions, and the greatest is
the own in INDEPENDENT mode and the largest of it and of those the zone stations tell in COUPLED. A clip flag in mode LIMIT raises the
contribution when the guard allows and restarts the fall timer, with an ALERT at the rise from 0, and the greatest demand, compared with the cabin cut, moves it; a cut that rises leaves every roster channel with the target
its terms then give, handed at PROTECT. A clip flag in mode REPORT is recorded, with an ALERT when it moves a CLEAR record, and
moves no cut. In RAIL_DOWN what moves the cut is said while the rail is not released. -/
def Obligations.ClipFlagLimitsOrReports : Prop :=
  (∀ (s : State), ownDemand s = s.protection.clip +
      (if s.protection.active.thermalWarn = true ∧ s.loader.image.protection.warnMode = .limit then 12 else 0) +
      (if s.protection.active.railSag = true then 12 else 0) ∧
    (s.loader.image.cutMode = some .independent → greatestDemand s = ownDemand s) ∧
    (s.loader.image.cutMode = some .coupled →
      ownDemand s ≤ greatestDemand s ∧
      (∀ n demand, demandTold (s.peers.entries.get n) demand → demand ≤ greatestDemand s) ∧
      (greatestDemand s = ownDemand s ∨ ∃ n, demandTold (s.peers.entries.get n) (greatestDemand s)))) ∧
  ∀ (n : Channel) (d : RosterEntry) (s : State), listening s → descriptorOf s.loader.image n = some d →
    (s.loader.image.protection.clipMode = .limit →
      ∃ t, exec (.clipFlag n) s = .next t ∧ t.protection.clipFall = some 4000 ∧
        (s.protection.riseGuard = none → s.protection.clip < 24 →
          t.protection.clip = s.protection.clip + 1 ∧ t.protection.riseGuard = some 400 ∧
          (s.protection.clip = 0 → queueHasPlace s → alertWaits ⟨.channel .clip n, .limiting⟩ t) ∧
          (0 < s.protection.clip → noAlertQueued s t) ∧
          (railKept s t → cutFollows s t ∧
            (s.planner.cut < greatestDemand t → s.scene.applied.generation ≠ none →
              allDistinct (s.loader.image.roster.map RosterEntry.channel) = true →
              targetsCurrent t ∧ newTargetsHandedAt .protect s t))) ∧
        (s.protection.riseGuard ≠ none ∨ s.protection.clip = 24 →
          t.protection.clip = s.protection.clip ∧ t.protection.riseGuard = s.protection.riseGuard ∧
          noAlertQueued s t ∧ (railKept s t → t.planner = s.planner))) ∧
    (s.loader.image.protection.clipMode = .report →
      ∃ t, exec (.clipFlag n) s = .next t ∧ t.protection.clip = s.protection.clip ∧
        (t.protection.records.get n).occurrences = countUp 255 (s.protection.records.get n).occurrences ∧
        ((s.protection.records.get n).state = .clear →
          (t.protection.records.get n).state = .reported ∧ (t.protection.records.get n).lastFault = some .clip ∧
          (queueHasPlace s → alertWaits ⟨.channel .clip n, .record .reported⟩ t)) ∧
        ((s.protection.records.get n).state ≠ .clear → noAlertQueued s t) ∧
        (railKept s t → t.planner = s.planner ∧
          ((s.protection.records.get n).state ≠ .clear →
            (t.protection.records.get n).state = (s.protection.records.get n).state ∧
            (t.protection.records.get n).lastFault = (s.protection.records.get n).lastFault)))

/-- R146, R156, R160, R180, R181: rail-good comes while the station waits for it, or goes within the rail window, with the ALERT of
RAIL_LOW where the queue has a place. -/
def Obligations.RailGoodArrivesOrIsLost : Prop :=
  ∀ s : State,
    (∀ k, s.controller.station = .railUp → s.controller.railGoodTimer = some k →
      ∃ t, exec .railGoodArrival s = .next t ∧ t.controller.station = .stabilising ∧ t.controller.rail = .up ∧
        t.controller.railGoodTimer = none ∧ t.controller.stabiliseTimer = some 200 ∧
        t.protection.active.railFail = false ∧ t.pins.railGood = true) ∧
    (s.controller.station ≠ .railUp →
      exec .railGoodArrival s = .next { s with pins := { s.pins with railGood := true } }) ∧
    ((s.controller.station = .ready ∨ s.controller.station = .stabilising) → s.controller.rail = .up →
      s.protection.active.railLow = false →
      ∃ t, exec .railGoodLoss s = .next t ∧ t.controller.station = .railUp ∧ t.controller.rail = .rising ∧
        t.controller.railGoodTimer = some 400 ∧ t.controller.stabiliseTimer = none ∧
        t.protection.sticky.railLow = true ∧ t.protection.active.railLow = false ∧ t.pins.railGood = false ∧
        (queueHasPlace s → alertWaits ⟨.station .railLow, .active⟩ t) ∧
        (s.controller.station = .ready → ∀ n, (t.ramps.get n).claims.rail = some .hard)) ∧
    ((s.controller.rail = .off ∨ s.controller.rail = .draining) →
      exec .railGoodLoss s = .next { s with pins := { s.pins with railGood := false } })

/-- R66, R156, R160, R178, R180, R181, R183, R184: without rail-good in time the station goes to QUIET with RAIL_FAIL, and its ALERT
when that was not active; a retry enters RAIL_UP
again; a stable rail leads to READY, which frees the channels held by RAIL alone; and the down timer leads to RESTING, which empties
the Peer Table, or makes its emptying due while ISOLATED is set. -/
def Obligations.ControllerTimers : Prop :=
  ∀ (s : State) (k : Nat),
    (s.controller.station = .railUp → s.controller.railGoodTimer = some k →
      ∃ t, exec .railGoodTimerExpiry s = .next t ∧ t.controller.station = .quiet ∧ t.controller.rail = .off ∧
        t.controller.railGoodTimer = none ∧ t.controller.railRetryTimer = some 4000 ∧
        t.protection.active.railFail = true ∧
        (s.protection.active.railFail = false → queueHasPlace s → alertWaits ⟨.station .railFail, .active⟩ t) ∧
        (s.protection.active.railFail = true → noAlertQueued s t)) ∧
    (s.controller.station = .quiet → s.controller.railRetryTimer = some k →
      ∃ t, exec .railRetryTimerExpiry s = .next t ∧ t.controller.station = railUpEnd s ∧
        t.controller.rail = (if s.pins.railGood then .up else .rising) ∧ t.controller.railRetryTimer = none) ∧
    (s.controller.station = .stabilising → s.controller.stabiliseTimer = some k →
      ∃ t, exec .stabiliseTimerExpiry s = .next t ∧ t.controller.station = .ready ∧
        t.controller.stabiliseTimer = none ∧ (∀ n, (t.ramps.get n).claims.rail = none) ∧
        ∀ n l, (s.ramps.get n).claims = { ClaimSet.empty with rail := some .hard } → (s.ramps.get n).phase = .silent →
          (s.ramps.get n).target = .level l →
          (t.ramps.get n).phase = .open ∧ (t.ramps.get n).currentGain = .level (-120)) ∧
    (s.controller.station = .railDown → s.controller.downTimer = some k →
      ∃ t, exec .downTimerExpiry s = .next t ∧ t.controller.station = .resting ∧ t.controller.rail = .off ∧
        t.controller.stop = .rest ∧ t.link.waiting = [] ∧ t.cycle.cycle = .stopped ∧ t.cycle.presence = .stopped ∧
        t.scene = s.scene ∧ t.link.counters = s.link.counters ∧
        (s.link.isolated = false → tableEmptied s t) ∧
        (s.link.isolated = true → t.peers = { s.peers with emptyingDue := true }))

/-- R50, R178, R183, R184, R186, R187: a rising wake line wakes a RESTING station, ends a rest in RAIL_DOWN, gives a station in
CONFLICT a fresh start, and does nothing in any other state. -/
def Obligations.WakeLineRises : Prop :=
  ∀ s : State,
    (s.controller.station = .resting →
      ∃ t, exec .wakeLineRise s = .next t ∧
        t.controller.station = (if s.protection.active.thermalShut then .shutdown else railUpEnd s) ∧
        (∀ n, (t.ramps.get n).claims.rest = none) ∧ t.cycle.cycle = .running (80 + s.loader.own.val) ∧
        t.controller.stop = s.controller.stop ∧ t.scene = s.scene ∧ t.peers = s.peers ∧ t.pins.wakeLine = true) ∧
    (s.controller.station = .railDown →
      ∃ t, exec .wakeLineRise s = .next t ∧ t.controller.station = railUpEnd s ∧
        t.controller.downTimer = none ∧ (∀ n, (t.ramps.get n).claims.rest = none) ∧
        t.controller.stop = s.controller.stop) ∧
    (s.controller.station = .conflict →
      ∃ t, exec .wakeLineRise s = .next t ∧ t.controller.station = .starting ∧ t.loader.freshStart = true ∧
        (∀ n, (t.ramps.get n).claims.conflict = none) ∧ t.protection.scan = none ∧
        t.protection.active.numberConflict = false ∧ t.protection.sticky = s.protection.sticky ∧
        t.link.conflictReported = false ∧ t.controller.stop = s.controller.stop ∧ t.scene = s.scene) ∧
    ((s.controller.station = .starting ∨ s.controller.station = .unconfigured ∨ s.controller.station = .quiet ∨
        s.controller.station = .railUp ∨ s.controller.station = .stabilising ∨ s.controller.station = .ready ∨
        s.controller.station = .shutdown) →
      ∃ t, exec .wakeLineRise s = .next t ∧ t.controller = s.controller ∧ t.ramps = s.ramps ∧
        t.protection = s.protection ∧ t.cycle = s.cycle ∧ t.pins.wakeLine = true)

/-! ### Rules that need no command -/

/-- R3: the digest, as the rule's own sentence computes it. -/
def Obligations.DigestIsTheRunningValue : Prop :=
  ∀ c : Content,
    (digestOf c).toInt % 65536 =
      (((((((((((1 * 37 + c.volume) % 65536 * 37 + (c.fade + 15)) % 65536 * 37 + (c.balance + 15)) % 65536 * 37 +
        (c.bass + 12)) % 65536 * 37 + (c.mid + 12)) % 65536 * 37 + (c.treble + 12)) % 65536 * 37 + c.preset) % 65536 * 37 +
        c.curve) % 65536 * 37 + c.speedStep) % 65536 * 37 + c.cabinMute) % 65536)

/-- R13: the leading proposer of a held record is the proposer of an entry of the highest rank, and no entry of that rank has a
higher one; a scene staged from the record takes it as its origin. -/
def Obligations.LeadingProposerLeads : Prop :=
  ∀ (p : PendingRecord), recordHeld p = true →
    (∃ f e, p.get f = some e ∧ e.proposer = leadingProposer p ∧
      ∀ f' e', p.get f' = some e' → e'.rank ≤ e.rank ∧ (e'.rank = e.rank → e'.proposer ≤ leadingProposer p)) ∧
    ∀ (g : Generation) (c : Content), (stagedFrom p g c).origin = leadingProposer p

/-- R81: the computed step and the falling step of curves 0 to 3: 0 up to the low speed, the top step from the high speed, and
the straight line between them rounded down, each whole step reached where the line first meets it. -/
def Obligations.CurveSteps : Prop :=
  (∀ image v, computedStep image 0 v = 0 ∧ fallingStep image 0 v = 0) ∧
  ∀ (image : Image) (n : Int) (c : Curve) (v : Nat),
    ((n = 1 ∧ c = image.curve1) ∨ (n = 2 ∧ c = image.curve2) ∨ (n = 3 ∧ c = image.curve3)) → c.low < c.high →
    (v ≤ c.low → computedStep image n v = 0) ∧
    (c.high ≤ v → computedStep image n v = c.top) ∧
    (c.low < v → v < c.high → computedStep image n v = c.top * (v - c.low) / (c.high - c.low)) ∧
    fallingStep image n v = computedStep image n (v + c.hysteresis) ∧
    (∀ w, v ≤ w → computedStep image n v ≤ computedStep image n w) ∧
    (∀ step, step ≤ c.top → c.low ≤ v →
      (step ≤ computedStep image n v ↔ step * (c.high - c.low) ≤ c.top * (v - c.low)))

/-- R116: a placement joins the set or keeps the stronger kind; a claim that joins, or whose kind is raised, is engaged; and a
placement of the same or a weaker kind changes nothing. -/
def Obligations.PlacementKeepsTheStrongerKind : Prop :=
  ∀ (hold : Nat) (c : Claim) (k : SilencingKind) (r : RampRecord),
    (r.claims.get c = none →
      (r.place hold c k).record = ({ r with claims := r.claims.set c (some k) }).engage hold k ∧
      (r.place hold c k).record.claims = r.claims.set c (some k)) ∧
    (∀ held, r.claims.get c = some held →
      (held = .hard ∨ held = k ∨ k = .duckHold → (r.place hold c k).record = r) ∧
      (¬(held = .hard ∨ held = k ∨ k = .duckHold) →
        (r.place hold c k).record = ({ r with claims := r.claims.set c (some k) }).engage hold k ∧
        (r.place hold c k).record.claims = r.claims.set c (some k))) ∧
    (∀ d, d ≠ c → (r.place hold c k).record.claims.get d = r.claims.get d)

/-- R117, R118, R119, R124: how an engaged claim moves the phase, by the kind engaged and the phase the channel is in. At -60.0 dB
SOFT silences at once and DUCK_HOLD holds, and two engagements end the same in either order. That a channel at or below its duck
level is HOLDING under a hold time of 0 ms too, until that timer's expiry, is the model's choice (log entry 23). So is that an OPEN
channel enters FADING or DIPPING with the full 0.5 ms on its step timer where it already ramps at PROTECT (log entry 48). -/
def Obligations.EngagementFollowsTheTable : Prop :=
  ∀ (hold : Nat) (k : SilencingKind) (r : RampRecord),
    (r.engage hold k).target = r.target ∧ (r.engage hold k).claims = r.claims ∧
    (r.phase = .silent → r.engage hold k = r) ∧
    (r.phase ≠ .silent → k = .hard →
      (r.engage hold k).phase = .silent ∧ (r.engage hold k).currentGain = .silent ∧
      (r.engage hold k).stepTimer = none ∧ (r.engage hold k).holdTimer = none ∧ (r.engage hold k).duckLevel = none) ∧
    (r.phase = .open → r.currentGain = .silent →
      (r.engage hold k).phase = .silent ∧ (r.engage hold k).currentGain = .silent) ∧
    (∀ g, r.phase = .open → r.currentGain = .level g →
      (k = .soft → -120 < g →
        (r.engage hold k).phase = .fading ∧ (r.engage hold k).currentGain = .level g ∧
        (r.engage hold k).stepTimer = some 2) ∧
      (k = .soft → g ≤ -120 → (r.engage hold k).phase = .silent ∧ (r.engage hold k).currentGain = .silent) ∧
      (k = .duckHold → g = -120 →
        (r.engage hold k).phase = .holding ∧ (r.engage hold k).currentGain = .level (-120) ∧
        (r.engage hold k).holdTimer = some (4 * hold)) ∧
      (k = .duckHold →
        (duckLevelFor r.target < g →
          (r.engage hold k).phase = .dipping ∧ (r.engage hold k).currentGain = .level g ∧
          (r.engage hold k).duckLevel = some (duckLevelFor r.target) ∧ (r.engage hold k).stepTimer = some 2) ∧
        (g ≤ duckLevelFor r.target →
          (r.engage hold k).phase = .holding ∧ (r.engage hold k).currentGain = .level g ∧
          (r.engage hold k).duckLevel = some (duckLevelFor r.target) ∧
          (r.engage hold k).holdTimer = some (4 * hold)))) ∧
    (r.phase = .fading → k ≠ .hard → r.engage hold k = r) ∧
    (r.phase = .dipping ∨ r.phase = .holding →
      (k = .duckHold → r.engage hold k = r) ∧
      (∀ g, k = .soft → r.currentGain = .level g → -120 < g →
        (r.engage hold k).phase = .fading ∧ (r.engage hold k).currentGain = .level g ∧
        (r.engage hold k).duckLevel = none ∧ (r.engage hold k).holdTimer = none) ∧
      (∀ g, k = .soft → r.currentGain = .level g → g ≤ -120 →
        (r.engage hold k).phase = .silent ∧ (r.engage hold k).currentGain = .silent)) ∧
    (∀ l, (r.engage hold k).engage hold l = (r.engage hold l).engage hold k)

/-- R19, R92 to R97, R101 to R105: the terms of a target, each as its rule gives it, and their sum, held to the ceiling and silent
below -60.0 dB. So a target is silent under the cabin mute and at volume 0, is never above the ceiling, and is never below -60.0 dB. The
first scene, adopted in PROVISIONAL, leaves every roster channel with the target its terms then give, handed at SCENE under the claim
that still holds the channel; in RAIL_DOWN, while the rail is not released. -/
def Obligations.TargetsAreBoundedAndHandedWithTheFirstScene : Prop :=
  (∀ (s : State) (d : RosterEntry),
    (∀ g, targetNow s d = .level g → -120 ≤ g ∧ g ≤ d.ceiling) ∧
    (s.scene.applied.content.cabinMute = 1 ∨ s.scene.applied.content.volume = 0 → targetNow s d = .silent)) ∧
  (∀ (s : State) (d : RosterEntry) (c : Content) (terms : Components), c = s.scene.applied.content →
    terms = componentsFor s.loader.image s.planner c d →
    terms.master = (if c.cabinMute = 1 ∨ c.volume = 0 then .silent else .level (2 * c.volume - 126)) ∧
    (d.position ∈ [.frontLeft, .frontCentre, .frontRight] →
      terms.row = if c.fade = -15 then .silent else .level (if c.fade < 0 then 4 * c.fade else 0)) ∧
    (d.position ∈ [.middleLeft, .middleCentre, .middleRight] → terms.row = .level (-2 * c.fade.natAbs)) ∧
    (d.position ∈ [.rearLeft, .rearCentre, .rearRight] →
      terms.row = if c.fade = 15 then .silent else .level (if 0 < c.fade then -4 * c.fade else 0)) ∧
    (d.position ∈ [.frontLeft, .middleLeft, .rearLeft] →
      terms.side = if c.balance = 15 then .silent else .level (if 0 < c.balance then -4 * c.balance else 0)) ∧
    (d.position ∈ [.frontCentre, .middleCentre, .rearCentre] → terms.side = .level (-2 * c.balance.natAbs)) ∧
    (d.position ∈ [.frontRight, .middleRight, .rearRight] →
      terms.side = if c.balance = -15 then .silent else .level (if c.balance < 0 then 4 * c.balance else 0)) ∧
    (d.position = .cabin → terms.row = .level 0 ∧ terms.side = .level 0) ∧
    terms.trim = .level d.trim ∧ terms.lift = .level (if d.speedLift then c.speedStep else 0) ∧
    (d.role ≠ .low → (∃ p ∈ s.planner.gapSet, p = d.position ∨ p ∈ beside d.position) →
      terms.boost = .level s.loader.image.gapBoost) ∧
    (d.role = .low ∨ (∀ p ∈ s.planner.gapSet, p ≠ d.position ∧ p ∉ beside d.position) → terms.boost = .level 0) ∧
    terms.cut = .level (-(s.planner.cut : Int)) ∧ terms.duck = .level (if s.planner.duck = .on then -24 else 0) ∧
    (terms.master = .silent ∨ terms.row = .silent ∨ terms.side = .silent →
      terms.sum = .silent ∧ targetNow s d = .silent) ∧
    (∀ master row side trim lift boost cut duck : Int,
      terms = { master := .level master, row := .level row, side := .level side, trim := .level trim, lift := .level lift,
                boost := .level boost, cut := .level cut, duck := .level duck, sum := terms.sum } →
      terms.sum = .level (master + row + side + trim + lift + boost + cut + duck) ∧
      ∀ total, total = master + row + side + trim + lift + boost + cut + duck →
        (d.ceiling < total → -120 ≤ d.ceiling → targetNow s d = .level d.ceiling) ∧
        (total ≤ d.ceiling → -120 ≤ total → targetNow s d = .level total) ∧
        (total < -120 → targetNow s d = .silent))) ∧
  ∀ (rx : Reception) (sc : Scene) (s : State), routed rx s → listening s → s.controller.station ≠ .resting →
    s.link.isolated = false → scenePasses sc = true → s.scene.unit = .provisional →
    (∀ n, (s.ramps.get n).claims.provisional.isSome = true) →
    allDistinct (s.loader.image.roster.map RosterEntry.channel) = true →
    ∃ t, exec (.sceneReceived rx sc) s = .next t ∧ (railKept s t → targetsCurrent t ∧ newTargetsHandedAt .scene s t)

/-- R163, R167, R168: of two frames with different keys the one with the lower key prevails on the line, whatever follows the
keys; and with all 8 places held, a frame displaces the youngest waiting frame of higher key, or is itself not admitted when
there is none, counted once either way. -/
def Obligations.LowerKeyPrevailsOnLineAndInFullQueue : Prop :=
  (∀ (a b : Byte) (as bs : List Byte), a.toNat < b.toNat →
    prevails (lineBits (a :: as)) (lineBits (b :: bs)) = true ∧
    prevails (lineBits (b :: bs)) (lineBits (a :: as)) = false) ∧
  (∀ (l : Link) (b : FrameBody), 8 ≤ l.placesHeld → replaceIn b l.waiting = none → sceneInTransmission b l = none →
    (∀ f ∈ l.waiting, b.rank < f.body.rank →
      ∃ g ∈ l.waiting, b.rank < g.body.rank ∧ (l.give true b).2 = some g.body ∧
        (l.give true b).1.placesHeld = l.placesHeld ∧ (∃ f ∈ (l.give true b).1.waiting, f.body = b) ∧
        (∀ f ∈ l.waiting, b.rank < f.body.rank → f.stamp ≤ g.stamp) ∧
        (l.give true b).1.counters = { l.counters with queueDrops := countUp 65535 l.counters.queueDrops }) ∧
    ((∀ f ∈ l.waiting, ¬b.rank < f.body.rank) →
      (l.give true b).2 = some b ∧
      (l.give true b).1 =
        { l with counters := { l.counters with queueDrops := countUp 65535 l.counters.queueDrops } }))

/-- R132, R135, R137, R138, R139, R140, R142: a scene staged notice abandons the preparation when its settings are the active ones,
leaves one for its own settings, and otherwise starts afresh with the changed roster channels in order; a scene applied notice leaves
a matching bank, swaps a complete one at once, and otherwise counts a late swap, prepares for the applied settings and waits for a
mark; a mark swaps a waiting bank that is complete for the applied scene. -/
def Obligations.BanksArePreparedAndSwapped : Prop :=
  ∀ (image : Image) (t : Settings) (q : Equaliser),
    (q.bypass = true → q.sceneStaged image t = q ∧ q.sceneApplied image t = q ∧ q.mark t = q) ∧
    (q.bypass = false → q.activeSettings = some t →
      q.sceneStaged image t =
        { q with shadow := .all none, state := .idle, list := [], position := none, prepared := none, timer := none }) ∧
    (q.bypass = false → q.activeSettings ≠ some t → q.prepared = some t → q.state ≠ .idle → q.sceneStaged image t = q) ∧
    (q.bypass = false → q.activeSettings ≠ some t → q.prepared ≠ some t ∨ q.state = .idle →
      q.sceneStaged image t = q.prepare image t) ∧
    ((q.prepare image t).prepared = some t ∧ (∀ n, (q.prepare image t).shadow.get n = none) ∧
      (q.prepare image t).active = q.active ∧ (q.prepare image t).activeSettings = q.activeSettings ∧
      (q.prepare image t).swapDue = q.swapDue ∧ (q.prepare image t).lateSwaps = q.lateSwaps ∧
      (∀ n, n ∈ (q.prepare image t).list ↔ ∃ d, descriptorOf image n = some d ∧ sectionsFor image t d.role ≠ q.active.get n) ∧
      (q.prepare image t).list.Pairwise (· < ·) ∧
      ((q.prepare image t).list = [] → (q.prepare image t).state = .complete ∧ (q.prepare image t).timer = none) ∧
      (∀ n rest, (q.prepare image t).list = n :: rest →
        (q.prepare image t).state = .preparing ∧ (q.prepare image t).position = some n ∧
        (q.prepare image t).timer = some 8)) ∧
    (q.bypass = false → q.activeSettings ≠ some t → q.prepared = some t → q.state = .preparing →
      q.sceneApplied image t = { q with lateSwaps := countUp 65535 q.lateSwaps, swapDue := true }) ∧
    (q.bypass = false → q.activeSettings ≠ some t → q.prepared ≠ some t ∨ q.state = .idle →
      (q.sceneApplied image t).list = (q.prepare image t).list ∧ (q.sceneApplied image t).state = (q.prepare image t).state ∧
      (q.sceneApplied image t).prepared = some t) ∧
    (q.bypass = false → q.activeSettings = some t →
      (q.sceneApplied image t).active = q.active ∧ (q.sceneApplied image t).state = .idle ∧
      (q.sceneApplied image t).swapDue = false ∧ (q.sceneApplied image t).lateSwaps = q.lateSwaps) ∧
    (q.bypass = false → q.activeSettings ≠ some t → q.state = .complete → q.prepared = some t →
      (∀ n, (q.sceneApplied image t).active.get n =
        if n ∈ q.list then (q.shadow.get n).getD (q.active.get n) else q.active.get n) ∧
      (q.sceneApplied image t).activeSettings = some t ∧ (q.sceneApplied image t).state = .idle ∧
      (q.sceneApplied image t).swapDue = false ∧ (q.sceneApplied image t).lateSwaps = q.lateSwaps) ∧
    (q.bypass = false → q.activeSettings ≠ some t → q.state ≠ .complete ∨ q.prepared ≠ some t →
      (q.sceneApplied image t).active = q.active ∧ (q.sceneApplied image t).activeSettings = q.activeSettings ∧
      (q.sceneApplied image t).lateSwaps = countUp 65535 q.lateSwaps ∧ (q.sceneApplied image t).swapDue = true) ∧
    (q.bypass = false → q.swapDue = true → q.state = .complete → q.prepared = some t →
      (∀ n, (q.mark t).active.get n =
        if n ∈ q.list then (q.shadow.get n).getD (q.active.get n) else q.active.get n) ∧
      (q.mark t).activeSettings = some t ∧ (q.mark t).swapDue = false ∧ (q.mark t).lateSwaps = q.lateSwaps) ∧
    (q.swapDue = false ∨ q.state ≠ .complete ∨ q.prepared ≠ some t → q.mark t = q)

/-! ### Layouts -/

/-- R164, R177: an OFFER, a SCENE and a PRESENCE that their layouts can carry are read back whole from the bytes sent, key, check
and all; a frame of any other kind is read as that kind from its sender; and a key of class rank 11 to 15 makes a frame malformed. -/
def Obligations.LayoutsReadBack : Prop :=
  ∀ n : Station,
    (∀ o : Offer, o.wf = true → readFrame (offerBytes n o) = .offer n o) ∧
    (∀ sc : Scene, sc.wf = true → readFrame (sceneBytes n sc) = .scene n sc) ∧
    (∀ f : PresenceFrame, f.wf = true → readFrame (presenceBytes n f) = .presence n f) ∧
    (∀ kind payload, kind ≠ .offer → kind ≠ .scene → kind ≠ .presence →
      readFrame (withCheck (keyByte kind n :: payload)) = .named kind n payload) ∧
    (∀ (rank : Nat) (payload : List Byte), 11 ≤ rank → rank ≤ 15 →
      readFrame (withCheck (BitVec.ofNat 8 (rank * 16 + n.val) :: payload)) = .malformed n)

/-! ### Invariants -/

/-- R110, R117, R123, R178, R183: no step lets a channel be OPEN while it holds a claim, the RAIL claim is held on every channel
outside READY, and in RAIL_DOWN the rail is driven only while a roster channel sounds. -/
def Obligations.ChannelsHeldOutsideReady : Prop :=
  ∀ s t : State, rampsCoherent s → railHeld s → step s = .next t →
    rampsCoherent t ∧ railHeld t ∧ (railDownSounds s → railDownSounds t)

/-- R149: the FAULT claim is held on exactly the channels with a reason. -/
def Obligations.FaultClaimHasItsReason : Prop :=
  ∀ s t : State, faultHeld s → step s = .next t → faultHeld t

/-- R4, R16, R18, R26, R27, R36: the Scene Agreement Unit's state and records stay in agreement with each other. -/
def Obligations.SceneUnitStaysCoherent : Prop :=
  ∀ s t : State, sceneCoherent s → step s = .next t → sceneCoherent t

/-- R1, R140, R148, R154: every scene held stays within the ranges of its fields, the monitor's counts and timers stay within theirs,
and a station in BYPASS prepares nothing. -/
def Obligations.ScenesAndCountsStayInRange : Prop :=
  ∀ s t : State, step s = .next t →
    (scenesInRange s → scenesInRange t) ∧ (protectionFits s → protectionFits t) ∧ (bypassIdle s → bypassIdle t)

/-- R103, R111: no step but START_COMPLETE lets a roster channel's handed target, the target in its record or its current gain exceed
its ceiling. START_COMPLETE may bring a roster of other ceilings while R91 and R110 keep targets and gains (log entry 34). -/
def Obligations.GainsStayUnderTheirCeilings : Prop :=
  ∀ s t : State, (∀ straps read selfTest rest, s.pending ≠ .startComplete straps read selfTest :: rest) →
    underCeilings s → step s = .next t → underCeilings t

/-- R54, R55, R167, R168: the queue never holds more than 8 frames, nor more than 4 ANSWERs, nor two SCENEs of one generation; no two
MARKs and no two PRESENCEs wait; and a waiting own PRESENCE always carries the values of the moment. That a MARK or a PRESENCE which
drops out beside a waiting one leaves its place to it is the model's choice (log entry 45). -/
def Obligations.QueueKeepsItsLimitsAndPresenceFresh : Prop :=
  ∀ s t : State, step s = .next t →
    (queueFits s → queueFits t) ∧ (queueSingle s → queueSingle t) ∧ (presenceFresh s → presenceFresh t)

/-- Every invariant above holds right after reset. -/
def Obligations.ResetMeetsTheInvariants : Prop :=
  rampsCoherent .reset ∧ railHeld .reset ∧ faultHeld .reset ∧ sceneCoherent .reset ∧ scenesInRange .reset ∧
    railDownSounds .reset ∧ queueFits .reset ∧ queueSingle .reset ∧ protectionFits .reset ∧ bypassIdle .reset ∧
    underCeilings .reset ∧ presenceFresh .reset

/-! ### Frames: which commands may write which state -/

/-- The commands that may write the scene records, the Equaliser Bank, the speed source, the loader and the counters of the line,
and no others; and commands that leave the channels' gains, while the rail is not released in RAIL_DOWN, or every block but the
link and their own, in an awake station that is not isolated. -/
def Obligations.WhoWritesSceneRampsBanksSpeedLoaderAndCounters : Prop :=
  ∀ (c : Instr) (s t : State), exec c s = .next t → isStart c = false →
    ((∀ rx n o, c ≠ .markReceived rx n o) → (∀ rx o, c ≠ .offerReceived rx o) → (∀ rx sc, c ≠ .sceneReceived rx sc) →
      (∀ rx f, c ≠ .presenceReceived rx f) → (∀ a o, c ≠ .ownMarkComplete a o) → (∀ a, c ≠ .ownOfferComplete a) →
      c ≠ .joinWindowExpiry → c ≠ .fetchTimerExpiry → t.scene = s.scene) ∧
    ((∀ rx n o, c ≠ .markReceived rx n o) → (∀ rx sc, c ≠ .sceneReceived rx sc) → (∀ a o, c ≠ .ownMarkComplete a o) →
      (∀ rx k, c ≠ .clearCounts rx k) → c ≠ .joinWindowExpiry → c ≠ .preparationTimerExpiry →
      t.equaliser = s.equaliser) ∧
    ((∀ rx v b, c ≠ .speedReceived rx v b) → c ≠ .speedStale → c ≠ .fallTimerExpiry →
      t.speed.source = s.speed.source ∧ t.speed.state = s.speed.state ∧ t.speed.desired = s.speed.desired ∧
        t.speed.fallTimer = s.speed.fallTimer) ∧
    (c ≠ .wakeLineRise → t.loader = s.loader) ∧ t.draws = s.draws ∧
    ((∀ rx k, c ≠ .clearCounts rx k) →
      (isOwnCompletion c = false →
        t.link.counters.framesSent = s.link.counters.framesSent ∧
        t.link.counters.notAcknowledged = s.link.counters.notAcknowledged) ∧
      (c ≠ .arbitrationLost → t.link.counters.arbitrationLost = s.link.counters.arbitrationLost) ∧
      (c ≠ .checkError → t.link.counters.checkErrors = s.link.counters.checkErrors) ∧
      (c ≠ .lineTimeOut → t.link.counters.lineTimeOuts = s.link.counters.lineTimeOuts)) ∧
    (railKept s t → leavesRamps c = true → t.ramps = s.ramps) ∧
    (∀ n, quietSender c = some n → n ≠ s.loader.own → railKept s t →
      s.controller.station ≠ .resting → s.link.isolated = false →
      t.ramps = s.ramps ∧ t.planner = s.planner ∧ t.controller = s.controller ∧ t.peers = s.peers ∧
      t.protection.active = s.protection.active ∧ t.protection.conditions = s.protection.conditions)

/-- The commands that may write the cycle number, the pins, the Peer Table, the scan, the clip contribution, the sticky
flags and the station state, and no others; and a command on one channel leaves every other channel, while the rail is not released in
RAIL_DOWN. -/
def Obligations.WhoWritesNumberPinsPeersMonitorAndStation : Prop :=
  ∀ (c : Instr) (s t : State), exec c s = .next t → isStart c = false →
    ((∀ rx n o, c ≠ .markReceived rx n o) → (∀ a o, c ≠ .ownMarkComplete a o) → t.cycle.number = s.cycle.number) ∧
    ((∀ rx a, c ≠ .restReceived rx a) → (∀ rx p a, c ≠ .probeStation rx p a) → c ≠ .railGoodArrival →
      c ≠ .railGoodLoss → c ≠ .wakeLineRise → t.pins = s.pins) ∧
    (isReception c = false → (∀ n, c ≠ .peerSilent n) → (∀ n, c ≠ .peerLost n) → c ≠ .downTimerExpiry →
      t.peers = s.peers) ∧
    ((∀ v, c ≠ .senseSlot v) → t.protection.readings = s.protection.readings ∧
      (c ≠ .wakeLineRise → t.protection.scan = s.protection.scan)) ∧
    ((∀ n, c ≠ .clipFlag n) → c ≠ .riseGuardExpiry → c ≠ .clipFallTimerExpiry →
      t.protection.clip = s.protection.clip ∧ t.protection.riseGuard = s.protection.riseGuard ∧
        t.protection.clipFall = s.protection.clipFall) ∧
    (isReception c = false → (∀ v, c ≠ .senseSlot v) → c ≠ .railGoodLoss → c ≠ .railGoodTimerExpiry →
      t.protection.sticky = s.protection.sticky) ∧
    (isReception c = false → (∀ v, c ≠ .senseSlot v) → c ≠ .railGoodArrival → c ≠ .railGoodLoss →
      c ≠ .railGoodTimerExpiry → c ≠ .railRetryTimerExpiry → c ≠ .stabiliseTimerExpiry → c ≠ .downTimerExpiry →
      c ≠ .wakeLineRise → t.controller.station = s.controller.station ∧ t.controller.stop = s.controller.stop) ∧
    (∀ n m, railKept s t → m ≠ n →
      (c = .stepTimerExpiry n ∨ c = .duckHoldExpiry n ∨ c = .overcurrentFlag n ∨ c = .retryTimerExpiry n ∨
        c = .budgetTimerExpiry n) →
      t.ramps.get m = s.ramps.get m ∧ t.protection.records.get m = s.protection.records.get m)
end

