-- ==== Sys2Proof/Laws/Frames.lean ====
section
/-! SUPPORT. What the shared operations of Machine/Ops.lean leave as it was: one lemma for each field an operation does not
touch, so that no proof unfolds an operation to see past it. -/

namespace Sys2Proof.Machine

/-- A fold keeps what each of its steps keeps. -/
theorem foldl_invariant {σ α : Type} {P : σ → Prop} {f : σ → α → σ} {s : σ} (hs : P s) (h : ∀ t a, P t → P (f t a))
    (l : List α) : P (l.foldl f s) := by
  induction l generalizing s with
  | nil => exact hs
  | cons a l ih => exact ih (h s a hs)

@[simp] theorem channelSilenced_keeps (n : Channel) (s : State) :
    (channelSilenced n s).pending = s.pending ∧ (channelSilenced n s).pins = s.pins ∧
    (channelSilenced n s).loader = s.loader ∧ (channelSilenced n s).link = s.link ∧
    (channelSilenced n s).cycle = s.cycle ∧ (channelSilenced n s).peers = s.peers ∧
    (channelSilenced n s).scene = s.scene ∧ (channelSilenced n s).speed = s.speed ∧
    (channelSilenced n s).planner = s.planner ∧ (channelSilenced n s).ramps = s.ramps ∧
    (channelSilenced n s).equaliser = s.equaliser ∧ (channelSilenced n s).protection.scan = s.protection.scan ∧
    (channelSilenced n s).protection.readings = s.protection.readings ∧
    (channelSilenced n s).protection.conditions = s.protection.conditions ∧
    (channelSilenced n s).protection.clip = s.protection.clip ∧
    (channelSilenced n s).protection.riseGuard = s.protection.riseGuard ∧
    (channelSilenced n s).protection.clipFall = s.protection.clipFall ∧
    (channelSilenced n s).protection.active = s.protection.active ∧
    (channelSilenced n s).protection.sticky = s.protection.sticky ∧
    (channelSilenced n s).controller = s.controller ∧ (channelSilenced n s).draws = s.draws := by
  simp [channelSilenced, State.setRecord]

@[simp] theorem applyRamp_keeps (n : Channel) (r : RampResult) (s : State) :
    (applyRamp n r s).pending = s.pending ∧ (applyRamp n r s).pins = s.pins ∧ (applyRamp n r s).loader = s.loader ∧
    (applyRamp n r s).link = s.link ∧ (applyRamp n r s).cycle = s.cycle ∧ (applyRamp n r s).peers = s.peers ∧
    (applyRamp n r s).scene = s.scene ∧ (applyRamp n r s).speed = s.speed ∧ (applyRamp n r s).planner = s.planner ∧
    (applyRamp n r s).equaliser = s.equaliser ∧ (applyRamp n r s).protection.scan = s.protection.scan ∧
    (applyRamp n r s).protection.readings = s.protection.readings ∧
    (applyRamp n r s).protection.conditions = s.protection.conditions ∧
    (applyRamp n r s).protection.clip = s.protection.clip ∧
    (applyRamp n r s).protection.riseGuard = s.protection.riseGuard ∧
    (applyRamp n r s).protection.clipFall = s.protection.clipFall ∧
    (applyRamp n r s).protection.active = s.protection.active ∧
    (applyRamp n r s).protection.sticky = s.protection.sticky ∧ (applyRamp n r s).controller = s.controller ∧
    (applyRamp n r s).draws = s.draws := by
  unfold applyRamp; dsimp only; split <;> simp

@[simp] theorem placeClaim_keeps (c : Claim) (k : SilencingKind) (n : Channel) (s : State) :
    (placeClaim c k n s).pending = s.pending ∧ (placeClaim c k n s).pins = s.pins ∧
    (placeClaim c k n s).loader = s.loader ∧ (placeClaim c k n s).link = s.link ∧
    (placeClaim c k n s).cycle = s.cycle ∧ (placeClaim c k n s).peers = s.peers ∧
    (placeClaim c k n s).scene = s.scene ∧ (placeClaim c k n s).speed = s.speed ∧
    (placeClaim c k n s).planner = s.planner ∧ (placeClaim c k n s).equaliser = s.equaliser ∧
    (placeClaim c k n s).protection.scan = s.protection.scan ∧
    (placeClaim c k n s).protection.readings = s.protection.readings ∧
    (placeClaim c k n s).protection.conditions = s.protection.conditions ∧
    (placeClaim c k n s).protection.clip = s.protection.clip ∧
    (placeClaim c k n s).protection.riseGuard = s.protection.riseGuard ∧
    (placeClaim c k n s).protection.clipFall = s.protection.clipFall ∧
    (placeClaim c k n s).protection.active = s.protection.active ∧
    (placeClaim c k n s).protection.sticky = s.protection.sticky ∧ (placeClaim c k n s).controller = s.controller ∧
    (placeClaim c k n s).draws = s.draws := by
  simp [placeClaim]

@[simp] theorem placeAll_keeps (c : Claim) (k : SilencingKind) (s : State) :
    (placeAll c k s).pending = s.pending ∧ (placeAll c k s).pins = s.pins ∧ (placeAll c k s).loader = s.loader ∧
    (placeAll c k s).link = s.link ∧ (placeAll c k s).cycle = s.cycle ∧ (placeAll c k s).peers = s.peers ∧
    (placeAll c k s).scene = s.scene ∧ (placeAll c k s).speed = s.speed ∧ (placeAll c k s).planner = s.planner ∧
    (placeAll c k s).equaliser = s.equaliser ∧ (placeAll c k s).protection.scan = s.protection.scan ∧
    (placeAll c k s).protection.readings = s.protection.readings ∧
    (placeAll c k s).protection.conditions = s.protection.conditions ∧
    (placeAll c k s).protection.clip = s.protection.clip ∧
    (placeAll c k s).protection.riseGuard = s.protection.riseGuard ∧
    (placeAll c k s).protection.clipFall = s.protection.clipFall ∧
    (placeAll c k s).protection.active = s.protection.active ∧
    (placeAll c k s).protection.sticky = s.protection.sticky ∧ (placeAll c k s).controller = s.controller ∧
    (placeAll c k s).draws = s.draws :=
  foldl_invariant (P := fun t : State =>
      t.pending = s.pending ∧ t.pins = s.pins ∧ t.loader = s.loader ∧ t.link = s.link ∧ t.cycle = s.cycle ∧
      t.peers = s.peers ∧ t.scene = s.scene ∧ t.speed = s.speed ∧ t.planner = s.planner ∧
      t.equaliser = s.equaliser ∧ t.protection.scan = s.protection.scan ∧
      t.protection.readings = s.protection.readings ∧ t.protection.conditions = s.protection.conditions ∧
      t.protection.clip = s.protection.clip ∧ t.protection.riseGuard = s.protection.riseGuard ∧
      t.protection.clipFall = s.protection.clipFall ∧ t.protection.active = s.protection.active ∧
      t.protection.sticky = s.protection.sticky ∧ t.controller = s.controller ∧ t.draws = s.draws)
    (by simp) (fun t n h => by simpa using h) allChannels

@[simp] theorem removeClaim_keeps (c : Claim) (n : Channel) (s : State) :
    (removeClaim c n s).pending = s.pending ∧ (removeClaim c n s).pins = s.pins ∧
    (removeClaim c n s).loader = s.loader ∧ (removeClaim c n s).link = s.link ∧
    (removeClaim c n s).cycle = s.cycle ∧ (removeClaim c n s).peers = s.peers ∧
    (removeClaim c n s).scene = s.scene ∧ (removeClaim c n s).speed = s.speed ∧
    (removeClaim c n s).planner = s.planner ∧ (removeClaim c n s).equaliser = s.equaliser ∧
    (removeClaim c n s).protection = s.protection ∧ (removeClaim c n s).controller = s.controller ∧
    (removeClaim c n s).draws = s.draws := by
  simp [removeClaim]

@[simp] theorem removeAll_keeps (c : Claim) (s : State) :
    (removeAll c s).pending = s.pending ∧ (removeAll c s).pins = s.pins ∧ (removeAll c s).loader = s.loader ∧
    (removeAll c s).link = s.link ∧ (removeAll c s).cycle = s.cycle ∧ (removeAll c s).peers = s.peers ∧
    (removeAll c s).scene = s.scene ∧ (removeAll c s).speed = s.speed ∧ (removeAll c s).planner = s.planner ∧
    (removeAll c s).equaliser = s.equaliser ∧ (removeAll c s).protection = s.protection ∧
    (removeAll c s).controller = s.controller ∧ (removeAll c s).draws = s.draws :=
  foldl_invariant (P := fun t : State =>
      t.pending = s.pending ∧ t.pins = s.pins ∧ t.loader = s.loader ∧ t.link = s.link ∧ t.cycle = s.cycle ∧
      t.peers = s.peers ∧ t.scene = s.scene ∧ t.speed = s.speed ∧ t.planner = s.planner ∧
      t.equaliser = s.equaliser ∧ t.protection = s.protection ∧ t.controller = s.controller ∧ t.draws = s.draws)
    (by simp) (fun t n h => by simpa using h) allChannels

@[simp] theorem releaseFaultClaim_keeps (n : Channel) (s : State) :
    (releaseFaultClaim n s).pending = s.pending ∧ (releaseFaultClaim n s).pins = s.pins ∧
    (releaseFaultClaim n s).loader = s.loader ∧ (releaseFaultClaim n s).link = s.link ∧
    (releaseFaultClaim n s).cycle = s.cycle ∧ (releaseFaultClaim n s).peers = s.peers ∧
    (releaseFaultClaim n s).scene = s.scene ∧ (releaseFaultClaim n s).speed = s.speed ∧
    (releaseFaultClaim n s).planner = s.planner ∧ (releaseFaultClaim n s).equaliser = s.equaliser ∧
    (releaseFaultClaim n s).protection = s.protection ∧ (releaseFaultClaim n s).controller = s.controller ∧
    (releaseFaultClaim n s).draws = s.draws := by
  unfold releaseFaultClaim; split <;> simp

@[simp] theorem handTarget_keeps (cause : RateClass) (s : State) (d : RosterEntry) :
    (handTarget cause s d).pending = s.pending ∧ (handTarget cause s d).pins = s.pins ∧
    (handTarget cause s d).loader = s.loader ∧ (handTarget cause s d).link = s.link ∧
    (handTarget cause s d).cycle = s.cycle ∧ (handTarget cause s d).peers = s.peers ∧
    (handTarget cause s d).scene = s.scene ∧ (handTarget cause s d).speed = s.speed ∧
    (handTarget cause s d).planner.gapSet = s.planner.gapSet ∧
    (handTarget cause s d).planner.gapReview = s.planner.gapReview ∧
    (handTarget cause s d).planner.cut = s.planner.cut ∧
    (handTarget cause s d).planner.settleTimer = s.planner.settleTimer ∧
    (handTarget cause s d).planner.fallReady = s.planner.fallReady ∧
    (handTarget cause s d).planner.duck = s.planner.duck ∧
    (handTarget cause s d).planner.duckTimer = s.planner.duckTimer ∧
    (handTarget cause s d).equaliser = s.equaliser ∧ (handTarget cause s d).protection.scan = s.protection.scan ∧
    (handTarget cause s d).protection.readings = s.protection.readings ∧
    (handTarget cause s d).protection.conditions = s.protection.conditions ∧
    (handTarget cause s d).protection.clip = s.protection.clip ∧
    (handTarget cause s d).protection.riseGuard = s.protection.riseGuard ∧
    (handTarget cause s d).protection.clipFall = s.protection.clipFall ∧
    (handTarget cause s d).protection.active = s.protection.active ∧
    (handTarget cause s d).protection.sticky = s.protection.sticky ∧
    (handTarget cause s d).controller = s.controller ∧ (handTarget cause s d).draws = s.draws := by
  unfold handTarget; dsimp only; split <;> simp [State.setPlanned]

@[simp] theorem handTargets_keeps (cause : RateClass) (s : State) :
    (handTargets cause s).pending = s.pending ∧ (handTargets cause s).pins = s.pins ∧
    (handTargets cause s).loader = s.loader ∧ (handTargets cause s).link = s.link ∧
    (handTargets cause s).cycle = s.cycle ∧ (handTargets cause s).peers = s.peers ∧
    (handTargets cause s).scene = s.scene ∧ (handTargets cause s).speed = s.speed ∧
    (handTargets cause s).planner.gapSet = s.planner.gapSet ∧
    (handTargets cause s).planner.gapReview = s.planner.gapReview ∧
    (handTargets cause s).planner.cut = s.planner.cut ∧
    (handTargets cause s).planner.settleTimer = s.planner.settleTimer ∧
    (handTargets cause s).planner.fallReady = s.planner.fallReady ∧
    (handTargets cause s).planner.duck = s.planner.duck ∧
    (handTargets cause s).planner.duckTimer = s.planner.duckTimer ∧ (handTargets cause s).equaliser = s.equaliser ∧
    (handTargets cause s).protection.scan = s.protection.scan ∧
    (handTargets cause s).protection.readings = s.protection.readings ∧
    (handTargets cause s).protection.conditions = s.protection.conditions ∧
    (handTargets cause s).protection.clip = s.protection.clip ∧
    (handTargets cause s).protection.riseGuard = s.protection.riseGuard ∧
    (handTargets cause s).protection.clipFall = s.protection.clipFall ∧
    (handTargets cause s).protection.active = s.protection.active ∧
    (handTargets cause s).protection.sticky = s.protection.sticky ∧
    (handTargets cause s).controller = s.controller ∧ (handTargets cause s).draws = s.draws := by
  unfold handTargets; split
  · simp
  · exact foldl_invariant (P := fun t : State =>
      t.pending = s.pending ∧ t.pins = s.pins ∧ t.loader = s.loader ∧ t.link = s.link ∧ t.cycle = s.cycle ∧
      t.peers = s.peers ∧ t.scene = s.scene ∧ t.speed = s.speed ∧ t.planner.gapSet = s.planner.gapSet ∧
      t.planner.gapReview = s.planner.gapReview ∧ t.planner.cut = s.planner.cut ∧
      t.planner.settleTimer = s.planner.settleTimer ∧ t.planner.fallReady = s.planner.fallReady ∧
      t.planner.duck = s.planner.duck ∧ t.planner.duckTimer = s.planner.duckTimer ∧ t.equaliser = s.equaliser ∧
      t.protection.scan = s.protection.scan ∧ t.protection.readings = s.protection.readings ∧
      t.protection.conditions = s.protection.conditions ∧ t.protection.clip = s.protection.clip ∧
      t.protection.riseGuard = s.protection.riseGuard ∧ t.protection.clipFall = s.protection.clipFall ∧
      t.protection.active = s.protection.active ∧ t.protection.sticky = s.protection.sticky ∧
      t.controller = s.controller ∧ t.draws = s.draws)
      (by simp) (fun t d h => by simpa using h) s.loader.image.roster

@[simp] theorem reviewDemand_keeps (s : State) :
    (reviewDemand s).pending = s.pending ∧ (reviewDemand s).pins = s.pins ∧ (reviewDemand s).loader = s.loader ∧
    (reviewDemand s).link = s.link ∧ (reviewDemand s).cycle = s.cycle ∧ (reviewDemand s).peers = s.peers ∧
    (reviewDemand s).scene = s.scene ∧ (reviewDemand s).speed = s.speed ∧
    (reviewDemand s).planner.gapSet = s.planner.gapSet ∧ (reviewDemand s).planner.gapReview = s.planner.gapReview ∧
    (reviewDemand s).planner.duck = s.planner.duck ∧ (reviewDemand s).planner.duckTimer = s.planner.duckTimer ∧
    (reviewDemand s).equaliser = s.equaliser ∧ (reviewDemand s).protection.scan = s.protection.scan ∧
    (reviewDemand s).protection.readings = s.protection.readings ∧
    (reviewDemand s).protection.conditions = s.protection.conditions ∧
    (reviewDemand s).protection.clip = s.protection.clip ∧
    (reviewDemand s).protection.riseGuard = s.protection.riseGuard ∧
    (reviewDemand s).protection.clipFall = s.protection.clipFall ∧
    (reviewDemand s).protection.active = s.protection.active ∧
    (reviewDemand s).protection.sticky = s.protection.sticky ∧ (reviewDemand s).controller = s.controller ∧
    (reviewDemand s).draws = s.draws := by
  unfold reviewDemand; dsimp only; repeat' split
  all_goals simp
@[simp] theorem withDemand_keeps (f : State → State) (s : State) :
    (withDemand f s).pending = (f s).pending ∧ (withDemand f s).pins = (f s).pins ∧
    (withDemand f s).loader = (f s).loader ∧ (withDemand f s).link = (f s).link ∧
    (withDemand f s).cycle = (f s).cycle ∧ (withDemand f s).peers = (f s).peers ∧
    (withDemand f s).scene = (f s).scene ∧ (withDemand f s).speed = (f s).speed ∧
    (withDemand f s).planner.gapSet = (f s).planner.gapSet ∧
    (withDemand f s).planner.gapReview = (f s).planner.gapReview ∧
    (withDemand f s).planner.duck = (f s).planner.duck ∧
    (withDemand f s).planner.duckTimer = (f s).planner.duckTimer ∧ (withDemand f s).equaliser = (f s).equaliser ∧
    (withDemand f s).protection.scan = (f s).protection.scan ∧
    (withDemand f s).protection.readings = (f s).protection.readings ∧
    (withDemand f s).protection.conditions = (f s).protection.conditions ∧
    (withDemand f s).protection.clip = (f s).protection.clip ∧
    (withDemand f s).protection.riseGuard = (f s).protection.riseGuard ∧
    (withDemand f s).protection.clipFall = (f s).protection.clipFall ∧
    (withDemand f s).protection.active = (f s).protection.active ∧
    (withDemand f s).protection.sticky = (f s).protection.sticky ∧ (withDemand f s).controller = (f s).controller ∧
    (withDemand f s).draws = (f s).draws := by
  unfold withDemand; dsimp only; split <;> simp

@[simp] theorem plannerMark_keeps (s : State) :
    (plannerMark s).pending = s.pending ∧ (plannerMark s).pins = s.pins ∧ (plannerMark s).loader = s.loader ∧
    (plannerMark s).link = s.link ∧ (plannerMark s).cycle = s.cycle ∧ (plannerMark s).peers = s.peers ∧
    (plannerMark s).scene = s.scene ∧ (plannerMark s).speed = s.speed ∧
    (plannerMark s).planner.settleTimer = s.planner.settleTimer ∧ (plannerMark s).planner.duck = s.planner.duck ∧
    (plannerMark s).planner.duckTimer = s.planner.duckTimer ∧ (plannerMark s).equaliser = s.equaliser ∧
    (plannerMark s).protection.scan = s.protection.scan ∧
    (plannerMark s).protection.readings = s.protection.readings ∧
    (plannerMark s).protection.conditions = s.protection.conditions ∧
    (plannerMark s).protection.clip = s.protection.clip ∧
    (plannerMark s).protection.riseGuard = s.protection.riseGuard ∧
    (plannerMark s).protection.clipFall = s.protection.clipFall ∧
    (plannerMark s).protection.active = s.protection.active ∧
    (plannerMark s).protection.sticky = s.protection.sticky ∧ (plannerMark s).controller = s.controller ∧
    (plannerMark s).draws = s.draws := by
  unfold plannerMark; dsimp only; repeat' split
  all_goals simp

@[simp] theorem duckFlagSet_keeps (s : State) :
    (duckFlagSet s).pending = s.pending ∧ (duckFlagSet s).pins = s.pins ∧ (duckFlagSet s).loader = s.loader ∧
    (duckFlagSet s).link = s.link ∧ (duckFlagSet s).cycle = s.cycle ∧ (duckFlagSet s).peers = s.peers ∧
    (duckFlagSet s).scene = s.scene ∧ (duckFlagSet s).speed = s.speed ∧
    (duckFlagSet s).planner.channels = s.planner.channels ∧ (duckFlagSet s).planner.gapSet = s.planner.gapSet ∧
    (duckFlagSet s).planner.gapReview = s.planner.gapReview ∧ (duckFlagSet s).planner.cut = s.planner.cut ∧
    (duckFlagSet s).planner.settleTimer = s.planner.settleTimer ∧
    (duckFlagSet s).planner.fallReady = s.planner.fallReady ∧ (duckFlagSet s).ramps = s.ramps ∧
    (duckFlagSet s).equaliser = s.equaliser ∧ (duckFlagSet s).protection = s.protection ∧
    (duckFlagSet s).controller = s.controller ∧ (duckFlagSet s).draws = s.draws := by
  unfold duckFlagSet; split <;> simp

@[simp] theorem duckFlagClear_keeps (s : State) :
    (duckFlagClear s).pending = s.pending ∧ (duckFlagClear s).pins = s.pins ∧ (duckFlagClear s).loader = s.loader ∧
    (duckFlagClear s).link = s.link ∧ (duckFlagClear s).cycle = s.cycle ∧ (duckFlagClear s).peers = s.peers ∧
    (duckFlagClear s).scene = s.scene ∧ (duckFlagClear s).speed = s.speed ∧
    (duckFlagClear s).planner.gapSet = s.planner.gapSet ∧
    (duckFlagClear s).planner.gapReview = s.planner.gapReview ∧ (duckFlagClear s).planner.cut = s.planner.cut ∧
    (duckFlagClear s).planner.settleTimer = s.planner.settleTimer ∧
    (duckFlagClear s).planner.fallReady = s.planner.fallReady ∧ (duckFlagClear s).equaliser = s.equaliser ∧
    (duckFlagClear s).protection.scan = s.protection.scan ∧
    (duckFlagClear s).protection.readings = s.protection.readings ∧
    (duckFlagClear s).protection.conditions = s.protection.conditions ∧
    (duckFlagClear s).protection.clip = s.protection.clip ∧
    (duckFlagClear s).protection.riseGuard = s.protection.riseGuard ∧
    (duckFlagClear s).protection.clipFall = s.protection.clipFall ∧
    (duckFlagClear s).protection.active = s.protection.active ∧
    (duckFlagClear s).protection.sticky = s.protection.sticky ∧ (duckFlagClear s).controller = s.controller ∧
    (duckFlagClear s).draws = s.draws := by
  unfold duckFlagClear; split <;> simp

@[simp] theorem markEnds_keeps (s : State) :
    (markEnds s).pending = s.pending ∧ (markEnds s).pins = s.pins ∧ (markEnds s).loader = s.loader ∧
    (markEnds s).link = s.link ∧ (markEnds s).cycle.number = s.cycle.number ∧
    (markEnds s).cycle.presence = s.cycle.presence ∧ (markEnds s).peers = s.peers ∧ (markEnds s).scene = s.scene ∧
    (markEnds s).speed = s.speed ∧ (markEnds s).planner = s.planner ∧ (markEnds s).ramps = s.ramps ∧
    (markEnds s).equaliser = s.equaliser ∧ (markEnds s).protection = s.protection ∧
    (markEnds s).controller = s.controller ∧ (markEnds s).draws = s.draws := by
  unfold markEnds; split <;> simp

@[simp] theorem presenceEnds_keeps (s : State) :
    (presenceEnds s).pending = s.pending ∧ (presenceEnds s).pins = s.pins ∧ (presenceEnds s).loader = s.loader ∧
    (presenceEnds s).link = s.link ∧ (presenceEnds s).cycle.number = s.cycle.number ∧
    (presenceEnds s).cycle.cycle = s.cycle.cycle ∧ (presenceEnds s).peers = s.peers ∧
    (presenceEnds s).scene = s.scene ∧ (presenceEnds s).speed = s.speed ∧ (presenceEnds s).planner = s.planner ∧
    (presenceEnds s).ramps = s.ramps ∧ (presenceEnds s).equaliser = s.equaliser ∧
    (presenceEnds s).protection = s.protection ∧ (presenceEnds s).controller = s.controller ∧
    (presenceEnds s).draws = s.draws := by
  unfold presenceEnds; split <;> simp

@[simp] theorem timerNotice_keeps (b : FrameBody) (s : State) :
    (timerNotice b s).pending = s.pending ∧ (timerNotice b s).pins = s.pins ∧ (timerNotice b s).loader = s.loader ∧
    (timerNotice b s).link = s.link ∧ (timerNotice b s).cycle.number = s.cycle.number ∧
    (timerNotice b s).peers = s.peers ∧ (timerNotice b s).scene = s.scene ∧ (timerNotice b s).speed = s.speed ∧
    (timerNotice b s).planner = s.planner ∧ (timerNotice b s).ramps = s.ramps ∧
    (timerNotice b s).equaliser = s.equaliser ∧ (timerNotice b s).protection = s.protection ∧
    (timerNotice b s).controller = s.controller ∧ (timerNotice b s).draws = s.draws := by
  cases b <;> simp [timerNotice]

/-- What giving a frame to the queue leaves (R167, R168). -/
@[simp] theorem Link.give_keeps (admits : Bool) (b : FrameBody) (l : Link) :
    (l.give admits b).1.sending = l.sending ∧ (l.give admits b).1.isolated = l.isolated ∧
    (l.give admits b).1.isolationTimer = l.isolationTimer ∧
    (l.give admits b).1.conflictReported = l.conflictReported ∧
    (l.give admits b).1.acknowledging = l.acknowledging := by
  unfold Link.give
  repeat' split
  all_goals simp [Link.insert, Link.countDrop]

@[simp] theorem queueSpeedOffer_keeps (o : Offer) (s : State) :
    (queueSpeedOffer o s).pending = s.pending ∧ (queueSpeedOffer o s).pins = s.pins ∧
    (queueSpeedOffer o s).loader = s.loader ∧ (queueSpeedOffer o s).link.sending = s.link.sending ∧
    (queueSpeedOffer o s).link.isolated = s.link.isolated ∧
    (queueSpeedOffer o s).link.isolationTimer = s.link.isolationTimer ∧
    (queueSpeedOffer o s).link.conflictReported = s.link.conflictReported ∧
    (queueSpeedOffer o s).link.acknowledging = s.link.acknowledging ∧
    (queueSpeedOffer o s).cycle.number = s.cycle.number ∧ (queueSpeedOffer o s).peers = s.peers ∧
    (queueSpeedOffer o s).scene = s.scene ∧ (queueSpeedOffer o s).speed.source = s.speed.source ∧
    (queueSpeedOffer o s).speed.state = s.speed.state ∧ (queueSpeedOffer o s).speed.desired = s.speed.desired ∧
    (queueSpeedOffer o s).speed.fallTimer = s.speed.fallTimer ∧ (queueSpeedOffer o s).planner = s.planner ∧
    (queueSpeedOffer o s).ramps = s.ramps ∧ (queueSpeedOffer o s).equaliser = s.equaliser ∧
    (queueSpeedOffer o s).protection = s.protection ∧ (queueSpeedOffer o s).controller = s.controller ∧
    (queueSpeedOffer o s).draws = s.draws := by
  unfold queueSpeedOffer; dsimp only; repeat' split
  all_goals simp

@[simp] theorem offerCheck_keeps (s : State) :
    (offerCheck s).pending = s.pending ∧ (offerCheck s).pins = s.pins ∧ (offerCheck s).loader = s.loader ∧
    (offerCheck s).link.sending = s.link.sending ∧ (offerCheck s).link.isolated = s.link.isolated ∧
    (offerCheck s).link.isolationTimer = s.link.isolationTimer ∧
    (offerCheck s).link.conflictReported = s.link.conflictReported ∧
    (offerCheck s).link.acknowledging = s.link.acknowledging ∧ (offerCheck s).cycle.number = s.cycle.number ∧
    (offerCheck s).peers = s.peers ∧ (offerCheck s).scene = s.scene ∧ (offerCheck s).speed.source = s.speed.source ∧
    (offerCheck s).speed.state = s.speed.state ∧ (offerCheck s).speed.desired = s.speed.desired ∧
    (offerCheck s).speed.fallTimer = s.speed.fallTimer ∧ (offerCheck s).planner = s.planner ∧
    (offerCheck s).ramps = s.ramps ∧ (offerCheck s).equaliser = s.equaliser ∧
    (offerCheck s).protection = s.protection ∧ (offerCheck s).controller = s.controller ∧
    (offerCheck s).draws = s.draws := by
  unfold offerCheck; repeat' split
  all_goals simp

@[simp] theorem offerEnds_keeps (s : State) :
    (offerEnds s).pending = s.pending ∧ (offerEnds s).pins = s.pins ∧ (offerEnds s).loader = s.loader ∧
    (offerEnds s).link.sending = s.link.sending ∧ (offerEnds s).link.isolated = s.link.isolated ∧
    (offerEnds s).link.isolationTimer = s.link.isolationTimer ∧
    (offerEnds s).link.conflictReported = s.link.conflictReported ∧
    (offerEnds s).link.acknowledging = s.link.acknowledging ∧ (offerEnds s).cycle.number = s.cycle.number ∧
    (offerEnds s).peers = s.peers ∧ (offerEnds s).scene = s.scene ∧ (offerEnds s).speed.source = s.speed.source ∧
    (offerEnds s).speed.state = s.speed.state ∧ (offerEnds s).speed.desired = s.speed.desired ∧
    (offerEnds s).speed.fallTimer = s.speed.fallTimer ∧ (offerEnds s).planner = s.planner ∧
    (offerEnds s).ramps = s.ramps ∧ (offerEnds s).equaliser = s.equaliser ∧
    (offerEnds s).protection = s.protection ∧ (offerEnds s).controller = s.controller ∧
    (offerEnds s).draws = s.draws := by
  simp [offerEnds]

@[simp] theorem frameEnds_keeps (b : FrameBody) (s : State) :
    (frameEnds b s).pending = s.pending ∧ (frameEnds b s).pins = s.pins ∧ (frameEnds b s).loader = s.loader ∧
    (frameEnds b s).link.sending = s.link.sending ∧ (frameEnds b s).link.isolated = s.link.isolated ∧
    (frameEnds b s).link.isolationTimer = s.link.isolationTimer ∧
    (frameEnds b s).link.conflictReported = s.link.conflictReported ∧
    (frameEnds b s).link.acknowledging = s.link.acknowledging ∧ (frameEnds b s).cycle.number = s.cycle.number ∧
    (frameEnds b s).peers = s.peers ∧ (frameEnds b s).scene = s.scene ∧
    (frameEnds b s).speed.source = s.speed.source ∧ (frameEnds b s).speed.state = s.speed.state ∧
    (frameEnds b s).speed.desired = s.speed.desired ∧ (frameEnds b s).speed.fallTimer = s.speed.fallTimer ∧
    (frameEnds b s).planner = s.planner ∧ (frameEnds b s).ramps = s.ramps ∧
    (frameEnds b s).equaliser = s.equaliser ∧ (frameEnds b s).protection = s.protection ∧
    (frameEnds b s).controller = s.controller ∧ (frameEnds b s).draws = s.draws := by
  unfold frameEnds; split <;> simp

@[simp] theorem giveFrame_keeps (b : FrameBody) (s : State) :
    (giveFrame b s).pending = s.pending ∧ (giveFrame b s).pins = s.pins ∧ (giveFrame b s).loader = s.loader ∧
    (giveFrame b s).link.sending = s.link.sending ∧ (giveFrame b s).link.isolated = s.link.isolated ∧
    (giveFrame b s).link.isolationTimer = s.link.isolationTimer ∧
    (giveFrame b s).link.conflictReported = s.link.conflictReported ∧
    (giveFrame b s).link.acknowledging = s.link.acknowledging ∧ (giveFrame b s).cycle.number = s.cycle.number ∧
    (giveFrame b s).peers = s.peers ∧ (giveFrame b s).scene = s.scene ∧
    (giveFrame b s).speed.source = s.speed.source ∧ (giveFrame b s).speed.state = s.speed.state ∧
    (giveFrame b s).speed.desired = s.speed.desired ∧ (giveFrame b s).speed.fallTimer = s.speed.fallTimer ∧
    (giveFrame b s).planner = s.planner ∧ (giveFrame b s).ramps = s.ramps ∧
    (giveFrame b s).equaliser = s.equaliser ∧ (giveFrame b s).protection = s.protection ∧
    (giveFrame b s).controller = s.controller ∧ (giveFrame b s).draws = s.draws := by
  unfold giveFrame; dsimp only; split <;> simp

@[simp] theorem presenceRunsOut_keeps (s : State) :
    (presenceRunsOut s).pending = s.pending ∧ (presenceRunsOut s).pins = s.pins ∧
    (presenceRunsOut s).loader = s.loader ∧ (presenceRunsOut s).link.sending = s.link.sending ∧
    (presenceRunsOut s).link.isolated = s.link.isolated ∧
    (presenceRunsOut s).link.isolationTimer = s.link.isolationTimer ∧
    (presenceRunsOut s).link.conflictReported = s.link.conflictReported ∧
    (presenceRunsOut s).link.acknowledging = s.link.acknowledging ∧
    (presenceRunsOut s).cycle.number = s.cycle.number ∧ (presenceRunsOut s).peers = s.peers ∧
    (presenceRunsOut s).scene = s.scene ∧ (presenceRunsOut s).speed.source = s.speed.source ∧
    (presenceRunsOut s).speed.state = s.speed.state ∧ (presenceRunsOut s).speed.desired = s.speed.desired ∧
    (presenceRunsOut s).speed.fallTimer = s.speed.fallTimer ∧ (presenceRunsOut s).planner = s.planner ∧
    (presenceRunsOut s).ramps = s.ramps ∧ (presenceRunsOut s).equaliser = s.equaliser ∧
    (presenceRunsOut s).protection = s.protection ∧ (presenceRunsOut s).controller = s.controller ∧
    (presenceRunsOut s).draws = s.draws := by
  simp [presenceRunsOut]

@[simp] theorem startFirstPresence_keeps (s : State) :
    (startFirstPresence s).pending = s.pending ∧ (startFirstPresence s).pins = s.pins ∧
    (startFirstPresence s).loader = s.loader ∧ (startFirstPresence s).link.sending = s.link.sending ∧
    (startFirstPresence s).link.isolated = s.link.isolated ∧
    (startFirstPresence s).link.isolationTimer = s.link.isolationTimer ∧
    (startFirstPresence s).link.conflictReported = s.link.conflictReported ∧
    (startFirstPresence s).link.acknowledging = s.link.acknowledging ∧
    (startFirstPresence s).cycle.number = s.cycle.number ∧ (startFirstPresence s).peers = s.peers ∧
    (startFirstPresence s).scene = s.scene ∧ (startFirstPresence s).speed.source = s.speed.source ∧
    (startFirstPresence s).speed.state = s.speed.state ∧ (startFirstPresence s).speed.desired = s.speed.desired ∧
    (startFirstPresence s).speed.fallTimer = s.speed.fallTimer ∧ (startFirstPresence s).planner = s.planner ∧
    (startFirstPresence s).ramps = s.ramps ∧ (startFirstPresence s).equaliser = s.equaliser ∧
    (startFirstPresence s).protection = s.protection ∧ (startFirstPresence s).controller = s.controller ∧
    (startFirstPresence s).draws = s.draws := by
  unfold startFirstPresence; split <;> simp

@[simp] theorem startCycle_keeps (s : State) :
    (startCycle s).pending = s.pending ∧ (startCycle s).pins = s.pins ∧ (startCycle s).loader = s.loader ∧
    (startCycle s).link = s.link ∧ (startCycle s).cycle.number = s.cycle.number ∧
    (startCycle s).cycle.presence = s.cycle.presence ∧ (startCycle s).peers = s.peers ∧
    (startCycle s).scene = s.scene ∧ (startCycle s).speed = s.speed ∧ (startCycle s).planner = s.planner ∧
    (startCycle s).ramps = s.ramps ∧ (startCycle s).equaliser = s.equaliser ∧
    (startCycle s).protection = s.protection ∧ (startCycle s).controller = s.controller ∧
    (startCycle s).draws = s.draws := by
  simp [startCycle]

@[simp] theorem dropWaiting_keeps (s : State) :
    (dropWaiting s).pending = s.pending ∧ (dropWaiting s).pins = s.pins ∧ (dropWaiting s).loader = s.loader ∧
    (dropWaiting s).link.sending = s.link.sending ∧ (dropWaiting s).link.nextStamp = s.link.nextStamp ∧
    (dropWaiting s).link.counters = s.link.counters ∧ (dropWaiting s).link.isolated = s.link.isolated ∧
    (dropWaiting s).link.isolationTimer = s.link.isolationTimer ∧
    (dropWaiting s).link.conflictReported = s.link.conflictReported ∧
    (dropWaiting s).link.acknowledging = s.link.acknowledging ∧ (dropWaiting s).cycle.number = s.cycle.number ∧
    (dropWaiting s).peers = s.peers ∧ (dropWaiting s).scene = s.scene ∧
    (dropWaiting s).speed.source = s.speed.source ∧ (dropWaiting s).speed.state = s.speed.state ∧
    (dropWaiting s).speed.desired = s.speed.desired ∧ (dropWaiting s).speed.fallTimer = s.speed.fallTimer ∧
    (dropWaiting s).speed.spacingTimer = s.speed.spacingTimer ∧ (dropWaiting s).planner = s.planner ∧
    (dropWaiting s).ramps = s.ramps ∧ (dropWaiting s).equaliser = s.equaliser ∧
    (dropWaiting s).protection = s.protection ∧ (dropWaiting s).controller = s.controller ∧
    (dropWaiting s).draws = s.draws := by
  simp [dropWaiting]

@[simp] theorem markFault_keeps (f : StationFault) (s : State) :
    (markFault f s).pending = s.pending ∧ (markFault f s).pins = s.pins ∧ (markFault f s).loader = s.loader ∧
    (markFault f s).link = s.link ∧ (markFault f s).cycle = s.cycle ∧ (markFault f s).peers = s.peers ∧
    (markFault f s).scene = s.scene ∧ (markFault f s).speed = s.speed ∧ (markFault f s).planner = s.planner ∧
    (markFault f s).ramps = s.ramps ∧ (markFault f s).equaliser = s.equaliser ∧
    (markFault f s).protection.scan = s.protection.scan ∧
    (markFault f s).protection.readings = s.protection.readings ∧
    (markFault f s).protection.conditions = s.protection.conditions ∧
    (markFault f s).protection.clip = s.protection.clip ∧
    (markFault f s).protection.riseGuard = s.protection.riseGuard ∧
    (markFault f s).protection.clipFall = s.protection.clipFall ∧
    (markFault f s).protection.records = s.protection.records ∧ (markFault f s).controller = s.controller ∧
    (markFault f s).draws = s.draws := by
  simp [markFault]

@[simp] theorem unmarkFault_keeps (f : StationFault) (s : State) :
    (unmarkFault f s).pending = s.pending ∧ (unmarkFault f s).pins = s.pins ∧ (unmarkFault f s).loader = s.loader ∧
    (unmarkFault f s).link = s.link ∧ (unmarkFault f s).cycle = s.cycle ∧ (unmarkFault f s).peers = s.peers ∧
    (unmarkFault f s).scene = s.scene ∧ (unmarkFault f s).speed = s.speed ∧ (unmarkFault f s).planner = s.planner ∧
    (unmarkFault f s).ramps = s.ramps ∧ (unmarkFault f s).equaliser = s.equaliser ∧
    (unmarkFault f s).protection.scan = s.protection.scan ∧
    (unmarkFault f s).protection.readings = s.protection.readings ∧
    (unmarkFault f s).protection.conditions = s.protection.conditions ∧
    (unmarkFault f s).protection.clip = s.protection.clip ∧
    (unmarkFault f s).protection.riseGuard = s.protection.riseGuard ∧
    (unmarkFault f s).protection.clipFall = s.protection.clipFall ∧
    (unmarkFault f s).protection.sticky = s.protection.sticky ∧
    (unmarkFault f s).protection.records = s.protection.records ∧ (unmarkFault f s).controller = s.controller ∧
    (unmarkFault f s).draws = s.draws := by
  simp [unmarkFault]

@[simp] theorem clearRailFault_keeps (f : StationFault) (s : State) :
    (clearRailFault f s).pending = s.pending ∧ (clearRailFault f s).pins = s.pins ∧
    (clearRailFault f s).loader = s.loader ∧ (clearRailFault f s).link = s.link ∧
    (clearRailFault f s).cycle = s.cycle ∧ (clearRailFault f s).peers = s.peers ∧
    (clearRailFault f s).scene = s.scene ∧ (clearRailFault f s).speed = s.speed ∧
    (clearRailFault f s).planner.gapSet = s.planner.gapSet ∧
    (clearRailFault f s).planner.gapReview = s.planner.gapReview ∧
    (clearRailFault f s).planner.duck = s.planner.duck ∧
    (clearRailFault f s).planner.duckTimer = s.planner.duckTimer ∧ (clearRailFault f s).equaliser = s.equaliser ∧
    (clearRailFault f s).protection.scan = s.protection.scan ∧
    (clearRailFault f s).protection.readings = s.protection.readings ∧
    (clearRailFault f s).protection.conditions = s.protection.conditions ∧
    (clearRailFault f s).protection.clip = s.protection.clip ∧
    (clearRailFault f s).protection.riseGuard = s.protection.riseGuard ∧
    (clearRailFault f s).protection.clipFall = s.protection.clipFall ∧
    (clearRailFault f s).protection.sticky = s.protection.sticky ∧ (clearRailFault f s).controller = s.controller ∧
    (clearRailFault f s).draws = s.draws := by
  unfold clearRailFault; split
  · cases f
    case railHigh =>
      exact foldl_invariant (P := fun t : State =>
      t.pending = s.pending ∧ t.pins = s.pins ∧ t.loader = s.loader ∧ t.link = s.link ∧ t.cycle = s.cycle ∧
      t.peers = s.peers ∧ t.scene = s.scene ∧ t.speed = s.speed ∧ t.planner.gapSet = s.planner.gapSet ∧
      t.planner.gapReview = s.planner.gapReview ∧ t.planner.duck = s.planner.duck ∧
      t.planner.duckTimer = s.planner.duckTimer ∧ t.equaliser = s.equaliser ∧
      t.protection.scan = s.protection.scan ∧ t.protection.readings = s.protection.readings ∧
      t.protection.conditions = s.protection.conditions ∧ t.protection.clip = s.protection.clip ∧
      t.protection.riseGuard = s.protection.riseGuard ∧ t.protection.clipFall = s.protection.clipFall ∧
      t.protection.sticky = s.protection.sticky ∧ t.controller = s.controller ∧ t.draws = s.draws)
        (by simp) (fun t n h => by simpa using h) allChannels
    all_goals simp
  · simp

@[simp] theorem closeWindow_keeps (s : State) :
    (closeWindow s).pending = s.pending ∧ (closeWindow s).pins = s.pins ∧ (closeWindow s).loader = s.loader ∧
    (closeWindow s).link = s.link ∧ (closeWindow s).cycle = s.cycle ∧ (closeWindow s).peers = s.peers ∧
    (closeWindow s).scene = s.scene ∧ (closeWindow s).speed = s.speed ∧
    (closeWindow s).planner.gapSet = s.planner.gapSet ∧ (closeWindow s).planner.gapReview = s.planner.gapReview ∧
    (closeWindow s).planner.duck = s.planner.duck ∧ (closeWindow s).planner.duckTimer = s.planner.duckTimer ∧
    (closeWindow s).equaliser = s.equaliser ∧ (closeWindow s).protection.scan = s.protection.scan ∧
    (closeWindow s).protection.readings = s.protection.readings ∧
    (closeWindow s).protection.clip = s.protection.clip ∧
    (closeWindow s).protection.riseGuard = s.protection.riseGuard ∧
    (closeWindow s).protection.clipFall = s.protection.clipFall ∧
    (closeWindow s).protection.sticky = s.protection.sticky ∧ (closeWindow s).controller = s.controller ∧
    (closeWindow s).draws = s.draws := by
  simp [closeWindow]

@[simp] theorem leaveReady_keeps (k : SilencingKind) (s : State) :
    (leaveReady k s).pending = s.pending ∧ (leaveReady k s).pins = s.pins ∧ (leaveReady k s).loader = s.loader ∧
    (leaveReady k s).link = s.link ∧ (leaveReady k s).cycle = s.cycle ∧ (leaveReady k s).peers = s.peers ∧
    (leaveReady k s).scene = s.scene ∧ (leaveReady k s).speed = s.speed ∧ (leaveReady k s).planner = s.planner ∧
    (leaveReady k s).equaliser = s.equaliser ∧ (leaveReady k s).protection.scan = s.protection.scan ∧
    (leaveReady k s).protection.readings = s.protection.readings ∧
    (leaveReady k s).protection.conditions = s.protection.conditions ∧
    (leaveReady k s).protection.clip = s.protection.clip ∧
    (leaveReady k s).protection.riseGuard = s.protection.riseGuard ∧
    (leaveReady k s).protection.clipFall = s.protection.clipFall ∧
    (leaveReady k s).protection.active = s.protection.active ∧
    (leaveReady k s).protection.sticky = s.protection.sticky ∧ (leaveReady k s).controller = s.controller ∧
    (leaveReady k s).draws = s.draws := by
  unfold leaveReady; split <;> simp

@[simp] theorem enterStabilising_keeps (s : State) :
    (enterStabilising s).pending = s.pending ∧ (enterStabilising s).pins = s.pins ∧
    (enterStabilising s).loader = s.loader ∧ (enterStabilising s).link = s.link ∧
    (enterStabilising s).cycle = s.cycle ∧ (enterStabilising s).peers = s.peers ∧
    (enterStabilising s).scene = s.scene ∧ (enterStabilising s).speed = s.speed ∧
    (enterStabilising s).planner = s.planner ∧ (enterStabilising s).ramps = s.ramps ∧
    (enterStabilising s).equaliser = s.equaliser ∧ (enterStabilising s).protection.scan = s.protection.scan ∧
    (enterStabilising s).protection.readings = s.protection.readings ∧
    (enterStabilising s).protection.conditions = s.protection.conditions ∧
    (enterStabilising s).protection.clip = s.protection.clip ∧
    (enterStabilising s).protection.riseGuard = s.protection.riseGuard ∧
    (enterStabilising s).protection.clipFall = s.protection.clipFall ∧
    (enterStabilising s).protection.sticky = s.protection.sticky ∧
    (enterStabilising s).protection.records = s.protection.records ∧
    (enterStabilising s).controller.downTimer = s.controller.downTimer ∧
    (enterStabilising s).controller.railRetryTimer = s.controller.railRetryTimer ∧
    (enterStabilising s).controller.stop = s.controller.stop ∧ (enterStabilising s).draws = s.draws := by
  simp [enterStabilising]

@[simp] theorem enterRailUp_keeps (s : State) :
    (enterRailUp s).pending = s.pending ∧ (enterRailUp s).pins = s.pins ∧ (enterRailUp s).loader = s.loader ∧
    (enterRailUp s).link = s.link ∧ (enterRailUp s).cycle = s.cycle ∧ (enterRailUp s).peers = s.peers ∧
    (enterRailUp s).scene = s.scene ∧ (enterRailUp s).speed = s.speed ∧
    (enterRailUp s).planner.gapSet = s.planner.gapSet ∧ (enterRailUp s).planner.gapReview = s.planner.gapReview ∧
    (enterRailUp s).planner.duck = s.planner.duck ∧ (enterRailUp s).planner.duckTimer = s.planner.duckTimer ∧
    (enterRailUp s).equaliser = s.equaliser ∧ (enterRailUp s).protection.scan = s.protection.scan ∧
    (enterRailUp s).protection.readings = s.protection.readings ∧
    (enterRailUp s).protection.clip = s.protection.clip ∧
    (enterRailUp s).protection.riseGuard = s.protection.riseGuard ∧
    (enterRailUp s).protection.clipFall = s.protection.clipFall ∧
    (enterRailUp s).protection.sticky = s.protection.sticky ∧ (enterRailUp s).controller.stop = s.controller.stop ∧
    (enterRailUp s).draws = s.draws := by
  unfold enterRailUp; dsimp only; split <;> simp

@[simp] theorem enterReady_keeps (s : State) :
    (enterReady s).pending = s.pending ∧ (enterReady s).pins = s.pins ∧ (enterReady s).loader = s.loader ∧
    (enterReady s).link = s.link ∧ (enterReady s).cycle = s.cycle ∧ (enterReady s).peers = s.peers ∧
    (enterReady s).scene = s.scene ∧ (enterReady s).speed = s.speed ∧ (enterReady s).planner = s.planner ∧
    (enterReady s).equaliser = s.equaliser ∧ (enterReady s).protection = s.protection ∧
    (enterReady s).controller.rail = s.controller.rail ∧
    (enterReady s).controller.railGoodTimer = s.controller.railGoodTimer ∧
    (enterReady s).controller.downTimer = s.controller.downTimer ∧
    (enterReady s).controller.railRetryTimer = s.controller.railRetryTimer ∧
    (enterReady s).controller.stop = s.controller.stop ∧ (enterReady s).draws = s.draws := by
  simp [enterReady]

@[simp] theorem releaseRail_keeps (s : State) :
    (releaseRail s).pending = s.pending ∧ (releaseRail s).pins = s.pins ∧ (releaseRail s).loader = s.loader ∧
    (releaseRail s).link = s.link ∧ (releaseRail s).cycle = s.cycle ∧ (releaseRail s).peers = s.peers ∧
    (releaseRail s).scene = s.scene ∧ (releaseRail s).speed = s.speed ∧
    (releaseRail s).planner.gapSet = s.planner.gapSet ∧ (releaseRail s).planner.gapReview = s.planner.gapReview ∧
    (releaseRail s).planner.duck = s.planner.duck ∧ (releaseRail s).planner.duckTimer = s.planner.duckTimer ∧
    (releaseRail s).equaliser = s.equaliser ∧ (releaseRail s).protection.scan = s.protection.scan ∧
    (releaseRail s).protection.readings = s.protection.readings ∧
    (releaseRail s).protection.clip = s.protection.clip ∧
    (releaseRail s).protection.riseGuard = s.protection.riseGuard ∧
    (releaseRail s).protection.clipFall = s.protection.clipFall ∧
    (releaseRail s).protection.sticky = s.protection.sticky ∧
    (releaseRail s).controller.station = s.controller.station ∧
    (releaseRail s).controller.railGoodTimer = s.controller.railGoodTimer ∧
    (releaseRail s).controller.stabiliseTimer = s.controller.stabiliseTimer ∧
    (releaseRail s).controller.railRetryTimer = s.controller.railRetryTimer ∧
    (releaseRail s).controller.stop = s.controller.stop ∧ (releaseRail s).draws = s.draws := by
  simp [releaseRail]

@[simp] theorem takeSilence_keeps (s : State) :
    (takeSilence s).pending = s.pending ∧ (takeSilence s).pins = s.pins ∧ (takeSilence s).loader = s.loader ∧
    (takeSilence s).link = s.link ∧ (takeSilence s).cycle = s.cycle ∧ (takeSilence s).peers = s.peers ∧
    (takeSilence s).scene = s.scene ∧ (takeSilence s).speed = s.speed ∧
    (takeSilence s).planner.gapSet = s.planner.gapSet ∧ (takeSilence s).planner.gapReview = s.planner.gapReview ∧
    (takeSilence s).planner.duck = s.planner.duck ∧ (takeSilence s).planner.duckTimer = s.planner.duckTimer ∧
    (takeSilence s).equaliser = s.equaliser ∧ (takeSilence s).protection.scan = s.protection.scan ∧
    (takeSilence s).protection.readings = s.protection.readings ∧
    (takeSilence s).protection.clip = s.protection.clip ∧
    (takeSilence s).protection.riseGuard = s.protection.riseGuard ∧
    (takeSilence s).protection.clipFall = s.protection.clipFall ∧
    (takeSilence s).protection.sticky = s.protection.sticky ∧
    (takeSilence s).controller.station = s.controller.station ∧
    (takeSilence s).controller.railGoodTimer = s.controller.railGoodTimer ∧
    (takeSilence s).controller.stabiliseTimer = s.controller.stabiliseTimer ∧
    (takeSilence s).controller.railRetryTimer = s.controller.railRetryTimer ∧
    (takeSilence s).controller.stop = s.controller.stop ∧ (takeSilence s).draws = s.draws := by
  unfold takeSilence; split <;> simp

@[simp] theorem emptyTable_keeps (s : State) :
    (emptyTable s).pending = s.pending ∧ (emptyTable s).pins = s.pins ∧ (emptyTable s).loader = s.loader ∧
    (emptyTable s).link = s.link ∧ (emptyTable s).cycle = s.cycle ∧ (emptyTable s).scene = s.scene ∧
    (emptyTable s).speed = s.speed ∧ (emptyTable s).planner.gapSet = s.planner.gapSet ∧
    (emptyTable s).planner.duck = s.planner.duck ∧ (emptyTable s).planner.duckTimer = s.planner.duckTimer ∧
    (emptyTable s).equaliser = s.equaliser ∧ (emptyTable s).protection.scan = s.protection.scan ∧
    (emptyTable s).protection.readings = s.protection.readings ∧
    (emptyTable s).protection.conditions = s.protection.conditions ∧
    (emptyTable s).protection.clip = s.protection.clip ∧
    (emptyTable s).protection.riseGuard = s.protection.riseGuard ∧
    (emptyTable s).protection.clipFall = s.protection.clipFall ∧
    (emptyTable s).protection.active = s.protection.active ∧
    (emptyTable s).protection.sticky = s.protection.sticky ∧ (emptyTable s).controller = s.controller ∧
    (emptyTable s).draws = s.draws := by
  unfold emptyTable; dsimp only; split <;> simp

@[simp] theorem enterResting_keeps (s : State) :
    (enterResting s).pending = s.pending ∧ (enterResting s).pins = s.pins ∧ (enterResting s).loader = s.loader ∧
    (enterResting s).link.sending = s.link.sending ∧ (enterResting s).link.nextStamp = s.link.nextStamp ∧
    (enterResting s).link.counters = s.link.counters ∧ (enterResting s).link.isolated = s.link.isolated ∧
    (enterResting s).link.isolationTimer = s.link.isolationTimer ∧
    (enterResting s).link.conflictReported = s.link.conflictReported ∧
    (enterResting s).link.acknowledging = s.link.acknowledging ∧ (enterResting s).cycle.number = s.cycle.number ∧
    (enterResting s).scene = s.scene ∧ (enterResting s).speed.source = s.speed.source ∧
    (enterResting s).speed.state = s.speed.state ∧ (enterResting s).speed.desired = s.speed.desired ∧
    (enterResting s).speed.fallTimer = s.speed.fallTimer ∧
    (enterResting s).speed.spacingTimer = s.speed.spacingTimer ∧
    (enterResting s).planner.gapSet = s.planner.gapSet ∧ (enterResting s).planner.duck = s.planner.duck ∧
    (enterResting s).planner.duckTimer = s.planner.duckTimer ∧ (enterResting s).equaliser = s.equaliser ∧
    (enterResting s).protection.scan = s.protection.scan ∧
    (enterResting s).protection.readings = s.protection.readings ∧
    (enterResting s).protection.conditions = s.protection.conditions ∧
    (enterResting s).protection.clip = s.protection.clip ∧
    (enterResting s).protection.riseGuard = s.protection.riseGuard ∧
    (enterResting s).protection.clipFall = s.protection.clipFall ∧
    (enterResting s).protection.active = s.protection.active ∧
    (enterResting s).protection.sticky = s.protection.sticky ∧
    (enterResting s).controller.railGoodTimer = s.controller.railGoodTimer ∧
    (enterResting s).controller.stabiliseTimer = s.controller.stabiliseTimer ∧
    (enterResting s).controller.downTimer = s.controller.downTimer ∧
    (enterResting s).controller.railRetryTimer = s.controller.railRetryTimer ∧ (enterResting s).draws = s.draws := by
  unfold enterResting; dsimp only; split <;> simp

@[simp] theorem wake_keeps (s : State) :
    (wake s).pending = s.pending ∧ (wake s).pins = s.pins ∧ (wake s).loader = s.loader ∧
    (wake s).link.sending = s.link.sending ∧ (wake s).link.isolated = s.link.isolated ∧
    (wake s).link.isolationTimer = s.link.isolationTimer ∧
    (wake s).link.conflictReported = s.link.conflictReported ∧ (wake s).link.acknowledging = s.link.acknowledging ∧
    (wake s).cycle.number = s.cycle.number ∧ (wake s).peers = s.peers ∧ (wake s).scene = s.scene ∧
    (wake s).speed.source = s.speed.source ∧ (wake s).speed.state = s.speed.state ∧
    (wake s).speed.desired = s.speed.desired ∧ (wake s).speed.fallTimer = s.speed.fallTimer ∧
    (wake s).planner.gapSet = s.planner.gapSet ∧ (wake s).planner.gapReview = s.planner.gapReview ∧
    (wake s).planner.duck = s.planner.duck ∧ (wake s).planner.duckTimer = s.planner.duckTimer ∧
    (wake s).equaliser = s.equaliser ∧ (wake s).protection.scan = s.protection.scan ∧
    (wake s).protection.readings = s.protection.readings ∧ (wake s).protection.clip = s.protection.clip ∧
    (wake s).protection.riseGuard = s.protection.riseGuard ∧ (wake s).protection.clipFall = s.protection.clipFall ∧
    (wake s).protection.sticky = s.protection.sticky ∧ (wake s).controller.stop = s.controller.stop ∧
    (wake s).draws = s.draws := by
  unfold wake; dsimp only; repeat' split
  all_goals simp

@[simp] theorem askShutdown_keeps (s : State) :
    (askShutdown s).pending = s.pending ∧ (askShutdown s).pins = s.pins ∧ (askShutdown s).loader = s.loader ∧
    (askShutdown s).link = s.link ∧ (askShutdown s).cycle = s.cycle ∧ (askShutdown s).peers = s.peers ∧
    (askShutdown s).scene = s.scene ∧ (askShutdown s).speed = s.speed ∧
    (askShutdown s).planner.gapSet = s.planner.gapSet ∧ (askShutdown s).planner.gapReview = s.planner.gapReview ∧
    (askShutdown s).planner.duck = s.planner.duck ∧ (askShutdown s).planner.duckTimer = s.planner.duckTimer ∧
    (askShutdown s).equaliser = s.equaliser ∧ (askShutdown s).protection.scan = s.protection.scan ∧
    (askShutdown s).protection.readings = s.protection.readings ∧
    (askShutdown s).protection.clip = s.protection.clip ∧
    (askShutdown s).protection.riseGuard = s.protection.riseGuard ∧
    (askShutdown s).protection.clipFall = s.protection.clipFall ∧
    (askShutdown s).protection.sticky = s.protection.sticky ∧
    (askShutdown s).controller.downTimer = s.controller.downTimer ∧
    (askShutdown s).controller.stop = s.controller.stop ∧ (askShutdown s).draws = s.draws := by
  unfold askShutdown; dsimp only; split <;> simp

@[simp] theorem reportRecovery_keeps (s : State) :
    (reportRecovery s).pending = s.pending ∧ (reportRecovery s).pins = s.pins ∧
    (reportRecovery s).loader = s.loader ∧ (reportRecovery s).link = s.link ∧ (reportRecovery s).cycle = s.cycle ∧
    (reportRecovery s).peers = s.peers ∧ (reportRecovery s).scene = s.scene ∧ (reportRecovery s).speed = s.speed ∧
    (reportRecovery s).planner.gapSet = s.planner.gapSet ∧
    (reportRecovery s).planner.gapReview = s.planner.gapReview ∧ (reportRecovery s).planner.duck = s.planner.duck ∧
    (reportRecovery s).planner.duckTimer = s.planner.duckTimer ∧ (reportRecovery s).equaliser = s.equaliser ∧
    (reportRecovery s).protection.scan = s.protection.scan ∧
    (reportRecovery s).protection.readings = s.protection.readings ∧
    (reportRecovery s).protection.clip = s.protection.clip ∧
    (reportRecovery s).protection.riseGuard = s.protection.riseGuard ∧
    (reportRecovery s).protection.clipFall = s.protection.clipFall ∧
    (reportRecovery s).protection.sticky = s.protection.sticky ∧
    (reportRecovery s).controller.stop = s.controller.stop ∧ (reportRecovery s).draws = s.draws := by
  unfold reportRecovery; split <;> simp

@[simp] theorem askRailUp_keeps (s : State) :
    (askRailUp s).pending = s.pending ∧ (askRailUp s).pins = s.pins ∧ (askRailUp s).loader = s.loader ∧
    (askRailUp s).link = s.link ∧ (askRailUp s).cycle = s.cycle ∧ (askRailUp s).peers = s.peers ∧
    (askRailUp s).scene = s.scene ∧ (askRailUp s).speed = s.speed ∧
    (askRailUp s).planner.gapSet = s.planner.gapSet ∧ (askRailUp s).planner.gapReview = s.planner.gapReview ∧
    (askRailUp s).planner.duck = s.planner.duck ∧ (askRailUp s).planner.duckTimer = s.planner.duckTimer ∧
    (askRailUp s).equaliser = s.equaliser ∧ (askRailUp s).protection.scan = s.protection.scan ∧
    (askRailUp s).protection.readings = s.protection.readings ∧ (askRailUp s).protection.clip = s.protection.clip ∧
    (askRailUp s).protection.riseGuard = s.protection.riseGuard ∧
    (askRailUp s).protection.clipFall = s.protection.clipFall ∧
    (askRailUp s).protection.sticky = s.protection.sticky ∧ (askRailUp s).controller.stop = s.controller.stop ∧
    (askRailUp s).draws = s.draws := by
  unfold askRailUp; split <;> simp

@[simp] theorem askConflict_keeps (s : State) :
    (askConflict s).pending = s.pending ∧ (askConflict s).pins = s.pins ∧ (askConflict s).loader = s.loader ∧
    (askConflict s).link.sending = s.link.sending ∧ (askConflict s).link.nextStamp = s.link.nextStamp ∧
    (askConflict s).link.counters = s.link.counters ∧ (askConflict s).link.isolated = s.link.isolated ∧
    (askConflict s).link.isolationTimer = s.link.isolationTimer ∧
    (askConflict s).link.conflictReported = s.link.conflictReported ∧
    (askConflict s).link.acknowledging = s.link.acknowledging ∧ (askConflict s).cycle.number = s.cycle.number ∧
    (askConflict s).peers = s.peers ∧ (askConflict s).scene = s.scene ∧
    (askConflict s).speed.source = s.speed.source ∧ (askConflict s).speed.state = s.speed.state ∧
    (askConflict s).speed.desired = s.speed.desired ∧ (askConflict s).speed.fallTimer = s.speed.fallTimer ∧
    (askConflict s).planner.gapSet = s.planner.gapSet ∧ (askConflict s).planner.gapReview = s.planner.gapReview ∧
    (askConflict s).planner.duck = s.planner.duck ∧ (askConflict s).planner.duckTimer = s.planner.duckTimer ∧
    (askConflict s).equaliser = s.equaliser ∧ (askConflict s).protection.scan = s.protection.scan ∧
    (askConflict s).protection.readings = s.protection.readings ∧
    (askConflict s).protection.clip = s.protection.clip ∧
    (askConflict s).protection.riseGuard = s.protection.riseGuard ∧
    (askConflict s).protection.clipFall = s.protection.clipFall ∧
    (askConflict s).protection.sticky = s.protection.sticky ∧ (askConflict s).draws = s.draws := by
  unfold askConflict; dsimp only; split <;> simp

@[simp] theorem queueAlert_keeps (a : AlertSubject) (t : AlertState) (s : State) :
    (queueAlert a t s).pending = s.pending ∧ (queueAlert a t s).pins = s.pins ∧
    (queueAlert a t s).loader = s.loader ∧ (queueAlert a t s).link.sending = s.link.sending ∧
    (queueAlert a t s).link.isolated = s.link.isolated ∧
    (queueAlert a t s).link.isolationTimer = s.link.isolationTimer ∧
    (queueAlert a t s).link.conflictReported = s.link.conflictReported ∧
    (queueAlert a t s).link.acknowledging = s.link.acknowledging ∧
    (queueAlert a t s).cycle.number = s.cycle.number ∧ (queueAlert a t s).peers = s.peers ∧
    (queueAlert a t s).scene = s.scene ∧ (queueAlert a t s).speed.source = s.speed.source ∧
    (queueAlert a t s).speed.state = s.speed.state ∧ (queueAlert a t s).speed.desired = s.speed.desired ∧
    (queueAlert a t s).speed.fallTimer = s.speed.fallTimer ∧ (queueAlert a t s).planner = s.planner ∧
    (queueAlert a t s).ramps = s.ramps ∧ (queueAlert a t s).equaliser = s.equaliser ∧
    (queueAlert a t s).protection = s.protection ∧ (queueAlert a t s).controller = s.controller ∧
    (queueAlert a t s).draws = s.draws := by
  simp [queueAlert]

@[simp] theorem raiseFault_keeps (f : StationFault) (s : State) :
    (raiseFault f s).pending = s.pending ∧ (raiseFault f s).pins = s.pins ∧ (raiseFault f s).loader = s.loader ∧
    (raiseFault f s).link.sending = s.link.sending ∧ (raiseFault f s).link.isolated = s.link.isolated ∧
    (raiseFault f s).link.isolationTimer = s.link.isolationTimer ∧
    (raiseFault f s).link.conflictReported = s.link.conflictReported ∧
    (raiseFault f s).link.acknowledging = s.link.acknowledging ∧ (raiseFault f s).cycle.number = s.cycle.number ∧
    (raiseFault f s).peers = s.peers ∧ (raiseFault f s).scene = s.scene ∧
    (raiseFault f s).speed.source = s.speed.source ∧ (raiseFault f s).speed.state = s.speed.state ∧
    (raiseFault f s).speed.desired = s.speed.desired ∧ (raiseFault f s).speed.fallTimer = s.speed.fallTimer ∧
    (raiseFault f s).planner.gapSet = s.planner.gapSet ∧ (raiseFault f s).planner.gapReview = s.planner.gapReview ∧
    (raiseFault f s).planner.duck = s.planner.duck ∧ (raiseFault f s).planner.duckTimer = s.planner.duckTimer ∧
    (raiseFault f s).equaliser = s.equaliser ∧ (raiseFault f s).protection.scan = s.protection.scan ∧
    (raiseFault f s).protection.readings = s.protection.readings ∧
    (raiseFault f s).protection.clip = s.protection.clip ∧
    (raiseFault f s).protection.riseGuard = s.protection.riseGuard ∧
    (raiseFault f s).protection.clipFall = s.protection.clipFall ∧ (raiseFault f s).draws = s.draws := by
  unfold raiseFault; split
  · simp
  · cases f <;> simp

@[simp] theorem clearThermalFault_keeps (f : StationFault) (s : State) :
    (clearThermalFault f s).pending = s.pending ∧ (clearThermalFault f s).pins = s.pins ∧
    (clearThermalFault f s).loader = s.loader ∧ (clearThermalFault f s).link = s.link ∧
    (clearThermalFault f s).cycle = s.cycle ∧ (clearThermalFault f s).peers = s.peers ∧
    (clearThermalFault f s).scene = s.scene ∧ (clearThermalFault f s).speed = s.speed ∧
    (clearThermalFault f s).planner.gapSet = s.planner.gapSet ∧
    (clearThermalFault f s).planner.gapReview = s.planner.gapReview ∧
    (clearThermalFault f s).planner.duck = s.planner.duck ∧
    (clearThermalFault f s).planner.duckTimer = s.planner.duckTimer ∧
    (clearThermalFault f s).equaliser = s.equaliser ∧ (clearThermalFault f s).protection.scan = s.protection.scan ∧
    (clearThermalFault f s).protection.readings = s.protection.readings ∧
    (clearThermalFault f s).protection.clip = s.protection.clip ∧
    (clearThermalFault f s).protection.riseGuard = s.protection.riseGuard ∧
    (clearThermalFault f s).protection.clipFall = s.protection.clipFall ∧
    (clearThermalFault f s).protection.sticky = s.protection.sticky ∧
    (clearThermalFault f s).controller.stop = s.controller.stop ∧ (clearThermalFault f s).draws = s.draws := by
  unfold clearThermalFault; split
  · cases f <;> simp
  · simp

@[simp] theorem silenceChannel_keeps (a : ChannelFault) (k : SilencingKind) (d : RecordState) (n : Channel) (s : State) :
    (silenceChannel a k d n s).pending = s.pending ∧ (silenceChannel a k d n s).pins = s.pins ∧
    (silenceChannel a k d n s).loader = s.loader ∧ (silenceChannel a k d n s).link.sending = s.link.sending ∧
    (silenceChannel a k d n s).link.isolated = s.link.isolated ∧
    (silenceChannel a k d n s).link.isolationTimer = s.link.isolationTimer ∧
    (silenceChannel a k d n s).link.conflictReported = s.link.conflictReported ∧
    (silenceChannel a k d n s).link.acknowledging = s.link.acknowledging ∧
    (silenceChannel a k d n s).cycle.number = s.cycle.number ∧ (silenceChannel a k d n s).peers = s.peers ∧
    (silenceChannel a k d n s).scene = s.scene ∧ (silenceChannel a k d n s).speed.source = s.speed.source ∧
    (silenceChannel a k d n s).speed.state = s.speed.state ∧
    (silenceChannel a k d n s).speed.desired = s.speed.desired ∧
    (silenceChannel a k d n s).speed.fallTimer = s.speed.fallTimer ∧
    (silenceChannel a k d n s).planner = s.planner ∧ (silenceChannel a k d n s).equaliser = s.equaliser ∧
    (silenceChannel a k d n s).protection.scan = s.protection.scan ∧
    (silenceChannel a k d n s).protection.readings = s.protection.readings ∧
    (silenceChannel a k d n s).protection.conditions = s.protection.conditions ∧
    (silenceChannel a k d n s).protection.clip = s.protection.clip ∧
    (silenceChannel a k d n s).protection.riseGuard = s.protection.riseGuard ∧
    (silenceChannel a k d n s).protection.clipFall = s.protection.clipFall ∧
    (silenceChannel a k d n s).protection.active = s.protection.active ∧
    (silenceChannel a k d n s).protection.sticky = s.protection.sticky ∧
    (silenceChannel a k d n s).controller = s.controller ∧ (silenceChannel a k d n s).draws = s.draws := by
  simp [silenceChannel, State.setRecord]

@[simp] theorem refreshPresence_keeps (s : State) :
    (refreshPresence s).pending = s.pending ∧ (refreshPresence s).pins = s.pins ∧
    (refreshPresence s).loader = s.loader ∧ (refreshPresence s).link.sending = s.link.sending ∧
    (refreshPresence s).link.nextStamp = s.link.nextStamp ∧ (refreshPresence s).link.counters = s.link.counters ∧
    (refreshPresence s).link.isolated = s.link.isolated ∧
    (refreshPresence s).link.isolationTimer = s.link.isolationTimer ∧
    (refreshPresence s).link.conflictReported = s.link.conflictReported ∧
    (refreshPresence s).link.acknowledging = s.link.acknowledging ∧ (refreshPresence s).cycle = s.cycle ∧
    (refreshPresence s).peers = s.peers ∧ (refreshPresence s).scene = s.scene ∧
    (refreshPresence s).speed = s.speed ∧ (refreshPresence s).planner = s.planner ∧
    (refreshPresence s).ramps = s.ramps ∧ (refreshPresence s).equaliser = s.equaliser ∧
    (refreshPresence s).protection = s.protection ∧ (refreshPresence s).controller = s.controller ∧
    (refreshPresence s).draws = s.draws := by
  simp [refreshPresence]

@[simp] theorem finish_keeps (s : State) :
    (finish s).pending = s.pending ∧ (finish s).pins = s.pins ∧ (finish s).loader = s.loader ∧
    (finish s).link.sending = s.link.sending ∧ (finish s).link.nextStamp = s.link.nextStamp ∧
    (finish s).link.counters = s.link.counters ∧ (finish s).link.isolated = s.link.isolated ∧
    (finish s).link.isolationTimer = s.link.isolationTimer ∧
    (finish s).link.conflictReported = s.link.conflictReported ∧
    (finish s).link.acknowledging = s.link.acknowledging ∧ (finish s).cycle = s.cycle ∧ (finish s).peers = s.peers ∧
    (finish s).scene = s.scene ∧ (finish s).speed = s.speed ∧ (finish s).planner.gapSet = s.planner.gapSet ∧
    (finish s).planner.gapReview = s.planner.gapReview ∧ (finish s).planner.duck = s.planner.duck ∧
    (finish s).planner.duckTimer = s.planner.duckTimer ∧ (finish s).equaliser = s.equaliser ∧
    (finish s).protection.scan = s.protection.scan ∧ (finish s).protection.readings = s.protection.readings ∧
    (finish s).protection.clip = s.protection.clip ∧ (finish s).protection.riseGuard = s.protection.riseGuard ∧
    (finish s).protection.clipFall = s.protection.clipFall ∧ (finish s).protection.sticky = s.protection.sticky ∧
    (finish s).controller.station = s.controller.station ∧
    (finish s).controller.railGoodTimer = s.controller.railGoodTimer ∧
    (finish s).controller.stabiliseTimer = s.controller.stabiliseTimer ∧
    (finish s).controller.railRetryTimer = s.controller.railRetryTimer ∧
    (finish s).controller.stop = s.controller.stop ∧ (finish s).draws = s.draws := by
  simp [finish]

@[simp] theorem frameHeard_keeps (s : State) :
    (frameHeard s).pending = s.pending ∧ (frameHeard s).pins = s.pins ∧ (frameHeard s).loader = s.loader ∧
    (frameHeard s).link.waiting = s.link.waiting ∧ (frameHeard s).link.sending = s.link.sending ∧
    (frameHeard s).link.nextStamp = s.link.nextStamp ∧ (frameHeard s).link.counters = s.link.counters ∧
    (frameHeard s).link.conflictReported = s.link.conflictReported ∧
    (frameHeard s).link.acknowledging = s.link.acknowledging ∧ (frameHeard s).cycle = s.cycle ∧
    (frameHeard s).scene = s.scene ∧ (frameHeard s).speed = s.speed ∧
    (frameHeard s).planner.gapSet = s.planner.gapSet ∧ (frameHeard s).equaliser = s.equaliser ∧
    (frameHeard s).protection.scan = s.protection.scan ∧
    (frameHeard s).protection.readings = s.protection.readings ∧
    (frameHeard s).protection.conditions = s.protection.conditions ∧
    (frameHeard s).protection.clip = s.protection.clip ∧
    (frameHeard s).protection.riseGuard = s.protection.riseGuard ∧
    (frameHeard s).protection.clipFall = s.protection.clipFall ∧
    (frameHeard s).protection.active = s.protection.active ∧
    (frameHeard s).protection.sticky = s.protection.sticky ∧ (frameHeard s).controller = s.controller ∧
    (frameHeard s).draws = s.draws := by
  unfold frameHeard; dsimp only; repeat' split
  all_goals simp

@[simp] theorem goodFrame_keeps (s : State) :
    (goodFrame s).pending = s.pending ∧ (goodFrame s).pins = s.pins ∧ (goodFrame s).loader = s.loader ∧
    (goodFrame s).link.sending = s.link.sending ∧ (goodFrame s).link.nextStamp = s.link.nextStamp ∧
    (goodFrame s).link.counters = s.link.counters ∧ (goodFrame s).link.conflictReported = s.link.conflictReported ∧
    (goodFrame s).cycle = s.cycle ∧ (goodFrame s).scene = s.scene ∧ (goodFrame s).speed = s.speed ∧
    (goodFrame s).planner.gapSet = s.planner.gapSet ∧ (goodFrame s).equaliser = s.equaliser ∧
    (goodFrame s).protection.scan = s.protection.scan ∧ (goodFrame s).protection.readings = s.protection.readings ∧
    (goodFrame s).protection.conditions = s.protection.conditions ∧
    (goodFrame s).protection.clip = s.protection.clip ∧
    (goodFrame s).protection.riseGuard = s.protection.riseGuard ∧
    (goodFrame s).protection.clipFall = s.protection.clipFall ∧
    (goodFrame s).protection.active = s.protection.active ∧ (goodFrame s).protection.sticky = s.protection.sticky ∧
    (goodFrame s).controller = s.controller ∧ (goodFrame s).draws = s.draws := by
  simp [goodFrame, Link.lineFrameEnded]

@[simp] theorem reportConflict_keeps (s : State) :
    (reportConflict s).pending = s.pending ∧ (reportConflict s).pins = s.pins ∧
    (reportConflict s).loader = s.loader ∧ (reportConflict s).link.sending = s.link.sending ∧
    (reportConflict s).link.isolated = s.link.isolated ∧
    (reportConflict s).link.isolationTimer = s.link.isolationTimer ∧
    (reportConflict s).link.acknowledging = s.link.acknowledging ∧
    (reportConflict s).cycle.number = s.cycle.number ∧ (reportConflict s).peers = s.peers ∧
    (reportConflict s).scene = s.scene ∧ (reportConflict s).speed.source = s.speed.source ∧
    (reportConflict s).speed.state = s.speed.state ∧ (reportConflict s).speed.desired = s.speed.desired ∧
    (reportConflict s).speed.fallTimer = s.speed.fallTimer ∧ (reportConflict s).planner.gapSet = s.planner.gapSet ∧
    (reportConflict s).planner.gapReview = s.planner.gapReview ∧ (reportConflict s).planner.duck = s.planner.duck ∧
    (reportConflict s).planner.duckTimer = s.planner.duckTimer ∧ (reportConflict s).equaliser = s.equaliser ∧
    (reportConflict s).protection.scan = s.protection.scan ∧
    (reportConflict s).protection.readings = s.protection.readings ∧
    (reportConflict s).protection.clip = s.protection.clip ∧
    (reportConflict s).protection.riseGuard = s.protection.riseGuard ∧
    (reportConflict s).protection.clipFall = s.protection.clipFall ∧ (reportConflict s).draws = s.draws := by
  simp [reportConflict]

end Sys2Proof.Machine
end

