-- ==== Sys2Proof/Laws/SceneFrames.lean ====
section
/-! SUPPORT. What the operations of the Scene Agreement Unit and of the Speed Compensation Unit leave as it was. -/

namespace Sys2Proof.Machine

@[simp] theorem queueApplied_keeps (s : State) :
    (queueApplied s).pending = s.pending ∧ (queueApplied s).pins = s.pins ∧ (queueApplied s).loader = s.loader ∧
    (queueApplied s).link.sending = s.link.sending ∧ (queueApplied s).link.isolated = s.link.isolated ∧
    (queueApplied s).link.isolationTimer = s.link.isolationTimer ∧
    (queueApplied s).link.conflictReported = s.link.conflictReported ∧
    (queueApplied s).link.acknowledging = s.link.acknowledging ∧ (queueApplied s).cycle.number = s.cycle.number ∧
    (queueApplied s).peers = s.peers ∧ (queueApplied s).scene = s.scene ∧
    (queueApplied s).speed.source = s.speed.source ∧ (queueApplied s).speed.state = s.speed.state ∧
    (queueApplied s).speed.desired = s.speed.desired ∧ (queueApplied s).speed.fallTimer = s.speed.fallTimer ∧
    (queueApplied s).planner = s.planner ∧ (queueApplied s).ramps = s.ramps ∧
    (queueApplied s).equaliser = s.equaliser ∧ (queueApplied s).protection = s.protection ∧
    (queueApplied s).controller = s.controller ∧ (queueApplied s).draws = s.draws := by
  unfold queueApplied; split <;> simp

@[simp] theorem queueFetch_keeps (w : Generation) (s : State) :
    (queueFetch w s).pending = s.pending ∧ (queueFetch w s).pins = s.pins ∧ (queueFetch w s).loader = s.loader ∧
    (queueFetch w s).link.sending = s.link.sending ∧ (queueFetch w s).link.isolated = s.link.isolated ∧
    (queueFetch w s).link.isolationTimer = s.link.isolationTimer ∧
    (queueFetch w s).link.conflictReported = s.link.conflictReported ∧
    (queueFetch w s).link.acknowledging = s.link.acknowledging ∧ (queueFetch w s).cycle.number = s.cycle.number ∧
    (queueFetch w s).peers = s.peers ∧ (queueFetch w s).scene = s.scene ∧
    (queueFetch w s).speed.source = s.speed.source ∧ (queueFetch w s).speed.state = s.speed.state ∧
    (queueFetch w s).speed.desired = s.speed.desired ∧ (queueFetch w s).speed.fallTimer = s.speed.fallTimer ∧
    (queueFetch w s).planner = s.planner ∧ (queueFetch w s).ramps = s.ramps ∧
    (queueFetch w s).equaliser = s.equaliser ∧ (queueFetch w s).protection = s.protection ∧
    (queueFetch w s).controller = s.controller ∧ (queueFetch w s).draws = s.draws := by
  simp [queueFetch]

@[simp] theorem queueFetchOnce_keeps (w : Generation) (s : State) :
    (queueFetchOnce w s).pending = s.pending ∧ (queueFetchOnce w s).pins = s.pins ∧
    (queueFetchOnce w s).loader = s.loader ∧ (queueFetchOnce w s).link.sending = s.link.sending ∧
    (queueFetchOnce w s).link.isolated = s.link.isolated ∧
    (queueFetchOnce w s).link.isolationTimer = s.link.isolationTimer ∧
    (queueFetchOnce w s).link.conflictReported = s.link.conflictReported ∧
    (queueFetchOnce w s).link.acknowledging = s.link.acknowledging ∧
    (queueFetchOnce w s).cycle.number = s.cycle.number ∧ (queueFetchOnce w s).peers = s.peers ∧
    (queueFetchOnce w s).scene = s.scene ∧ (queueFetchOnce w s).speed.source = s.speed.source ∧
    (queueFetchOnce w s).speed.state = s.speed.state ∧ (queueFetchOnce w s).speed.desired = s.speed.desired ∧
    (queueFetchOnce w s).speed.fallTimer = s.speed.fallTimer ∧ (queueFetchOnce w s).planner = s.planner ∧
    (queueFetchOnce w s).ramps = s.ramps ∧ (queueFetchOnce w s).equaliser = s.equaliser ∧
    (queueFetchOnce w s).protection = s.protection ∧ (queueFetchOnce w s).controller = s.controller ∧
    (queueFetchOnce w s).draws = s.draws := by
  unfold queueFetchOnce; split <;> simp

@[simp] theorem sceneAppliedNotice_keeps (s : State) :
    (sceneAppliedNotice s).pending = s.pending ∧ (sceneAppliedNotice s).pins = s.pins ∧
    (sceneAppliedNotice s).loader = s.loader ∧ (sceneAppliedNotice s).link = s.link ∧
    (sceneAppliedNotice s).cycle = s.cycle ∧ (sceneAppliedNotice s).peers = s.peers ∧
    (sceneAppliedNotice s).scene = s.scene ∧ (sceneAppliedNotice s).speed = s.speed ∧
    (sceneAppliedNotice s).planner.gapSet = s.planner.gapSet ∧
    (sceneAppliedNotice s).planner.gapReview = s.planner.gapReview ∧
    (sceneAppliedNotice s).planner.cut = s.planner.cut ∧
    (sceneAppliedNotice s).planner.settleTimer = s.planner.settleTimer ∧
    (sceneAppliedNotice s).planner.fallReady = s.planner.fallReady ∧
    (sceneAppliedNotice s).planner.duck = s.planner.duck ∧
    (sceneAppliedNotice s).planner.duckTimer = s.planner.duckTimer ∧
    (sceneAppliedNotice s).protection.scan = s.protection.scan ∧
    (sceneAppliedNotice s).protection.readings = s.protection.readings ∧
    (sceneAppliedNotice s).protection.conditions = s.protection.conditions ∧
    (sceneAppliedNotice s).protection.clip = s.protection.clip ∧
    (sceneAppliedNotice s).protection.riseGuard = s.protection.riseGuard ∧
    (sceneAppliedNotice s).protection.clipFall = s.protection.clipFall ∧
    (sceneAppliedNotice s).protection.active = s.protection.active ∧
    (sceneAppliedNotice s).protection.sticky = s.protection.sticky ∧
    (sceneAppliedNotice s).controller = s.controller ∧ (sceneAppliedNotice s).draws = s.draws := by
  simp [sceneAppliedNotice]

@[simp] theorem announce_keeps (s : State) :
    (announce s).pending = s.pending ∧ (announce s).pins = s.pins ∧ (announce s).loader = s.loader ∧
    (announce s).link.sending = s.link.sending ∧ (announce s).link.isolated = s.link.isolated ∧
    (announce s).link.isolationTimer = s.link.isolationTimer ∧
    (announce s).link.conflictReported = s.link.conflictReported ∧
    (announce s).link.acknowledging = s.link.acknowledging ∧ (announce s).cycle.number = s.cycle.number ∧
    (announce s).peers = s.peers ∧ (announce s).scene = s.scene ∧ (announce s).speed.source = s.speed.source ∧
    (announce s).speed.state = s.speed.state ∧ (announce s).speed.desired = s.speed.desired ∧
    (announce s).speed.fallTimer = s.speed.fallTimer ∧ (announce s).planner = s.planner ∧
    (announce s).ramps = s.ramps ∧ (announce s).equaliser = s.equaliser ∧ (announce s).protection = s.protection ∧
    (announce s).controller = s.controller ∧ (announce s).draws = s.draws := by
  unfold announce; split <;> simp

@[simp] theorem stageScene_keeps (c : Scene) (s : State) :
    (stageScene c s).pending = s.pending ∧ (stageScene c s).pins = s.pins ∧ (stageScene c s).loader = s.loader ∧
    (stageScene c s).link = s.link ∧ (stageScene c s).cycle = s.cycle ∧ (stageScene c s).peers = s.peers ∧
    (stageScene c s).speed = s.speed ∧ (stageScene c s).planner = s.planner ∧ (stageScene c s).ramps = s.ramps ∧
    (stageScene c s).protection = s.protection ∧ (stageScene c s).controller = s.controller ∧
    (stageScene c s).draws = s.draws := by
  simp [stageScene]

@[simp] theorem leaveProvisional_keeps (a : AppliedScene) (s : State) :
    (leaveProvisional a s).pending = s.pending ∧ (leaveProvisional a s).pins = s.pins ∧
    (leaveProvisional a s).loader = s.loader ∧ (leaveProvisional a s).link.sending = s.link.sending ∧
    (leaveProvisional a s).link.isolated = s.link.isolated ∧
    (leaveProvisional a s).link.isolationTimer = s.link.isolationTimer ∧
    (leaveProvisional a s).link.conflictReported = s.link.conflictReported ∧
    (leaveProvisional a s).link.acknowledging = s.link.acknowledging ∧
    (leaveProvisional a s).cycle.number = s.cycle.number ∧ (leaveProvisional a s).peers = s.peers ∧
    (leaveProvisional a s).speed.source = s.speed.source ∧ (leaveProvisional a s).speed.state = s.speed.state ∧
    (leaveProvisional a s).speed.desired = s.speed.desired ∧
    (leaveProvisional a s).speed.fallTimer = s.speed.fallTimer ∧
    (leaveProvisional a s).planner.gapSet = s.planner.gapSet ∧
    (leaveProvisional a s).planner.gapReview = s.planner.gapReview ∧
    (leaveProvisional a s).planner.cut = s.planner.cut ∧
    (leaveProvisional a s).planner.settleTimer = s.planner.settleTimer ∧
    (leaveProvisional a s).planner.fallReady = s.planner.fallReady ∧
    (leaveProvisional a s).planner.duck = s.planner.duck ∧
    (leaveProvisional a s).planner.duckTimer = s.planner.duckTimer ∧
    (leaveProvisional a s).protection.scan = s.protection.scan ∧
    (leaveProvisional a s).protection.readings = s.protection.readings ∧
    (leaveProvisional a s).protection.conditions = s.protection.conditions ∧
    (leaveProvisional a s).protection.clip = s.protection.clip ∧
    (leaveProvisional a s).protection.riseGuard = s.protection.riseGuard ∧
    (leaveProvisional a s).protection.clipFall = s.protection.clipFall ∧
    (leaveProvisional a s).protection.active = s.protection.active ∧
    (leaveProvisional a s).protection.sticky = s.protection.sticky ∧
    (leaveProvisional a s).controller = s.controller ∧ (leaveProvisional a s).draws = s.draws := by
  simp [leaveProvisional]

@[simp] theorem leaveResync_keeps (s : State) :
    (leaveResync s).pending = s.pending ∧ (leaveResync s).pins = s.pins ∧ (leaveResync s).loader = s.loader ∧
    (leaveResync s).link = s.link ∧ (leaveResync s).cycle = s.cycle ∧ (leaveResync s).peers = s.peers ∧
    (leaveResync s).speed = s.speed ∧ (leaveResync s).planner = s.planner ∧ (leaveResync s).ramps = s.ramps ∧
    (leaveResync s).equaliser = s.equaliser ∧ (leaveResync s).protection = s.protection ∧
    (leaveResync s).controller = s.controller ∧ (leaveResync s).draws = s.draws := by
  simp [leaveResync]

@[simp] theorem fetchAfresh_keeps (w : Generation) (s : State) :
    (fetchAfresh w s).pending = s.pending ∧ (fetchAfresh w s).pins = s.pins ∧ (fetchAfresh w s).loader = s.loader ∧
    (fetchAfresh w s).link.sending = s.link.sending ∧ (fetchAfresh w s).link.isolated = s.link.isolated ∧
    (fetchAfresh w s).link.isolationTimer = s.link.isolationTimer ∧
    (fetchAfresh w s).link.conflictReported = s.link.conflictReported ∧
    (fetchAfresh w s).link.acknowledging = s.link.acknowledging ∧ (fetchAfresh w s).cycle.number = s.cycle.number ∧
    (fetchAfresh w s).peers = s.peers ∧ (fetchAfresh w s).speed.source = s.speed.source ∧
    (fetchAfresh w s).speed.state = s.speed.state ∧ (fetchAfresh w s).speed.desired = s.speed.desired ∧
    (fetchAfresh w s).speed.fallTimer = s.speed.fallTimer ∧ (fetchAfresh w s).planner = s.planner ∧
    (fetchAfresh w s).ramps = s.ramps ∧ (fetchAfresh w s).equaliser = s.equaliser ∧
    (fetchAfresh w s).protection = s.protection ∧ (fetchAfresh w s).controller = s.controller ∧
    (fetchAfresh w s).draws = s.draws := by
  simp [fetchAfresh]

@[simp] theorem enterResync_keeps (w : Generation) (s : State) :
    (enterResync w s).pending = s.pending ∧ (enterResync w s).pins = s.pins ∧ (enterResync w s).loader = s.loader ∧
    (enterResync w s).link.sending = s.link.sending ∧ (enterResync w s).link.isolated = s.link.isolated ∧
    (enterResync w s).link.isolationTimer = s.link.isolationTimer ∧
    (enterResync w s).link.conflictReported = s.link.conflictReported ∧
    (enterResync w s).link.acknowledging = s.link.acknowledging ∧ (enterResync w s).cycle.number = s.cycle.number ∧
    (enterResync w s).peers = s.peers ∧ (enterResync w s).speed.source = s.speed.source ∧
    (enterResync w s).speed.state = s.speed.state ∧ (enterResync w s).speed.desired = s.speed.desired ∧
    (enterResync w s).speed.fallTimer = s.speed.fallTimer ∧ (enterResync w s).planner = s.planner ∧
    (enterResync w s).ramps = s.ramps ∧ (enterResync w s).equaliser = s.equaliser ∧
    (enterResync w s).protection = s.protection ∧ (enterResync w s).controller = s.controller ∧
    (enterResync w s).draws = s.draws := by
  simp [enterResync]

@[simp] theorem refuseOffer_keeps (s : State) :
    (refuseOffer s).pending = s.pending ∧ (refuseOffer s).pins = s.pins ∧ (refuseOffer s).loader = s.loader ∧
    (refuseOffer s).link.waiting = s.link.waiting ∧ (refuseOffer s).link.sending = s.link.sending ∧
    (refuseOffer s).link.nextStamp = s.link.nextStamp ∧ (refuseOffer s).link.isolated = s.link.isolated ∧
    (refuseOffer s).link.isolationTimer = s.link.isolationTimer ∧
    (refuseOffer s).link.conflictReported = s.link.conflictReported ∧
    (refuseOffer s).link.acknowledging = s.link.acknowledging ∧ (refuseOffer s).cycle = s.cycle ∧
    (refuseOffer s).peers = s.peers ∧ (refuseOffer s).scene = s.scene ∧ (refuseOffer s).speed = s.speed ∧
    (refuseOffer s).planner = s.planner ∧ (refuseOffer s).ramps = s.ramps ∧
    (refuseOffer s).equaliser = s.equaliser ∧ (refuseOffer s).protection = s.protection ∧
    (refuseOffer s).controller = s.controller ∧ (refuseOffer s).draws = s.draws := by
  simp [refuseOffer, State.count]

@[simp] theorem measureOffer_keeps (n : Station) (o : Offer) (s : State) :
    (measureOffer n o s).pending = s.pending ∧ (measureOffer n o s).pins = s.pins ∧
    (measureOffer n o s).loader = s.loader ∧ (measureOffer n o s).link.sending = s.link.sending ∧
    (measureOffer n o s).link.isolated = s.link.isolated ∧
    (measureOffer n o s).link.isolationTimer = s.link.isolationTimer ∧
    (measureOffer n o s).link.conflictReported = s.link.conflictReported ∧
    (measureOffer n o s).link.acknowledging = s.link.acknowledging ∧
    (measureOffer n o s).cycle.number = s.cycle.number ∧ (measureOffer n o s).peers = s.peers ∧
    (measureOffer n o s).speed.source = s.speed.source ∧ (measureOffer n o s).speed.state = s.speed.state ∧
    (measureOffer n o s).speed.desired = s.speed.desired ∧
    (measureOffer n o s).speed.fallTimer = s.speed.fallTimer ∧ (measureOffer n o s).planner = s.planner ∧
    (measureOffer n o s).ramps = s.ramps ∧ (measureOffer n o s).equaliser = s.equaliser ∧
    (measureOffer n o s).protection = s.protection ∧ (measureOffer n o s).controller = s.controller ∧
    (measureOffer n o s).draws = s.draws := by
  unfold measureOffer; repeat' split
  all_goals simp [State.count]

@[simp] theorem takeOffer_keeps (n : Station) (o : Offer) (s : State) :
    (takeOffer n o s).pending = s.pending ∧ (takeOffer n o s).pins = s.pins ∧ (takeOffer n o s).loader = s.loader ∧
    (takeOffer n o s).link.sending = s.link.sending ∧ (takeOffer n o s).link.isolated = s.link.isolated ∧
    (takeOffer n o s).link.isolationTimer = s.link.isolationTimer ∧
    (takeOffer n o s).link.conflictReported = s.link.conflictReported ∧
    (takeOffer n o s).link.acknowledging = s.link.acknowledging ∧ (takeOffer n o s).cycle.number = s.cycle.number ∧
    (takeOffer n o s).peers = s.peers ∧ (takeOffer n o s).speed.source = s.speed.source ∧
    (takeOffer n o s).speed.state = s.speed.state ∧ (takeOffer n o s).speed.desired = s.speed.desired ∧
    (takeOffer n o s).speed.fallTimer = s.speed.fallTimer ∧ (takeOffer n o s).planner = s.planner ∧
    (takeOffer n o s).ramps = s.ramps ∧ (takeOffer n o s).equaliser = s.equaliser ∧
    (takeOffer n o s).protection = s.protection ∧ (takeOffer n o s).controller = s.controller ∧
    (takeOffer n o s).draws = s.draws := by
  unfold takeOffer; repeat' split
  all_goals simp

@[simp] theorem settleConflict_keeps (c : Scene) (s : State) :
    (settleConflict c s).pending = s.pending ∧ (settleConflict c s).pins = s.pins ∧
    (settleConflict c s).loader = s.loader ∧ (settleConflict c s).link = s.link ∧
    (settleConflict c s).cycle = s.cycle ∧ (settleConflict c s).peers = s.peers ∧
    (settleConflict c s).speed = s.speed ∧ (settleConflict c s).planner = s.planner ∧
    (settleConflict c s).ramps = s.ramps ∧ (settleConflict c s).protection = s.protection ∧
    (settleConflict c s).controller = s.controller ∧ (settleConflict c s).draws = s.draws := by
  unfold settleConflict; split <;> simp

@[simp] theorem resyncStage_keeps (c : Scene) (s : State) :
    (resyncStage c s).pending = s.pending ∧ (resyncStage c s).pins = s.pins ∧ (resyncStage c s).loader = s.loader ∧
    (resyncStage c s).link = s.link ∧ (resyncStage c s).cycle = s.cycle ∧ (resyncStage c s).peers = s.peers ∧
    (resyncStage c s).speed = s.speed ∧ (resyncStage c s).planner = s.planner ∧ (resyncStage c s).ramps = s.ramps ∧
    (resyncStage c s).protection = s.protection ∧ (resyncStage c s).controller = s.controller ∧
    (resyncStage c s).draws = s.draws := by
  unfold resyncStage; repeat' split
  all_goals simp

@[simp] theorem withdrawScene_keeps (c : Scene) (s : State) :
    (withdrawScene c s).pending = s.pending ∧ (withdrawScene c s).pins = s.pins ∧
    (withdrawScene c s).loader = s.loader ∧ (withdrawScene c s).link.sending = s.link.sending ∧
    (withdrawScene c s).link.nextStamp = s.link.nextStamp ∧ (withdrawScene c s).link.counters = s.link.counters ∧
    (withdrawScene c s).link.isolated = s.link.isolated ∧
    (withdrawScene c s).link.isolationTimer = s.link.isolationTimer ∧
    (withdrawScene c s).link.conflictReported = s.link.conflictReported ∧
    (withdrawScene c s).link.acknowledging = s.link.acknowledging ∧ (withdrawScene c s).cycle = s.cycle ∧
    (withdrawScene c s).peers = s.peers ∧ (withdrawScene c s).scene = s.scene ∧
    (withdrawScene c s).speed = s.speed ∧ (withdrawScene c s).planner = s.planner ∧
    (withdrawScene c s).ramps = s.ramps ∧ (withdrawScene c s).equaliser = s.equaliser ∧
    (withdrawScene c s).protection = s.protection ∧ (withdrawScene c s).controller = s.controller ∧
    (withdrawScene c s).draws = s.draws := by
  simp [withdrawScene, Link.withdraw]

@[simp] theorem takeScene_keeps (c : Scene) (s : State) :
    (takeScene c s).pending = s.pending ∧ (takeScene c s).pins = s.pins ∧ (takeScene c s).loader = s.loader ∧
    (takeScene c s).link.sending = s.link.sending ∧ (takeScene c s).link.isolated = s.link.isolated ∧
    (takeScene c s).link.isolationTimer = s.link.isolationTimer ∧
    (takeScene c s).link.conflictReported = s.link.conflictReported ∧
    (takeScene c s).link.acknowledging = s.link.acknowledging ∧ (takeScene c s).cycle.number = s.cycle.number ∧
    (takeScene c s).peers = s.peers ∧ (takeScene c s).speed.source = s.speed.source ∧
    (takeScene c s).speed.state = s.speed.state ∧ (takeScene c s).speed.desired = s.speed.desired ∧
    (takeScene c s).speed.fallTimer = s.speed.fallTimer ∧ (takeScene c s).planner.gapSet = s.planner.gapSet ∧
    (takeScene c s).planner.gapReview = s.planner.gapReview ∧ (takeScene c s).planner.cut = s.planner.cut ∧
    (takeScene c s).planner.settleTimer = s.planner.settleTimer ∧
    (takeScene c s).planner.fallReady = s.planner.fallReady ∧ (takeScene c s).planner.duck = s.planner.duck ∧
    (takeScene c s).planner.duckTimer = s.planner.duckTimer ∧ (takeScene c s).protection.scan = s.protection.scan ∧
    (takeScene c s).protection.readings = s.protection.readings ∧
    (takeScene c s).protection.conditions = s.protection.conditions ∧
    (takeScene c s).protection.clip = s.protection.clip ∧
    (takeScene c s).protection.riseGuard = s.protection.riseGuard ∧
    (takeScene c s).protection.clipFall = s.protection.clipFall ∧
    (takeScene c s).protection.active = s.protection.active ∧
    (takeScene c s).protection.sticky = s.protection.sticky ∧ (takeScene c s).controller = s.controller ∧
    (takeScene c s).draws = s.draws := by
  unfold takeScene; dsimp only; repeat' split
  all_goals simp

@[simp] theorem takeFetch_keeps (w : Option Generation) (s : State) :
    (takeFetch w s).pending = s.pending ∧ (takeFetch w s).pins = s.pins ∧ (takeFetch w s).loader = s.loader ∧
    (takeFetch w s).link.sending = s.link.sending ∧ (takeFetch w s).link.isolated = s.link.isolated ∧
    (takeFetch w s).link.isolationTimer = s.link.isolationTimer ∧
    (takeFetch w s).link.conflictReported = s.link.conflictReported ∧
    (takeFetch w s).link.acknowledging = s.link.acknowledging ∧ (takeFetch w s).cycle.number = s.cycle.number ∧
    (takeFetch w s).peers = s.peers ∧ (takeFetch w s).scene = s.scene ∧
    (takeFetch w s).speed.source = s.speed.source ∧ (takeFetch w s).speed.state = s.speed.state ∧
    (takeFetch w s).speed.desired = s.speed.desired ∧ (takeFetch w s).speed.fallTimer = s.speed.fallTimer ∧
    (takeFetch w s).planner = s.planner ∧ (takeFetch w s).ramps = s.ramps ∧
    (takeFetch w s).equaliser = s.equaliser ∧ (takeFetch w s).protection = s.protection ∧
    (takeFetch w s).controller = s.controller ∧ (takeFetch w s).draws = s.draws := by
  unfold takeFetch; repeat' split
  all_goals simp

@[simp] theorem reportInAgreed_keeps (g : Generation) (d : Digest) (s : State) :
    (reportInAgreed g d s).pending = s.pending ∧ (reportInAgreed g d s).pins = s.pins ∧
    (reportInAgreed g d s).loader = s.loader ∧ (reportInAgreed g d s).link.sending = s.link.sending ∧
    (reportInAgreed g d s).link.isolated = s.link.isolated ∧
    (reportInAgreed g d s).link.isolationTimer = s.link.isolationTimer ∧
    (reportInAgreed g d s).link.conflictReported = s.link.conflictReported ∧
    (reportInAgreed g d s).link.acknowledging = s.link.acknowledging ∧
    (reportInAgreed g d s).cycle.number = s.cycle.number ∧ (reportInAgreed g d s).peers = s.peers ∧
    (reportInAgreed g d s).speed.source = s.speed.source ∧ (reportInAgreed g d s).speed.state = s.speed.state ∧
    (reportInAgreed g d s).speed.desired = s.speed.desired ∧
    (reportInAgreed g d s).speed.fallTimer = s.speed.fallTimer ∧ (reportInAgreed g d s).planner = s.planner ∧
    (reportInAgreed g d s).ramps = s.ramps ∧ (reportInAgreed g d s).equaliser = s.equaliser ∧
    (reportInAgreed g d s).protection = s.protection ∧ (reportInAgreed g d s).controller = s.controller ∧
    (reportInAgreed g d s).draws = s.draws := by
  unfold reportInAgreed; dsimp only; repeat' split
  all_goals simp

@[simp] theorem reportInResync_keeps (g : Generation) (s : State) :
    (reportInResync g s).pending = s.pending ∧ (reportInResync g s).pins = s.pins ∧
    (reportInResync g s).loader = s.loader ∧ (reportInResync g s).link.sending = s.link.sending ∧
    (reportInResync g s).link.isolated = s.link.isolated ∧
    (reportInResync g s).link.isolationTimer = s.link.isolationTimer ∧
    (reportInResync g s).link.conflictReported = s.link.conflictReported ∧
    (reportInResync g s).link.acknowledging = s.link.acknowledging ∧
    (reportInResync g s).cycle.number = s.cycle.number ∧ (reportInResync g s).peers = s.peers ∧
    (reportInResync g s).speed.source = s.speed.source ∧ (reportInResync g s).speed.state = s.speed.state ∧
    (reportInResync g s).speed.desired = s.speed.desired ∧
    (reportInResync g s).speed.fallTimer = s.speed.fallTimer ∧ (reportInResync g s).planner = s.planner ∧
    (reportInResync g s).ramps = s.ramps ∧ (reportInResync g s).equaliser = s.equaliser ∧
    (reportInResync g s).protection = s.protection ∧ (reportInResync g s).controller = s.controller ∧
    (reportInResync g s).draws = s.draws := by
  unfold reportInResync; repeat' split
  all_goals simp

@[simp] theorem takeReport_keeps (g : Generation) (d : Digest) (s : State) :
    (takeReport g d s).pending = s.pending ∧ (takeReport g d s).pins = s.pins ∧
    (takeReport g d s).loader = s.loader ∧ (takeReport g d s).link.sending = s.link.sending ∧
    (takeReport g d s).link.isolated = s.link.isolated ∧
    (takeReport g d s).link.isolationTimer = s.link.isolationTimer ∧
    (takeReport g d s).link.conflictReported = s.link.conflictReported ∧
    (takeReport g d s).link.acknowledging = s.link.acknowledging ∧
    (takeReport g d s).cycle.number = s.cycle.number ∧ (takeReport g d s).peers = s.peers ∧
    (takeReport g d s).speed.source = s.speed.source ∧ (takeReport g d s).speed.state = s.speed.state ∧
    (takeReport g d s).speed.desired = s.speed.desired ∧ (takeReport g d s).speed.fallTimer = s.speed.fallTimer ∧
    (takeReport g d s).planner = s.planner ∧ (takeReport g d s).ramps = s.ramps ∧
    (takeReport g d s).equaliser = s.equaliser ∧ (takeReport g d s).protection = s.protection ∧
    (takeReport g d s).controller = s.controller ∧ (takeReport g d s).draws = s.draws := by
  unfold takeReport; repeat' split
  all_goals simp

@[simp] theorem joinWindowEnds_keeps (s : State) :
    (joinWindowEnds s).pending = s.pending ∧ (joinWindowEnds s).pins = s.pins ∧
    (joinWindowEnds s).loader = s.loader ∧ (joinWindowEnds s).link.sending = s.link.sending ∧
    (joinWindowEnds s).link.isolated = s.link.isolated ∧
    (joinWindowEnds s).link.isolationTimer = s.link.isolationTimer ∧
    (joinWindowEnds s).link.conflictReported = s.link.conflictReported ∧
    (joinWindowEnds s).link.acknowledging = s.link.acknowledging ∧
    (joinWindowEnds s).cycle.number = s.cycle.number ∧ (joinWindowEnds s).peers = s.peers ∧
    (joinWindowEnds s).speed.source = s.speed.source ∧ (joinWindowEnds s).speed.state = s.speed.state ∧
    (joinWindowEnds s).speed.desired = s.speed.desired ∧ (joinWindowEnds s).speed.fallTimer = s.speed.fallTimer ∧
    (joinWindowEnds s).planner.gapSet = s.planner.gapSet ∧
    (joinWindowEnds s).planner.gapReview = s.planner.gapReview ∧ (joinWindowEnds s).planner.cut = s.planner.cut ∧
    (joinWindowEnds s).planner.settleTimer = s.planner.settleTimer ∧
    (joinWindowEnds s).planner.fallReady = s.planner.fallReady ∧ (joinWindowEnds s).planner.duck = s.planner.duck ∧
    (joinWindowEnds s).planner.duckTimer = s.planner.duckTimer ∧
    (joinWindowEnds s).protection.scan = s.protection.scan ∧
    (joinWindowEnds s).protection.readings = s.protection.readings ∧
    (joinWindowEnds s).protection.conditions = s.protection.conditions ∧
    (joinWindowEnds s).protection.clip = s.protection.clip ∧
    (joinWindowEnds s).protection.riseGuard = s.protection.riseGuard ∧
    (joinWindowEnds s).protection.clipFall = s.protection.clipFall ∧
    (joinWindowEnds s).protection.active = s.protection.active ∧
    (joinWindowEnds s).protection.sticky = s.protection.sticky ∧ (joinWindowEnds s).controller = s.controller ∧
    (joinWindowEnds s).draws = s.draws := by
  unfold joinWindowEnds; split <;> simp

@[simp] theorem fetchTimerEnds_keeps (s : State) :
    (fetchTimerEnds s).pending = s.pending ∧ (fetchTimerEnds s).pins = s.pins ∧
    (fetchTimerEnds s).loader = s.loader ∧ (fetchTimerEnds s).link.sending = s.link.sending ∧
    (fetchTimerEnds s).link.isolated = s.link.isolated ∧
    (fetchTimerEnds s).link.isolationTimer = s.link.isolationTimer ∧
    (fetchTimerEnds s).link.conflictReported = s.link.conflictReported ∧
    (fetchTimerEnds s).link.acknowledging = s.link.acknowledging ∧
    (fetchTimerEnds s).cycle.number = s.cycle.number ∧ (fetchTimerEnds s).peers = s.peers ∧
    (fetchTimerEnds s).speed.source = s.speed.source ∧ (fetchTimerEnds s).speed.state = s.speed.state ∧
    (fetchTimerEnds s).speed.desired = s.speed.desired ∧ (fetchTimerEnds s).speed.fallTimer = s.speed.fallTimer ∧
    (fetchTimerEnds s).planner = s.planner ∧ (fetchTimerEnds s).ramps = s.ramps ∧
    (fetchTimerEnds s).equaliser = s.equaliser ∧ (fetchTimerEnds s).protection = s.protection ∧
    (fetchTimerEnds s).controller = s.controller ∧ (fetchTimerEnds s).draws = s.draws := by
  unfold fetchTimerEnds; repeat' split
  all_goals simp [State.count]

@[simp] theorem applyStaged_keeps (s : State) :
    (applyStaged s).pending = s.pending ∧ (applyStaged s).pins = s.pins ∧ (applyStaged s).loader = s.loader ∧
    (applyStaged s).link.sending = s.link.sending ∧ (applyStaged s).link.isolated = s.link.isolated ∧
    (applyStaged s).link.isolationTimer = s.link.isolationTimer ∧
    (applyStaged s).link.conflictReported = s.link.conflictReported ∧
    (applyStaged s).link.acknowledging = s.link.acknowledging ∧ (applyStaged s).cycle.number = s.cycle.number ∧
    (applyStaged s).peers = s.peers ∧ (applyStaged s).speed.source = s.speed.source ∧
    (applyStaged s).speed.state = s.speed.state ∧ (applyStaged s).speed.desired = s.speed.desired ∧
    (applyStaged s).speed.fallTimer = s.speed.fallTimer ∧ (applyStaged s).planner.gapSet = s.planner.gapSet ∧
    (applyStaged s).planner.gapReview = s.planner.gapReview ∧ (applyStaged s).planner.cut = s.planner.cut ∧
    (applyStaged s).planner.settleTimer = s.planner.settleTimer ∧
    (applyStaged s).planner.fallReady = s.planner.fallReady ∧ (applyStaged s).planner.duck = s.planner.duck ∧
    (applyStaged s).planner.duckTimer = s.planner.duckTimer ∧ (applyStaged s).protection.scan = s.protection.scan ∧
    (applyStaged s).protection.readings = s.protection.readings ∧
    (applyStaged s).protection.conditions = s.protection.conditions ∧
    (applyStaged s).protection.clip = s.protection.clip ∧
    (applyStaged s).protection.riseGuard = s.protection.riseGuard ∧
    (applyStaged s).protection.clipFall = s.protection.clipFall ∧
    (applyStaged s).protection.active = s.protection.active ∧
    (applyStaged s).protection.sticky = s.protection.sticky ∧ (applyStaged s).controller = s.controller ∧
    (applyStaged s).draws = s.draws := by
  unfold applyStaged; split <;> simp

@[simp] theorem stagePending_keeps (s : State) :
    (stagePending s).pending = s.pending ∧ (stagePending s).pins = s.pins ∧ (stagePending s).loader = s.loader ∧
    (stagePending s).link = s.link ∧ (stagePending s).cycle = s.cycle ∧ (stagePending s).peers = s.peers ∧
    (stagePending s).speed = s.speed ∧ (stagePending s).planner = s.planner ∧ (stagePending s).ramps = s.ramps ∧
    (stagePending s).protection = s.protection ∧ (stagePending s).controller = s.controller ∧
    (stagePending s).draws = s.draws := by
  unfold stagePending; repeat' split
  all_goals simp

@[simp] theorem resyncAtMark_keeps (s : State) :
    (resyncAtMark s).pending = s.pending ∧ (resyncAtMark s).pins = s.pins ∧ (resyncAtMark s).loader = s.loader ∧
    (resyncAtMark s).link = s.link ∧ (resyncAtMark s).cycle = s.cycle ∧ (resyncAtMark s).peers = s.peers ∧
    (resyncAtMark s).speed = s.speed ∧ (resyncAtMark s).planner = s.planner ∧ (resyncAtMark s).ramps = s.ramps ∧
    (resyncAtMark s).equaliser = s.equaliser ∧ (resyncAtMark s).protection = s.protection ∧
    (resyncAtMark s).controller = s.controller ∧ (resyncAtMark s).draws = s.draws := by
  unfold resyncAtMark; repeat' split
  all_goals simp

@[simp] theorem bankMark_keeps (s : State) :
    (bankMark s).pending = s.pending ∧ (bankMark s).pins = s.pins ∧ (bankMark s).loader = s.loader ∧
    (bankMark s).link = s.link ∧ (bankMark s).cycle = s.cycle ∧ (bankMark s).peers = s.peers ∧
    (bankMark s).scene = s.scene ∧ (bankMark s).speed = s.speed ∧ (bankMark s).planner = s.planner ∧
    (bankMark s).ramps = s.ramps ∧ (bankMark s).protection = s.protection ∧ (bankMark s).controller = s.controller ∧
    (bankMark s).draws = s.draws := by
  simp [bankMark]

@[simp] theorem markEvent_keeps (o : MarkOrder) (s : State) :
    (markEvent o s).pending = s.pending ∧ (markEvent o s).pins = s.pins ∧ (markEvent o s).loader = s.loader ∧
    (markEvent o s).link.sending = s.link.sending ∧ (markEvent o s).link.isolated = s.link.isolated ∧
    (markEvent o s).link.isolationTimer = s.link.isolationTimer ∧
    (markEvent o s).link.conflictReported = s.link.conflictReported ∧
    (markEvent o s).link.acknowledging = s.link.acknowledging ∧ (markEvent o s).cycle.number = s.cycle.number ∧
    (markEvent o s).peers = s.peers ∧ (markEvent o s).speed.source = s.speed.source ∧
    (markEvent o s).speed.state = s.speed.state ∧ (markEvent o s).speed.desired = s.speed.desired ∧
    (markEvent o s).speed.fallTimer = s.speed.fallTimer ∧
    (markEvent o s).planner.settleTimer = s.planner.settleTimer ∧ (markEvent o s).planner.duck = s.planner.duck ∧
    (markEvent o s).planner.duckTimer = s.planner.duckTimer ∧ (markEvent o s).protection.scan = s.protection.scan ∧
    (markEvent o s).protection.readings = s.protection.readings ∧
    (markEvent o s).protection.conditions = s.protection.conditions ∧
    (markEvent o s).protection.clip = s.protection.clip ∧
    (markEvent o s).protection.riseGuard = s.protection.riseGuard ∧
    (markEvent o s).protection.clipFall = s.protection.clipFall ∧
    (markEvent o s).protection.active = s.protection.active ∧
    (markEvent o s).protection.sticky = s.protection.sticky ∧ (markEvent o s).controller = s.controller ∧
    (markEvent o s).draws = s.draws := by
  simp [markEvent, inTurn]; repeat' split
  all_goals simp

@[simp] theorem watchOffer_keeps (o : Offer) (s : State) :
    (watchOffer o s).pending = s.pending ∧ (watchOffer o s).pins = s.pins ∧ (watchOffer o s).loader = s.loader ∧
    (watchOffer o s).link.sending = s.link.sending ∧ (watchOffer o s).link.isolated = s.link.isolated ∧
    (watchOffer o s).link.isolationTimer = s.link.isolationTimer ∧
    (watchOffer o s).link.conflictReported = s.link.conflictReported ∧
    (watchOffer o s).link.acknowledging = s.link.acknowledging ∧ (watchOffer o s).cycle.number = s.cycle.number ∧
    (watchOffer o s).peers = s.peers ∧ (watchOffer o s).scene = s.scene ∧
    (watchOffer o s).speed.source = s.speed.source ∧ (watchOffer o s).speed.state = s.speed.state ∧
    (watchOffer o s).speed.desired = s.speed.desired ∧ (watchOffer o s).speed.fallTimer = s.speed.fallTimer ∧
    (watchOffer o s).planner = s.planner ∧ (watchOffer o s).ramps = s.ramps ∧
    (watchOffer o s).equaliser = s.equaliser ∧ (watchOffer o s).protection = s.protection ∧
    (watchOffer o s).controller = s.controller ∧ (watchOffer o s).draws = s.draws := by
  unfold watchOffer; split <;> simp [Link.withdraw]

@[simp] theorem takeSpeed_keeps (n : Station) (v : Nat) (b : Bool) (s : State) :
    (takeSpeed n v b s).pending = s.pending ∧ (takeSpeed n v b s).pins = s.pins ∧
    (takeSpeed n v b s).loader = s.loader ∧ (takeSpeed n v b s).link.sending = s.link.sending ∧
    (takeSpeed n v b s).link.isolated = s.link.isolated ∧
    (takeSpeed n v b s).link.isolationTimer = s.link.isolationTimer ∧
    (takeSpeed n v b s).link.conflictReported = s.link.conflictReported ∧
    (takeSpeed n v b s).link.acknowledging = s.link.acknowledging ∧
    (takeSpeed n v b s).cycle.number = s.cycle.number ∧ (takeSpeed n v b s).peers = s.peers ∧
    (takeSpeed n v b s).scene = s.scene ∧ (takeSpeed n v b s).planner = s.planner ∧
    (takeSpeed n v b s).ramps = s.ramps ∧ (takeSpeed n v b s).equaliser = s.equaliser ∧
    (takeSpeed n v b s).protection = s.protection ∧ (takeSpeed n v b s).controller = s.controller ∧
    (takeSpeed n v b s).draws = s.draws := by
  unfold takeSpeed; split <;> simp [SpeedUnit.taken]

@[simp] theorem checkIfChanged_keeps (k : Nat) (s : State) :
    (checkIfChanged k s).pending = s.pending ∧ (checkIfChanged k s).pins = s.pins ∧
    (checkIfChanged k s).loader = s.loader ∧ (checkIfChanged k s).link.sending = s.link.sending ∧
    (checkIfChanged k s).link.isolated = s.link.isolated ∧
    (checkIfChanged k s).link.isolationTimer = s.link.isolationTimer ∧
    (checkIfChanged k s).link.conflictReported = s.link.conflictReported ∧
    (checkIfChanged k s).link.acknowledging = s.link.acknowledging ∧
    (checkIfChanged k s).cycle.number = s.cycle.number ∧ (checkIfChanged k s).peers = s.peers ∧
    (checkIfChanged k s).scene = s.scene ∧ (checkIfChanged k s).speed.source = s.speed.source ∧
    (checkIfChanged k s).speed.state = s.speed.state ∧ (checkIfChanged k s).speed.desired = s.speed.desired ∧
    (checkIfChanged k s).speed.fallTimer = s.speed.fallTimer ∧ (checkIfChanged k s).planner = s.planner ∧
    (checkIfChanged k s).ramps = s.ramps ∧ (checkIfChanged k s).equaliser = s.equaliser ∧
    (checkIfChanged k s).protection = s.protection ∧ (checkIfChanged k s).controller = s.controller ∧
    (checkIfChanged k s).draws = s.draws := by
  unfold checkIfChanged; split <;> simp

end Sys2Proof.Machine
end

