-- ==== Sys2Proof/Laws/Ages.lean ====
section
/-! SUPPORT. The comparison of the greatest demand with the cabin cut, the loss of a peer, and the age of the speed source. -/

namespace Sys2Proof.Machine

@[simp] theorem reviewDemand_demands (s : State) :
    ownDemand (reviewDemand s) = ownDemand s ∧ cutMode (reviewDemand s) = cutMode s ∧
    greatestDemand (reviewDemand s) = greatestDemand s := by
  simp [greatestDemand, ownDemand, thermalContribution, sagContribution, cutMode]

/-- A greatest demand above the cabin cut becomes the cut at once, and an equal one ends a fall that was coming (R99, R100). -/
theorem reviewDemand_rises {s : State} (h : s.planner.cut ≤ greatestDemand s) :
    (reviewDemand s).planner.cut = greatestDemand s ∧ (reviewDemand s).planner.settleTimer = none ∧
    (reviewDemand s).planner.fallReady = false := by
  unfold reviewDemand; dsimp only
  split
  · simp
  · next hlt =>
    have : greatestDemand s = s.planner.cut := by omega
    simp [this]

/-- A greatest demand below the cabin cut leaves the cut, and has the settle timer run unless a fall is coming (R100). -/
theorem reviewDemand_settles {s : State} (h : greatestDemand s < s.planner.cut) :
    reviewDemand s = { s with planner := { s.planner with
      settleTimer := if s.planner.settleTimer = none ∧ s.planner.fallReady = false then some 2000 else s.planner.settleTimer } } := by
  have h1 : ¬s.planner.cut < greatestDemand s := by omega
  have h2 : greatestDemand s ≠ s.planner.cut := by omega
  unfold reviewDemand; dsimp only
  rw [if_neg h1, if_neg h2]
  split <;> rfl

/-- A peer that is LOST writes its entry and asks for a gap review; a zone entry has the demand compared (R64, R68, R69, R71). -/
theorem peerIsLost_writes (n : Station) (r : Report) (age : Nat) (s : State) :
    peerIsLost n r age s =
      if r.kind = .zone then reviewDemand (askGapReview (s.setPeer n (.known .lost r age)))
      else askGapReview (s.setPeer n (.known .lost r age)) := rfl

/-- The end of the fall timer keeps the source, its state and the offer's timer and mark (R79). -/
@[simp] theorem SpeedUnit.falls_keeps (policy : StalePolicy) (u : SpeedUnit) :
    (u.falls policy).source = u.source ∧ (u.falls policy).state = u.state ∧
    (u.falls policy).spacingTimer = u.spacingTimer ∧ (u.falls policy).offerWaiting = u.offerWaiting := by
  unfold SpeedUnit.falls; split <;> simp

/-- A policy other than FALL leaves the desired step (R79). -/
theorem SpeedUnit.falls_of_ne_fall {policy : StalePolicy} (u : SpeedUnit) (h : policy ≠ .fall) :
    u.falls policy = { u with fallTimer := none } := by
  cases policy <;> first | rfl | exact absurd rfl h

/-- A source is old when it is FRESH and its age has come to 500 ms (R78). -/
theorem SpeedUnit.isOld_iff (u : SpeedUnit) :
    u.isOld = true ↔ ∃ r, u.source = some r ∧ u.state = .fresh ∧ 2000 ≤ r.age := by
  unfold SpeedUnit.isOld
  cases u.source with
  | none => simp
  | some r =>
    simp only [Bool.and_eq_true, decide_eq_true_eq, Option.some.injEq, exists_eq_left']
    exact Iff.rfl

end Sys2Proof.Machine
end

