-- ==== Sys2Proof/Laws/Queue.lean ====
section
/-! SUPPORT. The lists of the transmit queue: insertion, replacement, and the frame that is displaced (R167, R168). -/

namespace Sys2Proof.Machine

/-- Every kind has a class rank of its own (R177). -/
@[simp] theorem kindOfRank_classRank (k : FrameKind) : kindOfRank (classRank k) = some k := by cases k <;> rfl

theorem classRank_le (k : FrameKind) : classRank k ≤ 10 := by cases k <;> decide

/-- A frame takes one place and no other frame leaves (R167). -/
theorem insertFrame_perm (f : QueuedFrame) (l : List QueuedFrame) : (insertFrame f l).Perm (f :: l) := by
  induction l with
  | nil => exact List.Perm.refl _
  | cons g rest ih =>
    unfold insertFrame; split
    · exact (ih.cons g).trans (List.Perm.swap f g rest)
    · exact List.Perm.refl _

theorem insertFrame_length (f : QueuedFrame) (l : List QueuedFrame) : (insertFrame f l).length = l.length + 1 := by
  simpa using (insertFrame_perm f l).length_eq

theorem mem_insertFrame {f g : QueuedFrame} {l : List QueuedFrame} : g ∈ insertFrame f l ↔ g = f ∨ g ∈ l := by
  rw [(insertFrame_perm f l).mem_iff, List.mem_cons]

theorem replacedBy_kind {new old : FrameBody} (h : replacedBy new old = true) : new.kind = old.kind := by
  cases new <;> cases old <;> first | rfl | (simp [replacedBy] at h)

theorem sharesPlace_kind {a b : FrameBody} (h : a.sharesPlace b = true) : a.kind = b.kind := by
  cases a <;> cases b <;> first | rfl | (simp [FrameBody.sharesPlace] at h)

/-- A replacement changes no kind and no number of frames (R167). -/
theorem replaceIn_kinds {new : FrameBody} {l l' : List QueuedFrame} (h : replaceIn new l = some l') :
    l'.map (fun f => f.body.kind) = l.map fun f => f.body.kind := by
  induction l generalizing l' with
  | nil => simp [replaceIn] at h
  | cons f rest ih =>
    unfold replaceIn at h
    split at h
    next hr => cases h; simp [replacedBy_kind hr]
    next =>
      split at h
      · simp at h
      next rest' hr => cases h; simp [ih hr]

theorem replaceIn_length {new : FrameBody} {l l' : List QueuedFrame} (h : replaceIn new l = some l') :
    l'.length = l.length := by simpa using congrArg List.length (replaceIn_kinds h)

/-- The displaced frame is a waiting one of higher key (R168). -/
theorem youngestAbove_spec {rank : Nat} {l : List QueuedFrame} {g : QueuedFrame} (h : youngestAbove rank l = some g) :
    g ∈ l ∧ rank < g.body.rank := by
  induction l generalizing g with
  | nil => simp [youngestAbove] at h
  | cons f rest ih =>
    unfold youngestAbove at h
    split at h
    · split at h
      next hf => cases h; exact ⟨List.mem_cons_self, hf⟩
      · simp at h
    next g' hg' =>
      split at h
      next hf => cases h; exact ⟨List.mem_cons_self, hf.1⟩
      next =>
        cases h
        exact ⟨List.mem_cons_of_mem _ (ih hg').1, (ih hg').2⟩

/-- With no waiting frame of higher key, none is displaced (R168). -/
theorem youngestAbove_none {rank : Nat} {l : List QueuedFrame} (h : ∀ f ∈ l, ¬rank < f.body.rank) :
    youngestAbove rank l = none := by
  induction l with
  | nil => rfl
  | cons f rest ih =>
    have h1 := ih fun g hg => h g (List.mem_cons_of_mem _ hg)
    have h2 := h f List.mem_cons_self
    simp [youngestAbove, h1, h2]

/-- A frame that replaces none, with a free place and no SCENE of its generation on the line, takes a place (R167). -/
theorem give_takes_place {b : FrameBody} {l : Link} (hr : replaceIn b l.waiting = none)
    (hs : sceneInTransmission b l = none) (hp : l.placesHeld < 8) : l.give true b = (l.insert b, none) := by
  unfold Link.give
  simp only [Bool.not_true, Bool.false_eq_true, if_false, hr, hs, hp, if_true]

/-- A frame given while the station admits none leaves the queue, and has ended (R170). -/
theorem give_not_admitted (b : FrameBody) (l : Link) : l.give false b = (l, some b) := by simp [Link.give]

end Sys2Proof.Machine
end

