-- ==== Sys2Proof/Laws/Tables.lean ====
section
/-! SUPPORT. Reading and writing the tables indexed by channel, station, fault and field. -/

namespace Sys2Proof

namespace PerChannel

variable {α β : Type}

/-- A property of every channel follows from the eight channels. -/
theorem forall_channel {p : Channel → Prop} (h0 : p 0) (h1 : p 1) (h2 : p 2) (h3 : p 3) (h4 : p 4) (h5 : p 5) (h6 : p 6)
    (h7 : p 7) : ∀ n, p n := by
  intro n
  match n with
  | 0 => exact h0
  | 1 => exact h1
  | 2 => exact h2
  | 3 => exact h3
  | 4 => exact h4
  | 5 => exact h5
  | 6 => exact h6
  | 7 => exact h7

@[simp] theorem get_all (a : α) (n : Channel) : (all a).get n = a := by
  revert n; exact forall_channel rfl rfl rfl rfl rfl rfl rfl rfl

@[simp] theorem get_of (f : Channel → α) (n : Channel) : (of f).get n = f n := by
  revert n; exact forall_channel rfl rfl rfl rfl rfl rfl rfl rfl

@[simp] theorem get_map (f : α → β) (p : PerChannel α) (n : Channel) : (p.map f).get n = f (p.get n) := by
  simp [map]

@[simp] theorem get_set_self (p : PerChannel α) (n : Channel) (a : α) : (p.set n a).get n = a := by
  revert n; exact forall_channel rfl rfl rfl rfl rfl rfl rfl rfl

theorem get_set_ne (p : PerChannel α) {n m : Channel} (a : α) (h : m ≠ n) : (p.set n a).get m = p.get m := by
  revert n m
  apply forall_channel <;> apply forall_channel <;> first | (intro h; exact absurd rfl h) | (intro _; rfl)

theorem get_set (p : PerChannel α) (n m : Channel) (a : α) :
    (p.set n a).get m = if m = n then a else p.get m := by
  by_cases h : m = n
  · subst h; simp
  · simp [h, get_set_ne p a h]

theorem ext_get {p q : PerChannel α} (h : ∀ n, p.get n = q.get n) : p = q := by
  cases p; cases q
  have h0 := h 0; have h1 := h 1; have h2 := h 2; have h3 := h 3
  have h4 := h 4; have h5 := h 5; have h6 := h 6; have h7 := h 7
  simp only [get] at h0 h1 h2 h3 h4 h5 h6 h7
  subst h0 h1 h2 h3 h4 h5 h6 h7
  rfl

theorem mem_toList {p : PerChannel α} {a : α} : a ∈ p.toList ↔ ∃ n, p.get n = a := by
  constructor
  · intro h
    simp only [toList, List.mem_cons, List.not_mem_nil, or_false] at h
    rcases h with h | h | h | h | h | h | h | h
    · exact ⟨0, h.symm⟩
    · exact ⟨1, h.symm⟩
    · exact ⟨2, h.symm⟩
    · exact ⟨3, h.symm⟩
    · exact ⟨4, h.symm⟩
    · exact ⟨5, h.symm⟩
    · exact ⟨6, h.symm⟩
    · exact ⟨7, h.symm⟩
  · rintro ⟨n, rfl⟩
    revert n
    apply forall_channel <;> simp [toList, get]

end PerChannel

theorem mem_allChannels (n : Channel) : n ∈ allChannels := by
  revert n; decide

theorem mem_allStations (n : Station) : n ∈ allStations := by
  revert n; decide

theorem mem_allFields (f : Field) : f ∈ allFields := by
  cases f <;> decide

namespace PerStation

variable {α β : Type}

@[simp] theorem get_all (a : α) (n : Station) : (all a).get n = a := by
  unfold get all; split <;> simp

@[simp] theorem get_map (f : α → β) (p : PerStation α) (n : Station) : (p.map f).get n = f (p.get n) := by
  unfold get map; split <;> simp

@[simp] theorem get_set_self (p : PerStation α) (n : Station) (a : α) : (p.set n a).get n = a := by
  by_cases h : n.val < 8 <;> simp [get, set, h]

theorem get_set_ne (p : PerStation α) {n m : Station} (a : α) (h : m ≠ n) : (p.set n a).get m = p.get m := by
  have hv : m.val ≠ n.val := fun e => h (Fin.ext e)
  by_cases hn : n.val < 8 <;> by_cases hm : m.val < 8
  · simp only [get, set, hn, hm, dite_true]
    exact PerChannel.get_set_ne _ _ (fun e => hv (by simpa using congrArg Fin.val e))
  · simp [get, set, hn, hm]
  · simp [get, set, hn, hm]
  · simp only [get, set, hn, hm, dite_false]
    apply PerChannel.get_set_ne
    intro e
    have := congrArg Fin.val e
    simp at this
    omega

theorem get_set (p : PerStation α) (n m : Station) (a : α) :
    (p.set n a).get m = if m = n then a else p.get m := by
  by_cases h : m = n
  · subst h; simp
  · simp [h, get_set_ne p a h]

theorem mem_toList {p : PerStation α} {a : α} : a ∈ p.toList ↔ ∃ n, p.get n = a := by
  constructor
  · intro h
    rcases List.mem_append.mp h with h | h
    · obtain ⟨c, hc⟩ := PerChannel.mem_toList.mp h
      exact ⟨⟨c.val, by omega⟩, by simp [get, hc]⟩
    · obtain ⟨c, hc⟩ := PerChannel.mem_toList.mp h
      exact ⟨⟨c.val + 8, by omega⟩, by simp [get, hc]⟩
  · rintro ⟨n, rfl⟩
    unfold get toList
    split
    · exact List.mem_append_left _ (PerChannel.mem_toList.mpr ⟨_, rfl⟩)
    · exact List.mem_append_right _ (PerChannel.mem_toList.mpr ⟨_, rfl⟩)

end PerStation

namespace PerFault

variable {α : Type}

@[simp] theorem get_all (a : α) (f : StationFault) : (all a).get f = a := by cases f <;> rfl

@[simp] theorem get_of (g : StationFault → α) (f : StationFault) : (of g).get f = g f := by cases f <;> rfl

@[simp] theorem get_set_self (p : PerFault α) (f : StationFault) (a : α) : (p.set f a).get f = a := by cases f <;> rfl

theorem get_set_ne (p : PerFault α) {f g : StationFault} (a : α) (h : g ≠ f) : (p.set f a).get g = p.get g := by
  cases f <;> cases g <;> first | rfl | exact absurd rfl h

end PerFault

namespace PerField

variable {α : Type}

@[simp] theorem get_all (a : α) (f : Field) : (all a).get f = a := by cases f <;> rfl

@[simp] theorem get_of (g : Field → α) (f : Field) : (of g).get f = g f := by cases f <;> rfl

theorem ext_get {p q : PerField α} (h : ∀ f, p.get f = q.get f) : p = q := by
  cases p; cases q
  have h0 := h .volume; have h1 := h .fade; have h2 := h .balance; have h3 := h .bass; have h4 := h .mid
  have h5 := h .treble; have h6 := h .preset; have h7 := h .curve; have h8 := h .speedStep; have h9 := h .cabinMute
  simp only [get] at h0 h1 h2 h3 h4 h5 h6 h7 h8 h9
  subst h0 h1 h2 h3 h4 h5 h6 h7 h8 h9
  rfl

end PerField

namespace ClaimSet

@[simp] theorem get_set_self (k : ClaimSet) (c : Claim) (v : Option SilencingKind) : (k.set c v).get c = v := by
  cases c <;> rfl

theorem get_set_ne (k : ClaimSet) {c d : Claim} (v : Option SilencingKind) (h : d ≠ c) : (k.set c v).get d = k.get d := by
  cases c <;> cases d <;> first | rfl | exact absurd rfl h

@[simp] theorem get_empty (c : Claim) : empty.get c = none := by cases c <;> rfl

theorem set_some_ne_empty (k : ClaimSet) (c : Claim) (v : SilencingKind) : k.set c (some v) ≠ empty := by
  intro h
  have := congrArg (fun x => x.get c) h
  simp at this

end ClaimSet

end Sys2Proof
end

