-- ==== Sys2Proof/Laws/Ramps.lean ====
section
/-! SUPPORT. What each operation on a channel record does to its claims and phase (R116, R117, R122, R123). -/

namespace Sys2Proof.Machine

theorem startFade_claims (r : RampRecord) : r.startFade.claims = r.claims := by
  unfold RampRecord.startFade; split <;> rfl

theorem reachDuckLevel_claims (hold : Nat) (r : RampRecord) : (r.reachDuckLevel hold).claims = r.claims := by
  unfold RampRecord.reachDuckLevel; split <;> rfl

theorem startDip_claims (hold : Nat) (r : RampRecord) : (r.startDip hold).claims = r.claims := by
  unfold RampRecord.startDip; dsimp only; split <;> rfl

/-- Engaging a claim leaves the set as the placement made it. -/
theorem engage_claims (hold : Nat) (k : SilencingKind) (r : RampRecord) : (r.engage hold k).claims = r.claims := by
  unfold RampRecord.engage
  split <;> try simp only [RampRecord.fallSilent, startFade_claims]
  split
  · rfl
  · exact startDip_claims hold r

/-- A placement leaves the claim held, with every other claim as it was (R116). -/
theorem place_claims (hold : Nat) (c : Claim) (k : SilencingKind) (r : RampRecord) :
    (r.place hold c k).record.claims =
      if placementEngages c k r then r.claims.set c (some k) else r.claims := by
  unfold RampRecord.place; split
  · exact engage_claims hold k _
  · rfl

/-- After a placement the claim is held. -/
theorem place_holds (hold : Nat) (c : Claim) (k : SilencingKind) (r : RampRecord) :
    ((r.place hold c k).record.claims.get c).isSome = true := by
  rw [place_claims]
  by_cases h : placementEngages c k r = true
  · simp [h]
  · rw [if_neg h]
    unfold placementEngages at h
    cases hc : r.claims.get c with
    | none => rw [hc] at h; exact absurd rfl h
    | some v => rfl

/-- A placement touches no other claim. -/
theorem place_get_ne (hold : Nat) (c d : Claim) (k : SilencingKind) (r : RampRecord) (h : d ≠ c) :
    (r.place hold c k).record.claims.get d = r.claims.get d := by
  rw [place_claims]; split
  · exact ClaimSet.get_set_ne _ _ h
  · rfl

theorem leaveSilence_claims (r : RampRecord) : r.leaveSilence.claims = .empty := by
  unfold RampRecord.leaveSilence; dsimp only; repeat' split
  all_goals rfl

/-- The class held gives way to SCENE (R121). -/
@[simp] theorem leaveSilence_rateClass (r : RampRecord) : r.leaveSilence.rateClass = .scene := by
  unfold RampRecord.leaveSilence; dsimp only; repeat' split
  all_goals rfl

theorem leaveSilence_phase (r : RampRecord) : r.leaveSilence.phase = .open := by
  unfold RampRecord.leaveSilence; dsimp only; repeat' split
  all_goals rfl

/-- After a removal the claim is gone and every other claim is as it was (R122). -/
theorem remove_get (c d : Claim) (r : RampRecord) :
    (r.remove c).claims.get d = if d = c then none else r.claims.get d := by
  unfold RampRecord.remove
  split
  next h =>
    by_cases e : d = c
    · subst e; simp [h]
    · simp [e]
  next h =>
    dsimp only
    split
    next he =>
      rw [leaveSilence_claims]
      by_cases e : d = c
      · simp [e]
      · rw [if_neg e, ← ClaimSet.get_set_ne r.claims none e, he]
    next =>
      by_cases e : d = c
      · subst e; simp
      · simp [e, ClaimSet.get_set_ne _ _ e]

theorem moveDuckLevel_claims (hold : Nat) (t : Gain) (r : RampRecord) : (r.moveDuckLevel hold t).claims = r.claims := by
  unfold RampRecord.moveDuckLevel; dsimp only
  split
  · split
    · rw [reachDuckLevel_claims]
    · rfl
  · rfl

theorem takeOpen_claims (t : Gain) (cls : RateClass) (r : RampRecord) : (r.takeOpen t cls).claims = r.claims := by
  unfold RampRecord.takeOpen; repeat' split
  all_goals rfl

/-- A handed target touches no claim (R121). -/
theorem take_claims (hold : Nat) (t : Gain) (cls : RateClass) (r : RampRecord) :
    (r.take hold t cls).record.claims = r.claims := by
  unfold RampRecord.take; split <;> simp [rampResult, takeOpen_claims, moveDuckLevel_claims]

theorem stepDown_claims (level : Int) (reached : RampRecord → RampRecord) (h : ∀ r, (reached r).claims = r.claims)
    (r : RampRecord) : (r.stepDown level reached).claims = r.claims := by
  unfold RampRecord.stepDown; repeat' split
  all_goals first | rfl | exact h _

theorem stepOpen_claims (r : RampRecord) : r.stepOpen.claims = r.claims := by
  unfold RampRecord.stepOpen; dsimp only; repeat' split
  all_goals rfl

/-- A step touches no claim. -/
theorem step_claims (hold : Nat) (r : RampRecord) : (r.step hold).record.claims = r.claims := by
  unfold RampRecord.step; split
  · rfl
  · split
    · exact stepOpen_claims r
    · exact stepDown_claims floorLevel RampRecord.fallSilent (fun _ => rfl) r
    · exact stepDown_claims _ _ (reachDuckLevel_claims hold) r
    · exact stepDown_claims _ id (fun _ => rfl) r
    · rfl

/-- The end of a hold touches no claim. -/
theorem holdEnds_claims (r : RampRecord) : r.holdEnds.record.claims = r.claims := by
  unfold RampRecord.holdEnds; split <;> rfl

/-! ### Phases: an operation under a claim never leaves the channel OPEN, and SILENT means silent -/

/-- Not OPEN, and silent in phase SILENT. -/
def RampRecord.held (r : RampRecord) : Prop := r.phase ≠ .open ∧ (r.phase = .silent → r.currentGain = .silent)

theorem fallSilent_held (r : RampRecord) : r.fallSilent.held := ⟨by simp [RampRecord.fallSilent], fun _ => rfl⟩

theorem startFade_held (r : RampRecord) : r.startFade.held := by
  unfold RampRecord.startFade; split
  · exact fallSilent_held r
  · exact ⟨by simp, by simp⟩

theorem reachDuckLevel_held (hold : Nat) (r : RampRecord) : (r.reachDuckLevel hold).held := by
  unfold RampRecord.reachDuckLevel; split
  · exact fallSilent_held r
  · exact ⟨by simp, by simp⟩

theorem startDip_held (hold : Nat) (r : RampRecord) : (r.startDip hold).held := by
  unfold RampRecord.startDip; dsimp only; split <;> exact ⟨by simp, by simp⟩

/-- Engaging a claim on a coherent record holds the channel (R117). -/
theorem engage_held (hold : Nat) (k : SilencingKind) (r : RampRecord) (h : r.phase = .silent → r.currentGain = .silent) :
    (r.engage hold k).held := by
  unfold RampRecord.engage
  split <;> first
    | exact fallSilent_held r
    | exact startFade_held r
    | (split
       · exact fallSilent_held r
       · exact startDip_held hold r)
    | (rename_i hp; exact ⟨by simp [hp], fun e => h e⟩)

/-- Held with at least one claim is coherent. -/
theorem coherent_of_held {r : RampRecord} (h : r.held) (hc : r.claims ≠ .empty) : r.coherent :=
  ⟨⟨fun e => absurd e h.1, fun e => absurd e hc⟩, h.2⟩

/-- A placement keeps a channel record coherent (R116, R117). -/
theorem place_coherent (hold : Nat) (c : Claim) (k : SilencingKind) {r : RampRecord} (h : r.coherent) :
    (r.place hold c k).record.coherent := by
  unfold RampRecord.place; split
  · exact coherent_of_held (engage_held hold k _ h.2) (by rw [engage_claims]; exact ClaimSet.set_some_ne_empty _ _ _)
  · exact h

/-- A removal keeps a channel record coherent (R122, R123). -/
theorem remove_coherent (c : Claim) {r : RampRecord} (h : r.coherent) : (r.remove c).coherent := by
  unfold RampRecord.remove; split
  · exact h
  next v hv =>
    dsimp only; split
    · exact ⟨by simp [leaveSilence_phase, leaveSilence_claims], by simp [leaveSilence_phase]⟩
    next hne =>
      refine coherent_of_held ⟨fun e => ?_, h.2⟩ hne
      have := h.1.mp e
      simp [this] at hv

theorem moveDuckLevel_held (hold : Nat) (t : Gain) (r : RampRecord) (h : r.phase = .dipping ∨ r.phase = .holding) :
    (r.moveDuckLevel hold t).held := by
  unfold RampRecord.moveDuckLevel; dsimp only
  split
  · split
    · exact reachDuckLevel_held hold _
    · rcases h with h | h <;> exact ⟨by simp [h], by simp [h]⟩
  · rcases h with h | h <;> exact ⟨by simp [h], by simp [h]⟩

theorem takeOpen_phase (t : Gain) (cls : RateClass) (r : RampRecord) : (r.takeOpen t cls).phase = r.phase := by
  unfold RampRecord.takeOpen; repeat' split
  all_goals rfl

/-- A handed target keeps a channel record coherent (R113, R121). -/
theorem take_coherent (hold : Nat) (t : Gain) (cls : RateClass) {r : RampRecord} (h : r.coherent) :
    (r.take hold t cls).record.coherent := by
  unfold RampRecord.take
  split
  next hp =>
    exact ⟨by simp [rampResult, takeOpen_phase, takeOpen_claims, h.1], by simp [rampResult, takeOpen_phase, hp]⟩
  next hp => exact ⟨h.1, by simp [hp]⟩
  next hp => exact ⟨h.1, fun _ => h.2 hp⟩
  next hp =>
    refine coherent_of_held (moveDuckLevel_held hold t _ (.inl hp)) ?_
    simp only [rampResult, moveDuckLevel_claims]
    exact fun e => by have := h.1.mpr e; simp [hp] at this
  next hp =>
    refine coherent_of_held (moveDuckLevel_held hold t _ (.inr hp)) ?_
    simp only [rampResult, moveDuckLevel_claims]
    exact fun e => by have := h.1.mpr e; simp [hp] at this

theorem stepDown_held (level : Int) (reached : RampRecord → RampRecord) {r : RampRecord} (hr : r.held)
    (hs : r.phase ≠ .silent) (h : ∀ q : RampRecord, q.phase = r.phase → (reached q).held) :
    (r.stepDown level reached).held := by
  unfold RampRecord.stepDown; split
  · exact ⟨hr.1, fun e => absurd e hs⟩
  · split
    · exact h _ rfl
    · exact ⟨hr.1, fun e => absurd e hs⟩

/-- A step keeps a channel record coherent (R112, R118, R119). -/
theorem step_coherent (hold : Nat) {r : RampRecord} (h : r.coherent) : (r.step hold).record.coherent := by
  have hc : r.phase ≠ .open → r.claims ≠ .empty := fun e he => e (h.1.mpr he)
  have key : ∀ q : RampRecord, q.claims = r.claims → q.held → r.phase ≠ .open → q.coherent := fun q e hq hp =>
    coherent_of_held hq (by rw [e]; exact hc hp)
  unfold RampRecord.step; split
  · exact h
  · split
    next hp =>
      refine ⟨?_, ?_⟩
      · have : r.stepOpen.phase = r.phase := by unfold RampRecord.stepOpen; dsimp only; repeat' split
                                                all_goals rfl
        simp only [rampResult, this, stepOpen_claims]; exact h.1
      · have : r.stepOpen.phase = r.phase := by unfold RampRecord.stepOpen; dsimp only; repeat' split
                                                all_goals rfl
        simp [rampResult, this, hp]
    next hp =>
      exact key _ (stepDown_claims floorLevel RampRecord.fallSilent (fun _ => rfl) r)
        (stepDown_held _ _ ⟨by simp [hp], by simp [hp]⟩ (by simp [hp]) fun q _ => fallSilent_held q) (by simp [hp])
    next hp =>
      exact key _ (stepDown_claims _ _ (reachDuckLevel_claims hold) r)
        (stepDown_held _ _ ⟨by simp [hp], by simp [hp]⟩ (by simp [hp]) fun q _ => reachDuckLevel_held hold q)
        (by simp [hp])
    next hp =>
      exact key _ (stepDown_claims _ id (fun _ => rfl) r)
        (stepDown_held _ _ ⟨by simp [hp], by simp [hp]⟩ (by simp [hp]) fun q e => ⟨by simp [e, hp], by simp [e, hp]⟩)
        (by simp [hp])
    next hp => exact ⟨h.1, fun _ => h.2 hp⟩

/-- The end of a hold keeps a channel record coherent (R120). -/
theorem holdEnds_coherent {r : RampRecord} (h : r.coherent) : r.holdEnds.record.coherent := by
  unfold RampRecord.holdEnds; split
  next hp _ =>
    exact coherent_of_held (fallSilent_held r) (fun e => by have := h.1.mpr e; simp [hp] at this)
  · exact h

end Sys2Proof.Machine
end

