-- ==== Sys2Proof/Laws/Receive.lean ====
section
/-! SUPPORT. What the receipt of a frame keeps, and how a command ends. -/

namespace Sys2Proof.Machine

/-- A property that hearing a frame, reporting a conflict, a wake and the frame's handling keep is kept by the receipt. -/
theorem receive_invariant {P : State → Prop} (rx : Reception) (handle : State → State) {s : State}
    (heard : P (goodFrame s)) (conflict : ∀ t, P t → P (reportConflict t)) (woken : ∀ t, P t → P (wake t))
    (handled : ∀ t, P t → P (handle t)) : P (receive rx handle s) := by
  unfold receive; dsimp only
  split
  · exact heard
  · split
    · exact conflict _ heard
    · split
      · exact handled _ (woken _ heard)
      · exact woken _ (handled _ heard)

/-- As `receive_invariant`, for the frames that wake no station. -/
theorem receiveUnheard_invariant {P : State → Prop} (sender : Station) (handle : State → State) {s : State}
    (heard : P (goodFrame s)) (conflict : ∀ t, P t → P (reportConflict t)) (handled : ∀ t, P t → P (handle t)) :
    P (receiveUnheard sender handle s) := by
  unfold receiveUnheard; dsimp only
  split
  · exact heard
  · split
    · exact conflict _ heard
    · exact handled _ heard

/-- Outside STARTING, RESTING and the case of the own number, a frame is heard and handled, and nothing else. -/
theorem receive_routed (rx : Reception) (handle : State → State) {s : State} (hs : s.controller.station ≠ .starting)
    (hr : s.controller.station ≠ .resting) (hn : rx.sender ≠ s.loader.own)
    (keeps : ∀ t, t.controller.station ≠ .resting → (handle t).controller.station ≠ .resting) :
    receive rx handle s = handle (goodFrame s) := by
  have wakeId : ∀ t : State, t.controller.station ≠ .resting → wake t = t := fun t h => by simp [wake, h]
  have h1 : (goodFrame s).controller.station ≠ .resting := by simpa using hr
  unfold receive; dsimp only
  rw [if_neg (by simpa using hs), if_neg (by simpa [own] using hn)]
  split
  · rw [wakeId _ h1]
  · exact wakeId _ (keeps _ h1)

/-- A refresh leaves every waiting PRESENCE with the values of the moment (R55). -/
theorem refreshPresence_fresh (s : State) : presenceFresh (refreshPresence s) := by
  intro f hf r hr
  obtain ⟨g, _, rfl⟩ := List.mem_map.1 hf
  split at hr
  · cases hr; rfl
  · next h => rw [hr] at h; exact absurd rfl h

theorem finish_fresh (s : State) : presenceFresh (finish s) := refreshPresence_fresh _

/-- Outside RAIL_DOWN the controller waits for no silence, so that a command ends with the refresh alone. -/
theorem finish_outside_railDown {s : State} (h : s.controller.station ≠ .railDown) : finish s = refreshPresence s := by
  simp [finish, takeSilence, h]

/-- All that taking the all channels silent notice can do: the rail is released, in RAIL_DOWN with the rail driven and every channel
silent, or nothing happens (R126, R183). -/
theorem takeSilence_cases (s : State) :
    takeSilence s = s ∨
      (s.controller.station = .railDown ∧ railEnable s = true ∧ allSilent s = true ∧ takeSilence s = releaseRail s) := by
  unfold takeSilence; split
  next h => exact .inr ⟨h.1, h.2.1, h.2.2, rfl⟩
  next => exact .inl rfl

/-- While a roster channel sounds, a command ends with the refresh alone (R126). -/
theorem finish_while_sounding {s : State} (h : allSilent s = false) : finish s = refreshPresence s := by
  simp [finish, takeSilence, h]

end Sys2Proof.Machine
end

