-- ==== Sys2Proof/Laws/State.lean ====
section
/-! SUPPORT. One lemma for each named update of State: what it writes, and that it writes nothing else. -/

namespace Sys2Proof.Machine

@[simp] theorem count_writes (f : LinkCounters → LinkCounters) (s : State) :
    s.count f = { s with link := { s.link with counters := f s.link.counters } } := rfl

@[simp] theorem setRecord_writes (n : Channel) (r : FaultRecord) (s : State) :
    s.setRecord n r = { s with protection := { s.protection with records := s.protection.records.set n r } } := rfl

@[simp] theorem setOffset_writes (n : Channel) (c : Condition) (s : State) :
    s.setOffset n c = { s with protection := { s.protection with
      conditions := { s.protection.conditions with offset := s.protection.conditions.offset.set n c } } } := rfl

@[simp] theorem setPlanned_writes (n : Channel) (p : PlannedChannel) (s : State) :
    s.setPlanned n p = { s with planner := { s.planner with channels := s.planner.channels.set n p } } := rfl

@[simp] theorem setPeer_writes (n : Station) (e : PeerEntry) (s : State) :
    s.setPeer n e = { s with peers := { s.peers with entries := s.peers.entries.set n e } } := rfl

@[simp] theorem withWakeLine_writes (level : Bool) (s : State) :
    withWakeLine level s = { s with pins := { s.pins with wakeLine := level } } := rfl

@[simp] theorem adoptNumber_writes (c : CycleNumber) (s : State) :
    adoptNumber c s = { s with cycle := { s.cycle with number := c } } := rfl

@[simp] theorem startCycle_writes (s : State) :
    startCycle s = { s with cycle := { s.cycle with cycle := .running (cycleDuration s.loader.own) } } := rfl

@[simp] theorem askGapReview_writes (s : State) :
    askGapReview s = { s with planner := { s.planner with gapReview := true } } := rfl

@[simp] theorem markFault_writes (f : StationFault) (s : State) :
    markFault f s =
      { s with protection :=
        { s.protection with active := s.protection.active.set f true, sticky := s.protection.sticky.set f true } } := rfl

@[simp] theorem unmarkFault_writes (f : StationFault) (s : State) :
    unmarkFault f s = { s with protection := { s.protection with active := s.protection.active.set f false } } := rfl

@[simp] theorem removeClaim_writes (c : Claim) (n : Channel) (s : State) :
    removeClaim c n s = { s with ramps := s.ramps.set n ((s.ramps.get n).remove c) } := rfl

@[simp] theorem channelSilenced_writes (n : Channel) (s : State) :
    channelSilenced n s =
      { s with protection :=
        { s.protection with
          records := s.protection.records.set n
            ((s.protection.records.get n).silenced s.loader.image.protection.overcurrentMode) } } := rfl

@[simp] theorem stageScene_writes (sc : Scene) (s : State) :
    stageScene sc s = { s with
      scene := { s.scene with staged := some sc },
      equaliser := s.equaliser.sceneStaged s.loader.image (settingsOf sc.content) } := rfl

@[simp] theorem leaveResync_writes (s : State) :
    leaveResync s = { s with scene := { s.scene with unit := .agreed, fetch := none } } := rfl

@[simp] theorem refreshPresence_writes (s : State) :
    refreshPresence s = { s with link := { s.link with
      waiting := s.link.waiting.map fun f =>
        if f.body.isPresence then { f with body := .presence (ownReport s) } else f } } := rfl

end Sys2Proof.Machine
end

