-- ==== Sys2Proof/Tests/Slice0.lean ====
section
/-! SUPPORT. The model's own tests: the refusals of WellFormed, the handbook's worked examples, and for each statement with
hypotheses a state and operands that meet them together. -/

namespace Sys2Proof.Tests

open Sys2Proof Sys2Proof.Machine

/-! ### Small states -/

/-- The content of the worked example under R4. -/
def content : Content :=
  { volume := 40, fade := 0, balance := 0, bass := 0, mid := 0, treble := 0, preset := 0, curve := 1, speedStep := 0,
    cabinMute := 0 }

/-- The curve of the worked example under R82. -/
def curve : Curve := ⟨80, 240, 16, 20⟩

def rawProtection : RawProtection :=
  { overcurrentMode := some .retry, overcurrentKind := some .hard, dcOffsetMode := some .latch,
    dcOffsetKind := some .hard, clipMode := some .limit, warnMode := some .limit, railHighMode := some .enable,
    offsetThreshold := 100, warnThreshold := 80, shutThreshold := 100, lowThreshold := 90, sagThreshold := 105,
    highThreshold := 160 }

def rawImage : RawImage :=
  { version := 1, stationNumber := 3,
    roster := [⟨0, some .frontLeft, some .full, 0, 0, 12, some true⟩, ⟨3, some .rearLeft, some .full, 1, 0, 12, some true⟩],
    startScene := content, curve1 := curve, curve2 := curve, curve3 := curve, stalePolicy := some .fall,
    minimumChange := 2, gapBoost := 6, cutMode := some .coupled, duckHold := 300,
    presets := List.replicate 8 ⟨[], [], [], []⟩, protection := rawProtection }

/-- A memory that reads well: one byte of contents, and its check. -/
def goodRead : ImageRead := .read [0x12, highByte (crc16 [0x12]), lowByte (crc16 [0x12])] rawImage

def image : Image := (checkFields rawImage).getD .unconfigured

def openRecord : RampRecord := { RampRecord.reset with claims := .empty, phase := .open, currentGain := .level (-46), target := .level (-46) }

/-- Zone station 3, READY and AGREED on generation 120. -/
def ready : State :=
  { State.reset with
    pins := ⟨true, true⟩
    loader := { Loader.reset with image := image, own := 3 }
    controller := { Controller.resetWith .powerOn with station := .ready, rail := .up }
    cycle := { CycleUnit.reset with cycle := .running 83, presence := .running 400 }
    scene := { SceneUnit.resetWith content 3 with unit := .agreed, applied := formApplied (some 120) content 3 }
    ramps := .all openRecord
    protection := { Protection.reset with scan := some 0 } }

def inState (st : StationState) : State := { ready with controller := { ready.controller with station := st } }

def withScene (f : SceneUnit → SceneUnit) : State := { ready with scene := f ready.scene }

def withLink (f : Link → Link) : State := { ready with link := f ready.link }

def withProtection (f : Protection → Protection) : State := { ready with protection := f ready.protection }

def withRamp (f : RampRecord → RampRecord) : State := { ready with ramps := ready.ramps.set 0 (f openRecord) }

def withImage (f : Image → Image) : State := { ready with loader := { ready.loader with image := f image } }

def sends (b : FrameBody) : State := withLink fun l => { l with sending := some ⟨⟨b, 4, false⟩, false⟩ }

/-- A queue whose eight places are held. -/
def fullLink : Link :=
  { Link.reset with
    waiting := [⟨.fetch none, 0, false⟩, ⟨.fetch none, 1, false⟩, ⟨.fetch none, 2, false⟩, ⟨.fetch none, 3, false⟩,
      ⟨.fetch none, 4, false⟩, ⟨.fetch none, 5, false⟩, ⟨.fetch none, 6, false⟩, ⟨.fetch none, 7, false⟩]
    nextStamp := 8 }

def rx9 : Reception := ⟨9, true⟩

def offer (base : Generation) : Offer := ⟨base, 1, { PerField.all none with volume := some 44, bass := some 3 }⟩

def sceneOf (g : Generation) (c : Content) : Scene := ⟨g, c, 9, digestOf c⟩

def louder : Content := { content with cabinMute := 1 }

def presenceFrame (g : Generation) (d : Digest) : PresenceFrame :=
  { kind := 0, state := 5, appliedGeneration := some g, appliedDigest := some d, staged := none, demand := 0,
    records := .all 0, faults := .all false, roster := [⟨0, 0, 0⟩] }

def report (g : Generation) (d : Digest) : Report :=
  { kind := .zone, state := .ready, applied := some (g, d), staged := none, demand := 0, records := .all .clear,
    faults := .all false, roster := [⟨0, .frontLeft, .full⟩] }

def probe : Probe := ⟨3, 77, 0⟩

def order : MarkOrder := ⟨.markFirst, .markBetween⟩

def someAnswer : Answer := ⟨9, 1, .speed, 0, .noSuchItem⟩

/-! ### WellFormed refuses an ill-formed term for each of its checks -/

theorem test_wf_accepts : (Instr.offerReceived rx9 (offer 120)).wf = true ∧ (presenceFrame 120 1).wf = true := by decide

theorem test_wf_refuses_offer_rank : (Instr.offerReceived rx9 { offer 120 with rank := 256 }).wf = false := by decide

theorem test_wf_refuses_offer_byte :
    (Instr.offerReceived rx9 ⟨120, 1, { PerField.all none with volume := some 256 }⟩).wf = false ∧
    (Instr.offerReceived rx9 ⟨120, 1, { PerField.all none with volume := some (-1) }⟩).wf = false := by decide

theorem test_wf_refuses_offer_signed_byte :
    (Instr.offerReceived rx9 ⟨120, 1, { PerField.all none with fade := some 128 }⟩).wf = false ∧
    (Instr.offerReceived rx9 ⟨120, 1, { PerField.all none with fade := some (-129) }⟩).wf = false := by decide

theorem test_wf_refuses_scene : (Instr.sceneReceived rx9 (sceneOf 1 { content with curve := 256 })).wf = false := by decide

theorem test_wf_refuses_speed : (Instr.speedReceived rx9 512 true).wf = false ∧ (Instr.speedReceived rx9 511 true).wf = true := by
  decide

theorem test_wf_refuses_presence_codes :
    (Instr.presenceReceived rx9 { presenceFrame 1 1 with kind := 256 }).wf = false ∧
    (Instr.presenceReceived rx9 { presenceFrame 1 1 with state := 256 }).wf = false ∧
    (Instr.presenceReceived rx9 { presenceFrame 1 1 with demand := 256 }).wf = false ∧
    (Instr.presenceReceived rx9 { presenceFrame 1 1 with records := (PerChannel.all 0).set 7 16 }).wf = false := by decide

theorem test_wf_refuses_presence_digest_alone :
    (Instr.presenceReceived rx9 { presenceFrame 1 1 with appliedGeneration := none }).wf = false := by decide

set_option maxRecDepth 4000 in
theorem test_wf_refuses_presence_roster :
    (Instr.presenceReceived rx9 { presenceFrame 1 1 with roster := [⟨256, 0, 0⟩] }).wf = false ∧
    (Instr.presenceReceived rx9 { presenceFrame 1 1 with roster := [⟨0, 16, 0⟩] }).wf = false ∧
    (Instr.presenceReceived rx9 { presenceFrame 1 1 with roster := [⟨0, 0, 16⟩] }).wf = false ∧
    (Instr.presenceReceived rx9 { presenceFrame 1 1 with roster := List.replicate 256 ⟨0, 0, 0⟩ }).wf = false := by decide

theorem test_wf_refuses_targets :
    (Instr.clearFaults rx9 17 (.all true)).wf = false ∧ (Instr.clearSticky rx9 17 (.all true)).wf = false ∧
    (Instr.clearCounts rx9 17).wf = false ∧ (Instr.restart rx9 17).wf = false ∧ (Instr.restart rx9 16).wf = true ∧
    (Instr.probeConfig rx9 ⟨17, 0, 0⟩).wf = false := by decide

theorem test_wf_refuses_probe_index :
    (Instr.probePeer rx9 ⟨3, 0, 16⟩).wf = false ∧ (Instr.probeChannel rx9 ⟨3, 0, 8⟩).wf = false ∧
    (Instr.probePeer rx9 ⟨3, 0, 15⟩).wf = true ∧ (Instr.probeChannel rx9 ⟨3, 0, 7⟩).wf = true := by decide

theorem test_wf_refuses_known_item :
    (Instr.probeUnknownItem rx9 probe .speed).wf = false ∧ (Instr.probeUnknownItem rx9 probe (.unknown 9)).wf = true ∧
    (Instr.probeUnknownItem rx9 ⟨3, 0, 16⟩ .peer).wf = true := by decide

/-! ### The handbook's worked examples -/

theorem test_R2_table :
    newer 5 3 = true ∧ older 3 5 = true ∧ newer 3 65534 = true ∧ newer 0 65535 = true ∧ newer 32767 0 = true ∧
    older 32769 0 = true ∧ unrelated 32768 0 = true ∧ newer 700 700 = false ∧ older 700 700 = false := by decide

theorem test_R3_digests :
    digestOf content = 34048 ∧ digestOf louder = 34049 ∧ digestOf { content with speedStep := 4 } = 34196 := by decide

/-- Offers A to D under R13, with their proposers. -/
def cycleOffers : List (Offer × Station) :=
  [(⟨120, 1, { PerField.all none with volume := some 30, fade := some 2 }⟩, 3),
   (⟨120, 1, { PerField.all none with volume := some 28 }⟩, 9),
   (⟨120, 0, { PerField.all none with speedStep := some 6 }⟩, 5),
   (⟨120, 1, { PerField.all none with volume := some 32 }⟩, 3)]

def mergeAll (l : List (Offer × Station)) : PendingRecord := l.foldl (fun p o => merge o.1 o.2 p) emptyRecord

theorem test_R12_two_orders :
    mergeAll cycleOffers = mergeAll cycleOffers.reverse ∧ (mergeAll cycleOffers).volume = some ⟨28, 1, 9⟩ ∧
    (mergeAll cycleOffers).fade = some ⟨2, 1, 3⟩ ∧ (mergeAll cycleOffers).speedStep = some ⟨6, 0, 5⟩ ∧
    leadingProposer (mergeAll cycleOffers) = 9 := by decide

/-- The record of the first cycle under R27. -/
def firstCycle : PendingRecord :=
  mergeAll
    [(⟨120, 1, { PerField.all none with volume := some 44, bass := some 3 }⟩, 3),
     (⟨120, 0, { PerField.all none with speedStep := some 4 }⟩, 5),
     (⟨120, 1, { PerField.all none with volume := some 38, fade := some (-4) }⟩, 11)]

theorem test_R27_first_mark :
    let sc := stagedFrom firstCycle 120 content
    sc.generation = 121 ∧ sc.origin = 11 ∧ sc.digest = 26465 ∧
    sc.content = { content with volume := 38, fade := -4, bass := 3, speedStep := 4 } := by decide

theorem test_R27_second_mark :
    let sc := stagedFrom firstCycle 120 content
    let p := mergeAll
      [(⟨120, 1, { PerField.all none with treble := some (-2) }⟩, 3), (⟨121, 1, { PerField.all none with volume := some 36 }⟩, 11)]
    (stagedFrom p 121 sc.content).generation = 122 ∧ (stagedFrom p 121 sc.content).origin = 11 ∧
    (stagedFrom p 121 sc.content).digest = 49269 := by decide

/-- The desired steps after the speeds of the worked example, in turn. -/
def desiredAlong : Nat → List Nat → List Nat
  | _, [] => []
  | d, v :: rest =>
    let d' := desiredAfter (computedStep image 1 v) (fallingStep image 1 v) d
    d' :: desiredAlong d' rest

theorem test_R82_table :
    desiredAlong 0 [100, 140, 180, 170, 164, 158, 120, 90, 60, 250] = [2, 6, 10, 10, 10, 9, 6, 3, 0, 16] := by decide

/-- The planner and the descriptor of the worked example under R107. -/
def examplePlanner : Planner := { Planner.reset with gapSet := [.rearCentre], cut := 6 }

def exampleChannel : RosterEntry := ⟨2, .rearRight, .full, 0, -3, 12, true⟩

def exampleTarget (c : Content) (p : Planner) : Gain :=
  clampTarget exampleChannel.ceiling (componentsFor image p c exampleChannel).sum

def exampleContent : Content := { content with volume := 50, fade := 4, balance := -3, speedStep := 8 }

theorem test_target_example :
    exampleTarget exampleContent examplePlanner = .level (-49) ∧
    exampleTarget { exampleContent with volume := 63, fade := 0, balance := 0 } examplePlanner = .level 5 ∧
    exampleTarget { exampleContent with volume := 63, fade := 0, balance := 0, speedStep := 24 } examplePlanner = .level 12 ∧
    exampleTarget { exampleContent with fade := 15 } examplePlanner = .silent ∧
    exampleTarget { exampleContent with volume := 10 } examplePlanner = .silent ∧
    exampleTarget exampleContent { examplePlanner with duck := .on } = .level (-73) ∧
    exampleTarget exampleContent { examplePlanner with gapSet := [] } = .level (-55) := by decide

/-- The seven frames of the worked sequence of a full queue, and SCENE 301 beside them. -/
def queueAt0_9 : Link :=
  let scene (g : Generation) : FrameBody := .scene (sceneOf g content)
  let answer (tag : Nat) : FrameBody := .answer { someAnswer with tag := tag }
  [scene 300, .presence (ownReport ready), .fetch none, answer 1, answer 2, answer 3, answer 4, scene 301].foldl
    (fun l b => (l.give true b).1) .reset

theorem test_full_queue :
    let l1 := (queueAt0_9.give true (.mark 1)).1
    let l2 := (l1.give true (.alert ⟨.channel .clip 0, .limiting⟩)).1
    queueAt0_9.placesHeld = 8 ∧ queueAt0_9.counters.queueDrops = 0 ∧
    l1.waiting.map (fun f => f.body.kind) = [.mark, .scene, .fetch, .presence, .answer, .answer, .answer, .answer] ∧
    l2.waiting.map (fun f => f.body.kind) = [.mark, .alert, .scene, .fetch, .presence, .answer, .answer, .answer] ∧
    l2.counters.queueDrops = 2 := by decide

/-! ### Witnesses: the queue of commands, start and restart -/

theorem test_idle_due : ({ ready with cycle := { ready.cycle with cycle := .running 0 } } : State).pending = [] ∧
    due { ready with cycle := { ready.cycle with cycle := .running 0 } } = [.cycleTimerExpiry] := by decide

theorem test_idle_none_due : ready.pending = [] ∧ due ready = [] := by decide

theorem test_start_good : State.reset.controller.station = .starting ∧ State.reset.loader.freshStart = false ∧
    State.reset.equaliser.bypass = false ∧ checkImage 3 none goodRead = some image := by decide

theorem test_start_bad : State.reset.controller.station = .starting ∧ State.reset.loader.freshStart = false ∧
    State.reset.cycle.cycle = .stopped ∧ checkImage 3 none .unreadable = none ∧ checkImage 4 none goodRead = none := by
  decide

def freshStart : State := { inState .starting with loader := { ready.loader with freshStart := true } }

theorem test_fresh_start : freshStart.controller.station = .starting ∧ freshStart.loader.freshStart = true ∧
    checkImage 3 (some freshStart.loader.own) goodRead = some image ∧
    checkImage 3 (some freshStart.loader.own) .unreadable = none := by decide

/-- Outside the rail window, with an image whose THERMAL_WARN mode is as before. -/
theorem test_fresh_start_outside_the_window : image.protection.warnMode = freshStart.loader.image.protection.warnMode ∧
    freshStart.protection.active.railSag = false ∧ freshStart.protection.active.railLow = false ∧
    freshStart.protection.active.railHigh = false ∧
    (∀ n, (freshStart.protection.conditions.offset.get n).present = false) ∧ freshStart.link.waiting = [] := by decide

theorem test_restart_targets : routed rx9 ready ∧ (3 = ready.loader.own.val ∨ 3 = 16) ∧ (16 = ready.loader.own.val ∨ 16 = 16) := by
  decide

/-! ### Witnesses: frames received -/

theorem test_mark_received : routed rx9 ready ∧ ready.cycle.cycle ≠ .stopped ∧
    (ready.link.waiting.filter fun f => f.body.isMark).length ≤ 1 := by decide

theorem test_mark_received_stopped : routed rx9 { ready with cycle := .reset } ∧
    ({ ready with cycle := .reset } : State).cycle.cycle = .stopped ∧ ready.controller.station ≠ .resting := by decide

theorem test_mark_received_resting : routed rx9 (inState .resting) ∧ (inState .resting).controller.station = .resting := by
  decide

/-- AGREED with a scene staged and a change pending. -/
def staged : State := withScene fun u => { u with staged := some (sceneOf 121 louder), pending := firstCycle }

theorem test_mark_applies_staged : listening staged ∧ staged.scene.unit = .agreed ∧
    staged.scene.applied.generation = some 120 ∧ staged.scene.staged = some (sceneOf 121 louder) ∧
    recordHeld staged.scene.pending = true ∧ bringsMark (.markReceived rx9 7 order) staged :=
  ⟨by decide, by decide, by decide, by decide, by decide, .inl ⟨rx9, 7, order, rfl, by decide⟩⟩

/-- Zone station 1 is ACTIVE beside station 3. -/
def beneath : State :=
  { ready with peers := { ready.peers with entries := ready.peers.entries.set 1 (.known .active (report 120 1) 0) } }

theorem test_announcing : noLowerZone staged ∧ queueHasPlace staged ∧ noSceneInFlight staged ∧
    staged.peers.emptyingDue = false ∧ ¬noLowerZone beneath := by
  refine ⟨fun n r age _ h => ?_, by decide, fun x sc h => (by cases h), by decide, fun h => ?_⟩
  · have hall : ∀ n, ready.peers.entries.get n = .absent := by decide
    exact absurd (h.symm.trans (hall n)) (by simp)
  · exact h 1 (report 120 1) 0 (by decide) (by decide) rfl

/-- A mark that applies a staged scene has the SCENE of it queued, with no lower zone station ACTIVE. -/
theorem test_mark_announces : ∃ t, exec (.markReceived rx9 7 order) (withScene fun u => { u with staged := some (sceneOf 121 louder) })
    = .next t ∧ t.link.waiting.map QueuedFrame.body = [.scene (sceneOf 121 louder)] := ⟨_, rfl, by decide⟩

theorem test_mark_applies_nothing_pending : listening ready ∧ ready.scene.unit = .agreed ∧
    ready.scene.applied.generation = some 120 ∧ ready.scene.staged = none ∧ recordHeld ready.scene.pending = false := by
  decide

theorem test_own_mark_applies : bringsMark (.ownMarkComplete true order) (sends (.mark 7)) ∧ listening (sends (.mark 7)) ∧
    (sends (.mark 7)).scene.unit = .agreed ∧ (sends (.mark 7)).scene.applied.generation = some 120 :=
  ⟨.inr ⟨true, order, 7, 4, false, rfl, rfl⟩, by decide, by decide, by decide⟩

/-- A wait for generation 122, with and without a scene staged that reaches it. -/
def resync : State := withScene fun u => { u with unit := .resync, fetch := some ⟨122, 1, 320⟩ }

def resyncStaged (g : Generation) : State :=
  withScene fun u => { u with unit := .resync, fetch := some ⟨122, 1, 320⟩, staged := some (sceneOf g louder) }

theorem test_mark_in_resync : listening resync ∧ resync.scene.unit = .resync ∧
    resync.scene.fetch = some ⟨122, 1, 320⟩ ∧ resync.scene.pending = emptyRecord ∧ resync.scene.staged = none ∧
    (resyncStaged 122).scene.staged = some (sceneOf 122 louder) ∧ newer (122 : Generation) 122 = false ∧
    (resyncStaged 121).scene.staged = some (sceneOf 121 louder) ∧ newer (122 : Generation) 121 = true := by decide

/-- A station whose channels hold the targets handed to them, with a fall ready and a review asked for. -/
def marking : State :=
  { ready with
    ramps := .all { openRecord with currentGain := .level (-52), target := .level (-52) }
    planner := { Planner.reset with
      channels := .all ⟨.level (-52), some .scene, none⟩, cut := 6, fallReady := true, gapReview := true } }

theorem test_mark_moves_gap_and_cut : listening marking ∧ bringsMark (.markReceived rx9 7 order) marking ∧
    marking.scene.applied.generation = some 120 ∧ marking.scene.unit = .agreed ∧
    marking.controller.station ≠ .resting ∧ marking.controller.station ≠ .railDown ∧ marking.link.isolated = false ∧
    allDistinct (marking.loader.image.roster.map RosterEntry.channel) = true ∧ noneInFlight marking ∧
    greatestDemand marking = 0 ∧ marking.scene.staged = none :=
  ⟨by decide, .inl ⟨rx9, 7, order, rfl, by decide⟩, by decide, by decide, by decide, by decide, by decide, by decide,
    by decide, by decide, by decide⟩

/-- The mark that lets the cut fall from 3 dB to 0 raises each target with it. -/
theorem test_mark_lets_the_cut_fall : ∃ t, exec (.markReceived rx9 7 order) marking = .next t ∧ t.planner.cut = 0 ∧
    t.planner.channels.get 0 = ⟨targetNow t ⟨0, .frontLeft, .full, 0, 0, 12, true⟩, some .release,
      (t.planner.channels.get 0).components⟩ :=
  ⟨_, rfl, by decide, by decide⟩

theorem test_no_block_frames : routed rx9 ready ∧ routed rx9 (inState .resting) := by decide

/-- ISOLATED set, the duck ON and an emptying due, with station 9 LOST and station 8 SILENT. -/
def isolated : State :=
  { ready with
    link := { ready.link with isolated := true, isolationTimer := none }
    peers := ⟨(ready.peers.entries.set 9 (.known .lost (report 1 1) 4000)).set 8 (.known .silent (report 1 1) 4000), true⟩
    planner := { Planner.reset with channels := .all ⟨.level (-70), some .scene, none⟩, duck := .on } }

theorem test_isolation_ends : routed rx9 isolated ∧ isolated.controller.station ≠ .resting ∧ isolated.link.isolated = true ∧
    isolated.peers.emptyingDue = true ∧ isolated.planner.duck = .on ∧ isolated.scene.applied.generation ≠ none ∧
    allDistinct (isolated.loader.image.roster.map RosterEntry.channel) = true ∧
    demandTold (isolated.peers.entries.get 8) 0 ∧
    ∃ t, exec (.answerReceived rx9) isolated = .next t ∧ railKept isolated t ∧ t.peers.entries.get 9 = .absent ∧
      t.planner.gapReview = true ∧ (t.planner.channels.get 0).handedTarget = .level (-46) :=
  ⟨by decide, by decide, by decide, by decide, by decide, by decide, by decide, ⟨.silent, report 1 1, 4000, by decide⟩, _, rfl,
    by decide, by decide, by decide, by decide⟩

/-- Without an emptying due, and with every gain at its target, the targets of the duck's end are handed at SCENE. -/
theorem test_isolation_ends_with_the_duck :
    let s := { isolated with peers := ready.peers, ramps := .all { openRecord with currentGain := .level (-70), target := .level (-70) } }
    s.link.isolated = true ∧ s.peers.emptyingDue = false ∧ noneInFlight s ∧
    ({ s with planner := { s.planner with duck := .waiting } } : State).planner.duck = .waiting := by decide

theorem test_offer_accepted : routed rx9 staged ∧ listening staged ∧ staged.scene.unit = .agreed ∧
    staged.scene.applied.generation = some 120 ∧ offerPasses (offer 120) = true ∧ offerPasses (offer 121) = true ∧
    staged.scene.staged = some (sceneOf 121 louder) := by decide

/-- The own OFFER of step 6 waits, with the spacing timer running. -/
def offering : State :=
  { ready with
    link := { ready.link with waiting := [⟨.offer ⟨120, 0, { PerField.all none with speedStep := some 6 }⟩, 0, false⟩] }
    speed := { ready.speed with spacingTimer := some 900, offerWaiting := true } }

def stepOffer (base : Generation) (step : Int) : Offer :=
  ⟨base, 1, { PerField.all none with volume := some 44, speedStep := some step }⟩

theorem test_equivalent_offer : routed rx9 offering ∧ offering.controller.station ≠ .resting ∧
    offerPasses (stepOffer 120 6) = true ∧ sameStep (stepOffer 120 6) ⟨120, 0, { PerField.all none with speedStep := some 6 }⟩ = true ∧
    sameStep (stepOffer 120 7) ⟨120, 0, { PerField.all none with speedStep := some 6 }⟩ = false ∧
    sameStep (stepOffer 121 6) ⟨120, 0, { PerField.all none with speedStep := some 6 }⟩ = false ∧
    offering.speed.spacingTimer = some 900 ∧ (offering.link.waiting.filter fun f => f.body.isOffer).length = 1 := by decide

theorem test_equivalent_offer_withdraws : ∃ t, exec (.offerReceived rx9 (stepOffer 120 6)) offering = .next t ∧
    t.link.waiting = [] ∧ t.speed.offerWaiting = false := ⟨_, rfl, by decide, by decide⟩

theorem test_merge_commutes : (offer 120).rank ≠ ({ offer 120 with rank := 2 } : Offer).rank ∧ (3 : Station) ≠ 9 := by
  decide

theorem test_offer_fails_or_provisional : routed rx9 ready ∧ listening ready ∧
    offerPasses { offer 120 with rank := 4 } = false ∧ offerPasses { offer 120 with values := .all none } = false ∧
    (withScene fun u => { u with unit := .provisional }).scene.unit ≠ .agreed := by decide

theorem test_offer_measured : offerPasses (offer 119) = true ∧ ready.scene.applied.generation = some 120 ∧
    older (119 : Generation) 120 = true ∧ newer (121 : Generation) 120 = true ∧
    unrelated (120 + 32768 : Generation) 120 = true ∧ ready.scene.staged = none := by decide

theorem test_stale_offer_answered : queueHasPlace ready ∧ noSceneInFlight ready ∧
    ∃ t, exec (.offerReceived rx9 (offer 119)) ready = .next t ∧
      t.link.waiting.map QueuedFrame.body = [.scene ⟨120, content, 3, digestOf content⟩] :=
  ⟨by decide, fun x sc h => (by cases h), _, rfl, by decide⟩

theorem test_offer_behind_staged : staged.scene.staged = some (sceneOf 121 louder) ∧
    newer (122 : Generation) (sceneOf 121 louder).generation = true ∧ queueHasPlace staged := by decide

/-- A staged scene two generations on, which a base between overtakes. -/
def farStaged : State := withScene fun u => { u with staged := some (sceneOf 125 louder) }

theorem test_offer_overtaken : routed rx9 farStaged ∧ listening farStaged ∧ offerPasses (offer 122) = true ∧
    farStaged.scene.unit = .agreed ∧ farStaged.scene.applied.generation = some 120 ∧
    newer (122 : Generation) 120 = true ∧ farStaged.scene.staged = some (sceneOf 125 louder) ∧
    newer (122 : Generation) (sceneOf 125 louder).generation = false := by decide

def provisional : State :=
  withScene fun u => { u with unit := .provisional, applied := formApplied none content 3, joinWindow := some 5 }

theorem test_scene_provisional : routed rx9 provisional ∧ listening provisional ∧
    scenePasses (sceneOf 7 louder) = true ∧ provisional.scene.unit = .provisional ∧
    scenePasses { sceneOf 7 louder with digest := 0 } = false := by decide

/-- PROVISIONAL, each channel under the claims of power-on. -/
def provisionalSilent : State := { provisional with ramps := .all .reset }

/-- AGREED with a digest conflict waiting. -/
def conflicted : State := withScene fun u => { u with conflict := some 120 }

theorem test_scene_settles : routed rx9 conflicted ∧ listening conflicted ∧ scenePasses (sceneOf 120 louder) = true ∧
    conflicted.scene.applied.generation = some 120 ∧ conflicted.scene.unit = .agreed ∧
    conflicted.scene.conflict = some 120 ∧ conflicted.scene.applied.digest < (sceneOf 120 louder).digest ∧
    conflicted.scene.staged = none := by decide

theorem test_first_scene : (provisionalSilent.ramps.get 0).claims.provisional.isSome = true ∧
    (∀ n, (provisionalSilent.ramps.get n).claims.provisional.isSome = true) ∧ listening provisionalSilent ∧
    provisionalSilent.controller.station ≠ .resting ∧ provisionalSilent.controller.station ≠ .railDown ∧
    provisionalSilent.link.isolated = false ∧ provisionalSilent.scene.unit = .provisional ∧
    allDistinct (provisionalSilent.loader.image.roster.map RosterEntry.channel) = true := by decide

theorem test_scene_settles_nothing : ready.scene.conflict ≠ some (sceneOf 120 louder).generation ∧
    ¬conflicted.scene.applied.digest < (sceneOf 120 content).digest ∧ farStaged.scene.staged ≠ none := by decide

theorem test_scene_resync : routed rx9 resync ∧ listening resync ∧ scenePasses (sceneOf 121 louder) = true ∧
    resync.scene.applied.generation = some 120 ∧ resync.scene.unit = .resync ∧ newer (121 : Generation) 120 = true ∧
    newer (120 : Generation) 120 = false := by decide

/-- The own SCENE 120 waits; an equal one withdraws it. -/
def announcing : State := withLink fun l => { l with waiting := [⟨.scene (sceneOf 120 content), 0, false⟩] }

theorem test_equal_scene_withdraws : announcing.scene.unit ≠ .provisional ∧ announcing.controller.station ≠ .resting ∧
    (announcing.link.waiting.filter fun f => f.body.isSceneOf 120 (digestOf content)).length ≤ 1 ∧
    scenePasses (sceneOf 120 content) = true ∧ scenePasses (sceneOf 120 louder) = true ∧
    (sceneOf 120 content).digest ≠ (sceneOf 120 louder).digest ∧
    ∃ t, exec (.sceneReceived rx9 (sceneOf 120 content)) announcing = .next t ∧ t.link.waiting = [] :=
  ⟨by decide, by decide, by decide, by decide, by decide, by decide, _, rfl, by decide⟩

def fresh : State := { ready with speed := { SpeedUnit.reset with source := some ⟨9, 100, 0⟩, state := .fresh, desired := 2 } }

theorem test_speed : routed rx9 fresh ∧ ready.speed.state ≠ .fresh ∧
    fresh.speed.source = some ⟨9, 100, 0⟩ ∧ fresh.speed.state = .fresh ∧ (9 : Station) = rx9.sender ∧
    (9 : Station) ≠ (⟨8, true⟩ : Reception).sender := by decide

theorem test_fetch : routed rx9 staged ∧ listening staged ∧ staged.controller.station ≠ .resting ∧
    staged.controller.station ≠ .conflict ∧ staged.scene.unit = .agreed ∧
    staged.scene.applied.generation = some 120 ∧ staged.link.placesHeld < 8 ∧ staged.link.sending = none ∧
    staged.link.waiting = [] ∧ staged.scene.staged = some (sceneOf 121 louder) ∧
    (sceneOf 121 louder).generation ≠ 120 := by decide

theorem test_presence : routed rx9 ready ∧ presenceReport (presenceFrame 120 1) = some (report 120 1) ∧
    ready.peers.entries.get rx9.sender ≠ .self ∧ presenceReport { presenceFrame 120 1 with kind := 7 } = none ∧
    ready.link.isolated = false := by decide

/-- Station 9 is known, by a report of demand `demand`. -/
def knowing (life : Liveness) (demand : Nat) : State :=
  { ready with peers := { ready.peers with
      entries := ready.peers.entries.set 9 (.known life { report 120 1 with demand := demand } 40) } }

theorem test_presence_notices : gapNoticeDue (report 120 1) (ready.peers.entries.get 9) ∧
    gapNoticeDue (report 120 1) ((knowing .lost 0).peers.entries.get 9) ∧
    ¬gapNoticeDue (report 120 1) ((knowing .active 6).peers.entries.get 9) ∧
    gapNoticeDue { report 120 1 with kind := .control, roster := [] } ((knowing .active 6).peers.entries.get 9) ∧
    demandTold ((knowing .active 6).peers.entries.get 9) 6 ∧ demandTold (.known .active (report 120 1) 0) 0 ∧
    ¬demandTold (.known .active (report 120 1) 0) 6 ∧ (inState .resting).protection.active.railSag = false := by
  refine ⟨?_, ?_, ?_, ?_, ⟨.active, _, 40, rfl, by decide, rfl, rfl⟩, ⟨.active, _, 0, rfl, by decide, rfl, rfl⟩, ?_, rfl⟩
  · exact ⟨rfl, by decide⟩
  · exact .inl rfl
  · rintro (h | h | h)
    · exact absurd h (by decide)
    · exact absurd h.2 (by decide)
    · exact absurd h.1 (by decide)
  · exact .inr (.inr ⟨by decide, .inr (by decide)⟩)
  · rintro ⟨life, r, age, h, -, -, hd⟩
    cases h
    exact absurd hd (by decide)

theorem test_presence_of_known_peer : routed rx9 (knowing .active 0) ∧
    railKept (knowing .active 0) (knowing .active 0) ∧ presenceReport (presenceFrame 120 1) = some (report 120 1) ∧
    (knowing .active 0).peers.entries.get rx9.sender ≠ .self ∧
    (goodFrame (knowing .active 0)).peers.entries.get 9 = .known .active (report 120 1) 40 := by decide

theorem test_report_provisional : routed rx9 provisional ∧ listening provisional ∧
    presenceReport (presenceFrame 121 1) = some (report 121 1) ∧ provisional.peers.entries.get rx9.sender ≠ .self ∧
    (report 121 1).kind = .zone ∧ (report 121 1).applied = some (121, 1) ∧ provisional.scene.unit = .provisional ∧
    queueHasPlace provisional ∧ (∀ q ∈ provisional.link.waiting, q.body.isFetch = false) ∧
    (∃ q ∈ fullLink.waiting, q.body.isFetch = true) := by decide

theorem test_report_newer : routed rx9 ready ∧ listening ready ∧
    presenceReport (presenceFrame 121 1) = some (report 121 1) ∧ ready.peers.entries.get rx9.sender ≠ .self ∧
    (report 121 1).kind = .zone ∧ ready.scene.applied.generation = some 120 ∧ ready.scene.unit = .agreed ∧
    newer (121 : Generation) 120 = true ∧ ready.scene.staged = none := by decide

theorem test_report_digest : presenceReport (presenceFrame 120 65535) = some (report 120 65535) ∧
    ready.scene.applied.digest < 65535 ∧ ¬ready.scene.applied.digest < 0 ∧ queueHasPlace ready ∧
    (∀ q ∈ ready.link.waiting, q.body.isFetch = false) ∧
    presenceReport (presenceFrame 120 0) = some (report 120 0) := by decide

theorem test_report_leaves_the_unit : presenceReport (presenceFrame 119 1) = some (report 119 1) ∧
    newer (119 : Generation) 120 = false ∧ presenceReport (presenceFrame (120 + 32768) 1) = some (report (120 + 32768) 1) ∧
    newer (120 + 32768 : Generation) 120 = false ∧ presenceReport (presenceFrame 122 1) = some (report 122 1) ∧
    farStaged.scene.staged = some (sceneOf 125 louder) ∧ newer (122 : Generation) 125 = false ∧
    farStaged.peers.entries.get rx9.sender ≠ .self ∧ farStaged.scene.applied.digest < 65535 := by decide

theorem test_report_resync : routed rx9 resync ∧ listening resync ∧
    presenceReport (presenceFrame 123 1) = some (report 123 1) ∧ resync.scene.unit = .resync ∧
    resync.scene.fetch = some ⟨122, 1, 320⟩ ∧ newer (123 : Generation) 122 = true ∧ newer (122 : Generation) 122 = false ∧
    resync.peers.entries.get rx9.sender ≠ .self ∧ resync.scene.applied.generation = some 120 := by decide

/-- A station whose channel 0 waits for a retry. -/
def retrying : State := withProtection fun p =>
  { p with
    records := p.records.set 0 ⟨.retryWait, some .overcurrent, 1, 0, some 800, some 40000⟩
    conditions := { p.conditions with offset := p.conditions.offset.set 0 ⟨true, 1⟩ } }

theorem test_clear_faults : routed rx9 retrying ∧ retrying.controller.station ≠ .resting ∧
    retrying.controller.station ≠ .railDown ∧ 3 = retrying.loader.own.val ∧ (PerChannel.all true).get 0 = true ∧
    (descriptorOf retrying.loader.image 0).isSome = true ∧ (retrying.protection.records.get 0).state ≠ .clear ∧
    retrying.protection.active.railHigh = false ∧ (retrying.protection.conditions.offset.get 0).present = true := by decide

theorem test_clear_sticky_and_counts : routed rx9 ready ∧ ready.controller.station ≠ .resting ∧
    3 = ready.loader.own.val := by decide

theorem test_rest : routed rx9 ready ∧ ready.controller.station = .ready ∧ routed rx9 (inState .quiet) ∧
    (inState .quiet).controller.station = .quiet ∧ routed rx9 (inState .unconfigured) ∧
    (inState .unconfigured).controller.station = .unconfigured ∧ routed rx9 (inState .stabilising) ∧
    routed rx9 (inState .shutdown) ∧ routed rx9 (inState .conflict) := by decide

/-- READY with every roster channel silent, as under the cabin mute. -/
def muted : State := { ready with ramps := .all { openRecord with currentGain := .silent, target := .silent } }

theorem test_rest_of_a_silent_station : routed rx9 muted ∧ muted.controller.station = .ready ∧ railDriven muted ∧
    (∀ d ∈ muted.loader.image.roster, ((goodFrame muted).ramps.get d.channel).currentGain = .silent) ∧
    ∃ t, exec (.restReceived rx9 false) muted = .next t ∧ t.controller.rail = .draining ∧ t.controller.downTimer = some 80 :=
  ⟨by decide, by decide, by decide, by decide, _, rfl, by decide, by decide⟩

theorem test_rest_of_a_sounding_station :
    ⟨0, .frontLeft, .full, 0, 0, 12, true⟩ ∈ ready.loader.image.roster.map
      (fun d => (⟨d.channel, d.position, d.role, 0, 0, 12, true⟩ : RosterEntry)) ∧
    ((goodFrame ready).ramps.get 0).currentGain = .level (-46) := by decide

theorem test_number_conflict : listening ready ∧ ready.protection.active.numberConflict = false ∧
    ∀ n, (ready.ramps.get n).claims.conflict = none := by decide

theorem test_probe_answered : routed rx9 ready ∧ ready.controller.station ≠ .resting ∧
    ready.controller.station ≠ .conflict ∧ probe.target = ready.loader.own.val ∧ ready.link.answersHeld < 4 ∧
    ready.link.placesHeld < 8 ∧ probe.index = (0 : Station).val ∧ 15 < ({ probe with index := 16 } : Probe).index ∧
    ready.speed.source = none ∧ fresh.speed.source = some ⟨9, 100, 0⟩ := by decide

/-- Four ANSWERs wait. -/
def answering : State := withLink fun l =>
  { l with waiting := (List.range 4).map fun k => ⟨.answer someAnswer, k, false⟩ }

theorem test_probe_dropped : routed rx9 answering ∧ answering.controller.station ≠ .resting ∧
    Instr.probeConfig rx9 probe ∈ probes rx9 probe true (.unknown 9) ∧ 4 ≤ answering.link.answersHeld ∧
    probe.target = answering.loader.own.val ∧ ({ probe with target := 16 } : Probe).target ≠ answering.loader.own.val := by
  decide

/-! ### Witnesses: own frames on the line -/

theorem test_frame_start : answering.link.sending = none ∧
    answering.link.waiting = ⟨.answer someAnswer, 0, false⟩ :: answering.link.waiting.tail ∧
    answering.controller.station ≠ .starting ∧ answering.controller.station ≠ .resting ∧
    answering.controller.station ≠ .conflict ∧ answering.link.conflictReported = false := by decide

theorem test_frame_start_reported : (withLink fun l => { l with conflictReported := true }).link.sending = none ∧
    (withLink fun l => { l with conflictReported := true }).link.conflictReported = true := by decide

theorem test_arbitration_lost : (sends (.offer (offer 120))).link.sending = some ⟨⟨.offer (offer 120), 4, false⟩, false⟩ ∧
    (sends (.offer (offer 120))).controller.station ≠ .starting ∧
    (sends (.offer (offer 120))).controller.station ≠ .resting ∧
    (sends (.offer (offer 120))).controller.station ≠ .conflict := by decide

/-- A PRESENCE in transmission while another waits. -/
def twoPresences : State := withLink fun l =>
  { l with
    waiting := [⟨.presence (ownReport ready), 9, false⟩]
    sending := some ⟨⟨.presence (ownReport ready), 4, false⟩, false⟩ }

theorem test_presence_beside_presence : (FrameBody.presence (ownReport ready)).kind = .presence ∧
    (∃ f ∈ twoPresences.link.waiting, f.body.kind = .presence) ∧
    ∃ t, exec .arbitrationLost twoPresences = .next t ∧ t.link.waiting = twoPresences.link.waiting :=
  ⟨by decide, by decide, _, rfl, by decide⟩

theorem test_own_offer : listening (sends (.offer (offer 120))) ∧ (sends (.offer (offer 120))).scene.unit = .agreed ∧
    (sends (.offer (offer 120))).scene.applied.generation = some 120 ∧ offerPasses (offer 120) = true ∧
    (offer 120).base = 120 := by decide

theorem test_own_presence : (sends (.presence (ownReport ready))).cycle.presence ≠ .stopped ∧
    (sends (.presence (ownReport ready))).link.sending = some ⟨⟨.presence (ownReport ready), 4, false⟩, false⟩ := by decide

theorem test_own_answer :
    (sends (.answer someAnswer)).link.sending = some ⟨⟨.answer someAnswer, 4, false⟩, false⟩ := by decide

/-- A frame in transmission since before a restart. -/
def orphan (b : FrameBody) : State := withLink fun l => { l with sending := some ⟨⟨b, 4, false⟩, true⟩ }

theorem test_orphan_ends : (orphan (.mark 7)).link.sending = some ⟨⟨.mark 7, 4, false⟩, true⟩ ∧
    ∃ t, exec (.ownMarkComplete true order) (orphan (.mark 7)) = .next t ∧ t.cycle.number = ready.cycle.number ∧
      t.link.sending = none := ⟨rfl, _, rfl, by decide, by decide⟩

theorem test_time_out_mark :
    let s := { sends (.mark 7) with cycle := { ready.cycle with cycle := .markQueued } }
    s.link.sending = some ⟨⟨.mark 7, 4, false⟩, false⟩ ∧ s.cycle.cycle = .markQueued := by decide

theorem test_time_out_presence :
    let s := { sends (.presence (ownReport ready)) with cycle := { ready.cycle with presence := .presenceQueued } }
    s.link.sending = some ⟨⟨.presence (ownReport ready), 4, false⟩, false⟩ ∧ s.cycle.presence = .presenceQueued := by decide

/-- A MARK and a PRESENCE that lost arbitration in the frame that times out. -/
def lostWaiting : State :=
  { withLink (fun l => { l with waiting := [⟨.mark 7, 4, true⟩, ⟨.presence (ownReport ready), 5, true⟩] }) with
    cycle := ⟨0, .markQueued, .presenceQueued⟩ }

theorem test_time_out_waiting : ⟨.mark 7, 4, true⟩ ∈ lostWaiting.link.waiting ∧
    ⟨.presence (ownReport ready), 5, true⟩ ∈ lostWaiting.link.waiting ∧ lostWaiting.cycle.cycle = .markQueued ∧
    lostWaiting.cycle.presence = .presenceQueued ∧
    ∃ t, exec .lineTimeOut lostWaiting = .next t ∧ t.link.waiting = [] ∧ t.cycle = ⟨0, .running 83, .running 400⟩ :=
  ⟨by decide, by decide, rfl, rfl, _, rfl, by decide, by decide⟩

/-! ### Witnesses: timers and ages -/

theorem test_cycle_and_presence_timers : ready.controller.station ≠ .starting ∧ ready.controller.station ≠ .resting ∧
    ready.controller.station ≠ .conflict ∧ ready.cycle.cycle = .running 83 ∧ ready.link.placesHeld < 8 ∧
    ready.cycle.presence = .running 400 := by decide

theorem test_cycle_timer_full_queue : ¬fullLink.placesHeld < 8 ∧ ∃ f ∈ fullLink.waiting, f.body.isMark = false := by decide

theorem test_join_window : listening provisional ∧ provisional.scene.unit = .provisional ∧
    provisional.scene.joinWindow = some 5 := by decide

theorem test_fetch_timer : listening resync ∧ resync.scene.unit = .resync ∧ resync.scene.fetch = some ⟨122, 1, 320⟩ ∧
    (⟨122, 1, 320⟩ : FetchState).attempts < 3 ∧
    (withScene fun u => { u with unit := .resync, fetch := some ⟨122, 3, 0⟩ }).scene.fetch = some ⟨122, 3, 0⟩ ∧
    queueHasPlace resync := by decide

def withPeer (e : PeerEntry) : State :=
  { ready with peers := { ready.peers with entries := ready.peers.entries.set 9 e } }

theorem test_peer_ages : (withPeer (.known .active (report 1 1) 1200)).link.isolated = false ∧
    (withPeer (.known .active (report 1 1) 1200)).peers.entries.get 9 = .known .active (report 1 1) 1200 ∧
    (withPeer (.known .silent (report 1 1) 4000)).peers.entries.get 9 = .known .silent (report 1 1) 4000 ∧
    (withPeer (.known .silent (report 1 1) 4000)).controller.station ≠ .railDown ∧ (report 1 1).kind = .zone ∧
    (withLink fun l => { l with isolated := true }).link.isolated = true := by decide

/-- A PRESENCE taken at the moment its sender's age comes to 300 ms leaves the PEER_SILENT after it without effect (R65). -/
theorem test_presence_before_peer_silent :
    (withPeer (.known .active (report 120 1) 1200)).peers.entries.get 9 = .known .active (report 120 1) 1200 ∧
    exec (.peerSilent 9) (withPeer (.known .active (report 120 1) 0)) = .next (withPeer (.known .active (report 120 1) 0)) :=
  ⟨by decide, rfl⟩

def freshFor (age : Nat) : State := { fresh with speed := { fresh.speed with source := some ⟨9, 100, age⟩ } }

theorem test_speed_timers : (freshFor 2000).speed.state = .fresh ∧ (freshFor 2000).speed.source = some ⟨9, 100, 2000⟩ ∧
    (freshFor 1999).speed.source = some ⟨9, 100, 1999⟩ ∧ fresh.loader.image.stalePolicy = .fall ∧
    0 < fresh.speed.desired := by decide

/-- A STALE source with its fall timer at its end. -/
def falling (policy : StalePolicy) : State :=
  { withImage fun i => { i with stalePolicy := policy } with
    speed := { fresh.speed with state := .stale, fallTimer := some 0 } }

theorem test_fall_timer : (falling .fall).speed.fallTimer = some 0 ∧ (falling .fall).speed.state = .stale ∧
    (falling .fall).loader.image.stalePolicy = .fall ∧ (falling .hold).loader.image.stalePolicy = .hold ∧
    (falling .zero).loader.image.stalePolicy = .zero ∧
    ((falling .fall).speed.falls .fall).desired = 1 ∧ ((falling .hold).speed.falls .hold).desired = 2 := by decide

def spacing : State := { fresh with speed := { fresh.speed with spacingTimer := some 0 } }

theorem test_spacing_offer_due : spacing.speed.spacingTimer = some 0 ∧
    offerDue { spacing with speed := { spacing.speed with spacingTimer := none } } = true ∧
    (speedOffer spacing).isSome = true ∧ spacing.link.placesHeld < 8 := by decide

theorem test_spacing_offer_not_due :
    let s := { spacing with speed := { spacing.speed with desired := 0 } }
    s.speed.spacingTimer = some 0 ∧ offerDue { s with speed := { s.speed with spacingTimer := none } } = false := by decide

theorem test_speed_offer : speedOffer { fresh with speed := { fresh.speed with desired := 24 } } =
    some ⟨120, 0, { PerField.all none with speedStep := some 4 }⟩ ∧
    speedOffer fresh = some ⟨120, 0, { PerField.all none with speedStep := some 2 }⟩ := by decide

theorem test_planner_timers :
    ({ ready.planner with settleTimer := some 0 } : Planner).settleTimer = some 0 ∧
    ready.link.isolationTimer = some 800 ∧ ready.planner.duck = .off ∧
    ({ ready.planner with duck := .waiting, duckTimer := some 0 } : Planner).duck = .waiting := by decide

/-- Each channel at the target handed to it, and the duck about to come. -/
def ducking : State :=
  { ready with planner := { Planner.reset with
      channels := .all ⟨.level (-46), some .scene, none⟩, duck := .waiting, duckTimer := some 0 } }

theorem test_duck_timer : ducking.planner.duck = .waiting ∧ ducking.planner.duckTimer = some 0 ∧
    ducking.controller.station ≠ .railDown ∧ ducking.scene.applied.generation ≠ none ∧
    allDistinct (ducking.loader.image.roster.map RosterEntry.channel) = true ∧ noneInFlight ducking ∧
    ∃ t, exec .duckTimerExpiry ducking = .next t ∧ (t.planner.channels.get 0).handedTarget = .level (-70) ∧
      (t.planner.channels.get 0).handedClass = some .scene :=
  ⟨by decide, by decide, by decide, by decide, by decide, by decide, _, rfl, by decide, by decide⟩

def rising : State := withRamp fun r => { r with stepTimer := some 0, target := .level (-40) }

def fading : State := withRamp fun r =>
  { r with stepTimer := some 0, phase := .fading, claims := { ClaimSet.empty with fault := some .soft } }

def dipping : State := withRamp fun r =>
  { r with stepTimer := some 0, phase := .dipping, duckLevel := some (-86),
           claims := { ClaimSet.empty with fault := some .duckHold } }

theorem test_step_open : rising.controller.station ≠ .railDown ∧ (rising.ramps.get 0).stepTimer = some 0 ∧
    (rising.ramps.get 0).currentGain = .level (-46) ∧ (rising.ramps.get 0).phase = .open ∧
    (rising.ramps.get 0).target = .level (-40) := by decide

theorem test_step_fading_and_dipping : (fading.ramps.get 0).stepTimer = some 0 ∧
    (fading.ramps.get 0).currentGain = .level (-46) ∧ (fading.ramps.get 0).phase = .fading ∧
    (dipping.ramps.get 0).stepTimer = some 0 ∧ (dipping.ramps.get 0).currentGain = .level (-46) ∧
    (dipping.ramps.get 0).phase = .dipping ∧ (dipping.ramps.get 0).duckLevel = some (-86) := by decide

theorem test_step_reaches :
    ((withRamp fun r => { r with stepTimer := some 0, target := .silent, currentGain := .level (-119) }).ramps.get 0).target
      = .silent ∧
    ((withRamp fun r => { r with stepTimer := some 0, phase := .fading, currentGain := .level (-119) }).ramps.get 0).currentGain
      = .level (-119) ∧
    0 < ready.loader.image.duckHold := by decide

/-- RAIL_DOWN with channel 0 about to end its fade, every other roster channel at `gain`. -/
def lastFade (gain : Gain) : State :=
  { inState .railDown with
    ramps := (PerChannel.all { RampRecord.reset with currentGain := gain }).set 0
      { openRecord with
        phase := .fading, currentGain := .level (-119), stepTimer := some 0
        claims := { ClaimSet.empty with rest := some .soft, rail := some .soft } } }

theorem test_last_fade_releases : (lastFade .silent).controller.station = .railDown ∧ railDriven (lastFade .silent) ∧
    othersSilent 0 (lastFade .silent) ∧ ((lastFade .silent).ramps.get 0).phase = .fading ∧
    ((lastFade .silent).ramps.get 0).claims.rail.isSome = true ∧
    ∃ t, exec (.stepTimerExpiry 0) (lastFade .silent) = .next t ∧ t.controller.rail = .draining ∧
      t.controller.downTimer = some 80 :=
  ⟨by decide, by decide, by decide, by decide, by decide, _, rfl, by decide, by decide⟩

theorem test_fade_beside_another : anotherSounds 0 (lastFade (.level (-90))) ∧
    ∃ t, exec (.stepTimerExpiry 0) (lastFade (.level (-90))) = .next t ∧ railKept (lastFade (.level (-90))) t ∧
      (t.ramps.get 0).phase = .silent :=
  ⟨by decide, _, rfl, by decide, by decide⟩

/-- RAIL_DOWN with channel 0 holding, every other roster channel silent. -/
def lastHold : State :=
  { lastFade .silent with
    ramps := (lastFade .silent).ramps.set 0
      { openRecord with
        phase := .holding, holdTimer := some 0, duckLevel := some (-86)
        claims := { ClaimSet.empty with rail := some .soft, fault := some .duckHold } } }

theorem test_last_hold_releases : lastHold.controller.station = .railDown ∧ railDriven lastHold ∧ othersSilent 0 lastHold ∧
    (lastHold.ramps.get 0).phase = .holding ∧ (lastHold.ramps.get 0).holdTimer = some 0 ∧
    (lastHold.ramps.get 0).claims.rail.isSome = true := by decide

theorem test_duck_hold :
    let s := withRamp fun r => { r with phase := .holding, holdTimer := some 0, duckLevel := some (-86) }
    s.controller.station ≠ .railDown ∧ (s.ramps.get 0).phase = .holding ∧ (s.ramps.get 0).holdTimer = some 0 := by decide

def preparing (n : Channel) : State :=
  { ready with equaliser := { ready.equaliser with
      state := .preparing, timer := some 0, position := some n, prepared := some ⟨1, 0, 0, 0⟩, list := [0, 3] } }

theorem test_preparation : (preparing 3).controller.station ≠ .starting ∧ (preparing 3).equaliser.state = .preparing ∧
    (preparing 3).equaliser.timer = some 0 ∧ (preparing 3).equaliser.position = some 3 ∧
    (preparing 3).equaliser.prepared = some ⟨1, 0, 0, 0⟩ ∧ (∀ m ∈ (preparing 3).equaliser.list, ¬3 < m) ∧
    (preparing 0).equaliser.list.filter (fun m => decide (0 < m)) = [3] := by decide

theorem test_protection_timers : (withProtection fun p => { p with riseGuard := some 0 }).protection.riseGuard = some 0 ∧
    (withProtection fun p => { p with clipFall := some 0, clip := 1 }).protection.clipFall = some 0 ∧
    0 < (withProtection fun p => { p with clipFall := some 0, clip := 1 }).protection.clip ∧
    retrying.controller.station ≠ .railDown ∧ (retrying.protection.records.get 0).state = .retryWait ∧
    (retrying.protection.records.get 0).retryTimer = some 800 ∧
    (retrying.protection.records.get 0).budgetTimer = some 40000 := by decide

theorem test_retry_under_rail_high :
    (withProtection fun p => { p with active := { p.active with railHigh := true } }).protection.active.railHigh = true := by
  decide

/-! ### Witnesses: inputs -/

theorem test_sense_slots : ready.protection.scan = some 0 ∧ State.reset.protection.scan = none ∧
    (withProtection fun p => { p with scan := some 9 }).protection.scan = some 9 ∧ (9 : Fin 10).val = (7 : Channel).val + 2 := by
  decide

theorem test_unjudged_slots : (withProtection fun p => { p with scan := some 9 }).protection.scan = some 9 ∧
    (9 : Fin 10) ≠ 1 ∧ ¬windowOpen (inState .quiet) ∧ windowOpen ready ∧ descriptorOf ready.loader.image 7 = none ∧
    (inState .unconfigured).controller.station = .unconfigured := by decide

/-- The next slot of `s` is `slot`, with conditions `f` of those of reset and the faults `active`. -/
def sensing (st : StationState) (slot : Fin 10) (f : Conditions → Conditions) (active : PerFault Bool) : State :=
  { inState st with
    ramps := if st = .railDown then (lastFade .silent).ramps else ready.ramps
    protection := { ready.protection with
      scan := some slot, conditions := f ready.protection.conditions, active := active, sticky := active } }

def hot (st : StationState) : State := sensing st 1 (fun c => { c with thermalShut := ⟨false, 1⟩ }) (.all false)

theorem test_thermal_shutdown : (hot .ready).protection.scan = some 1 ∧ (hot .ready).controller.station = .ready ∧
    (hot .ready).protection.conditions.thermalShut = ⟨false, 1⟩ ∧
    (hot .ready).loader.image.protection.shutThreshold ≤ 100 ∧ (hot .ready).protection.active.thermalShut = false ∧
    queueHasPlace (hot .ready) ∧ (hot .ready).link.placesHeld < 7 ∧ (hot .resting).controller.station = .resting ∧
    ∃ t, exec (.senseSlot 100) (hot .ready) = .next t ∧
      t.link.waiting.map QueuedFrame.body = [.alert ⟨.station .thermalShut, .active⟩] :=
  ⟨by decide, by decide, by decide, by decide, by decide, by decide, by decide, by decide, _, rfl, by decide⟩

/-- Every channel fades in RAIL_DOWN as the shut temperature is met. -/
def hotFade : State :=
  { hot .railDown with
    ramps := .all
      { openRecord with phase := .fading, claims := { ClaimSet.empty with rest := some .soft, rail := some .soft } } }

theorem test_thermal_shutdown_in_rail_down : hotFade.controller.station = .railDown ∧ railDriven hotFade ∧
    rampsCoherent hotFade ∧ (∀ n, (hotFade.ramps.get n).claims.rail = some .soft) ∧
    ∃ t, exec (.senseSlot 100) hotFade = .next t ∧ t.controller.rail = .draining :=
  ⟨by decide, by decide, by decide, by decide, _, rfl, by decide⟩

theorem test_thermal_recovery :
    let s := sensing .shutdown 1 (fun c => { c with thermalShut := ⟨true, 1⟩ }) { PerFault.all false with thermalShut := true }
    s.protection.scan = some 1 ∧ s.protection.conditions.thermalShut = ⟨true, 1⟩ ∧
    90 ≤ s.loader.image.protection.shutThreshold - 10 ∧ s.protection.active.thermalShut = true ∧
    s.controller.station = .shutdown ∧ (hot .resting).controller.station ≠ .shutdown := by decide

/-- The station `st`, with THERMAL_WARN in mode `mode` and one reading at the warning. -/
def warming (st : StationState) (mode : LimitMode) : State :=
  let s := sensing st 1 (fun c => { c with thermalWarn := ⟨false, 1⟩ }) (.all false)
  { s with loader := { s.loader with image :=
    { image with protection := { image.protection with warnMode := mode } } } }

/-- The warning adds 12 to the demand in mode LIMIT, and the cut follows. -/
theorem test_thermal_warn : (warming .ready .limit).protection.scan = some 1 ∧
    (warming .ready .limit).protection.conditions.thermalWarn = ⟨false, 1⟩ ∧ image.protection.warnThreshold ≤ 80 ∧
    (warming .ready .limit).protection.active.thermalWarn = false ∧ shutStays 80 (warming .ready .limit) ∧
    queueHasPlace (warming .ready .limit) ∧ (warming .ready .report).loader.image.protection.warnMode = .report ∧
    (warming .ready .ignore).loader.image.protection.warnMode = .ignore ∧
    ∃ t, exec (.senseSlot 80) (warming .ready .limit) = .next t ∧ ownDemand t = 12 ∧ t.planner.cut = 12 ∧
      t.link.waiting.map QueuedFrame.body = [.alert ⟨.station .thermalWarn, .active⟩] :=
  ⟨by decide, by decide, by decide, by decide, by decide, by decide, by decide, by decide, _, rfl, by decide, by decide,
    by decide⟩

theorem test_thermal_warn_clears :
    let s := sensing .ready 1 (fun c => { c with thermalWarn := ⟨true, 1⟩ }) { PerFault.all false with thermalWarn := true }
    s.protection.conditions.thermalWarn = ⟨true, 1⟩ ∧ 75 ≤ s.loader.image.protection.warnThreshold - 5 ∧
    s.protection.active.thermalWarn = true ∧ shutStays 75 s := by decide

def failing (st : StationState) : State := sensing st 0 (fun c => { c with railLow := ⟨false, 1⟩ }) (.all false)

/-- A low rail takes a READY station back to RAIL_UP, and with rail-good present on to STABILISING. -/
theorem test_rail_low : (failing .ready).protection.scan = some 0 ∧ windowOpen (failing .ready) ∧
    windowOpen (failing .stabilising) ∧ windowOpen (failing .railDown) ∧
    (failing .railDown).protection.conditions.railLow = ⟨false, 1⟩ ∧ 89 < image.protection.lowThreshold ∧
    (failing .ready).protection.active.railLow = false ∧ queueHasPlace (failing .ready) ∧
    (failing .ready).link.placesHeld < 6 ∧
    ∃ t, exec (.senseSlot 89) (failing .ready) = .next t ∧ t.controller.station = railUpEnd (failing .ready) ∧
      .alert ⟨.station .railLow, .active⟩ ∈ t.link.waiting.map QueuedFrame.body :=
  ⟨by decide, by decide, by decide, by decide, by decide, by decide, by decide, by decide, by decide, _, rfl, by decide,
    by decide⟩

theorem test_rail_low_clears :
    let s := sensing .railDown 0 (fun c => { c with railLow := ⟨true, 1⟩ }) { PerFault.all false with railLow := true }
    windowOpen s ∧ s.protection.conditions.railLow = ⟨true, 1⟩ ∧ image.protection.lowThreshold + 5 ≤ 95 ∧
    s.protection.active.railLow = true ∧ s.pins.railGood = true ∧
    ({ s with pins := { s.pins with railGood := false } } : State).pins.railGood = false := by decide

theorem test_rail_sag :
    let s := sensing .ready 0 (fun c => { c with railSag := ⟨false, 1⟩ }) (.all false)
    let u := sensing .ready 0 (fun c => { c with railSag := ⟨true, 1⟩ }) { PerFault.all false with railSag := true }
    s.protection.scan = some 0 ∧ windowOpen s ∧ s.protection.conditions.railSag = ⟨false, 1⟩ ∧
    104 < s.loader.image.protection.sagThreshold ∧ s.loader.image.protection.lowThreshold ≤ 104 ∧
    s.protection.active.railSag = false ∧ queueHasPlace s ∧ u.protection.conditions.railSag = ⟨true, 1⟩ ∧
    u.loader.image.protection.sagThreshold + 5 ≤ 110 ∧ u.protection.active.railSag = true := by decide

theorem test_rail_high :
    let s := sensing .ready 0 (fun c => { c with railHigh := ⟨false, 1⟩ }) (.all false)
    let u := sensing .ready 0 (fun c => { c with railHigh := ⟨true, 1⟩ }) { PerFault.all false with railHigh := true }
    windowOpen s ∧ s.protection.conditions.railHigh = ⟨false, 1⟩ ∧ s.loader.image.protection.highThreshold < 161 ∧
    s.loader.image.protection.lowThreshold ≤ 161 ∧ s.loader.image.protection.railHighMode = .enable ∧
    s.protection.active.railHigh = false ∧ s.link.placesHeld < 7 ∧ (s.ramps.get 0).coherent ∧
    (s.ramps.get 0).claims.fault = none ∧ u.protection.conditions.railHigh = ⟨true, 1⟩ ∧
    155 ≤ u.loader.image.protection.highThreshold - 5 ∧ u.protection.active.railHigh = true ∧
    (u.protection.records.get 0).state ∈ [.clear, .reported] := by decide

/-- Channel 0's offset is read, in mode `mode`, with its condition `c` and its record `r`. -/
def offsetRead (mode : DcOffsetMode) (c : Condition) (r : FaultRecord) : State :=
  { withImage (fun i => { i with protection := { i.protection with dcOffsetMode := mode } }) with
    protection := { ready.protection with
      scan := some 2, records := ready.protection.records.set 0 r
      conditions := { ready.protection.conditions with offset := ready.protection.conditions.offset.set 0 c } } }

theorem test_offset_premises :
    let s := offsetRead .latch ⟨false, 1⟩ .reset
    s.protection.scan = some 2 ∧ (2 : Fin 10).val = (0 : Channel).val + 2 ∧ windowOpen s ∧
    (descriptorOf s.loader.image 0).isSome = true ∧ s.loader.image.protection.offsetThreshold < ((-101 : Int).natAbs : Int) ∧
    s.loader.image.protection.offsetThreshold < ((101 : Int).natAbs : Int) ∧
    2 * ((50 : Int).natAbs : Int) ≤ s.loader.image.protection.offsetThreshold ∧ queueHasPlace s := by decide

/-- The table of R153, record state by record state, under LATCH with kind HARD. -/
theorem test_offset_latches :
    (∃ t, exec (.senseSlot 101) (offsetRead .latch ⟨false, 1⟩ .reset) = .next t ∧
      t.protection.records.get 0 = ⟨.latched, some .dcOffset, 1, 0, none, none⟩ ∧ (t.ramps.get 0).phase = .silent) ∧
    (∃ t, exec (.senseSlot (-101)) (offsetRead .latch ⟨false, 1⟩ ⟨.retryWait, some .overcurrent, 1, 0, some 9, none⟩) = .next t ∧
      t.protection.records.get 0 = ⟨.latched, some .dcOffset, 2, 0, none, none⟩) ∧
    (∃ t, exec (.senseSlot 101) (offsetRead .latch ⟨false, 1⟩ ⟨.ducking, some .overcurrent, 1, 0, none, none⟩) = .next t ∧
      t.link.waiting.map QueuedFrame.body = [.alert ⟨.channel .dcOffset 0, .record .ducking⟩]) ∧
    (∃ t, exec (.senseSlot 101) (offsetRead .latch ⟨false, 1⟩ ⟨.latched, some .clip, 255, 0, none, none⟩) = .next t ∧
      t.protection.records.get 0 = ⟨.latched, some .clip, 255, 0, none, none⟩ ∧ t.link.waiting = []) :=
  ⟨⟨_, rfl, by decide, by decide⟩, ⟨_, rfl, by decide⟩, ⟨_, rfl, by decide⟩, ⟨_, rfl, by decide, by decide⟩⟩

theorem test_offset_reports_and_clears :
    (offsetRead .report ⟨false, 1⟩ .reset).loader.image.protection.dcOffsetMode = .report ∧
    (offsetRead .ignore ⟨false, 1⟩ .reset).loader.image.protection.dcOffsetMode = .ignore ∧
    ∃ t, exec (.senseSlot 50) (offsetRead .report ⟨true, 1⟩ ⟨.reported, some .dcOffset, 1, 0, none, none⟩) = .next t ∧
      t.protection.records.get 0 = ⟨.clear, some .dcOffset, 1, 0, none, none⟩ := ⟨rfl, rfl, _, rfl, by decide⟩

theorem test_overcurrent : listening ready ∧ (descriptorOf ready.loader.image 0).isSome = true ∧
    ready.loader.image.protection.overcurrentMode = .retry ∧ ready.loader.image.protection.overcurrentKind = .hard ∧
    (ready.protection.records.get 0).state = .clear ∧ (ready.protection.records.get 0).fits ∧
    (ready.ramps.get 0).coherent ∧ (ready.ramps.get 0).claims.fault = none ∧
    (ready.protection.records.get 0).retriesUsed ≠ 4 ∧ queueHasPlace ready ∧
    (retrying.protection.records.get 0).state = .retryWait := by decide

theorem test_overcurrent_modes :
    let s (m : OvercurrentMode) := withImage fun i => { i with protection := { i.protection with overcurrentMode := m } }
    (s .report).loader.image.protection.overcurrentMode = .report ∧ listening (s .ignore) ∧
    (s .ignore).loader.image.protection.overcurrentMode = .ignore ∧
    ∃ t, exec (.overcurrentFlag 0) (s .report) = .next t ∧
      t.link.waiting.map QueuedFrame.body = [.alert ⟨.channel .overcurrent 0, .record .reported⟩] :=
  ⟨by decide, by decide, by decide, _, rfl, by decide⟩

/-- The overcurrent that silences the last channel in RAIL_DOWN releases the rail. -/
theorem test_overcurrent_in_rail_down : listening (lastFade .silent) ∧ ((lastFade .silent).ramps.get 0).coherent ∧
    ((lastFade .silent).ramps.get 0).claims.fault = none ∧
    ∃ t, exec (.overcurrentFlag 0) (lastFade .silent) = .next t ∧ t.controller.rail = .draining ∧
      (t.protection.records.get 0).retryTimer = some 800 := ⟨by decide, by decide, by decide, _, rfl, by decide, by decide⟩

theorem test_overcurrent_again : listening retrying ∧ railDownSounds retrying ∧
    (retrying.protection.records.get 0).state = .retryWait := by decide

theorem test_overcurrent_spent :
    let s := withProtection fun p => { p with records := p.records.set 0 { FaultRecord.reset with retriesUsed := 4 } }
    (s.protection.records.get 0).fits ∧ (s.protection.records.get 0).retriesUsed = 4 := by decide

theorem test_clip_limit : listening ready ∧ ready.controller.station ≠ .railDown ∧
    ready.loader.image.protection.clipMode = .limit ∧ ready.protection.riseGuard = none ∧ ready.protection.clip < 24 ∧
    (withProtection fun p => { p with clip := 24 }).protection.clip = 24 ∧
    allDistinct (ready.loader.image.roster.map RosterEntry.channel) = true := by decide

/-- A clip flag that raises the cut from 0 hands every roster channel its lower target at PROTECT. -/
theorem test_clip_raises_the_cut : ∃ t, exec (.clipFlag 0) ready = .next t ∧ t.planner.cut = greatestDemand t ∧
    ready.planner.cut < greatestDemand t ∧ (t.planner.channels.get 3).handedClass = some .protect :=
  ⟨_, rfl, by decide, by decide, by decide⟩

theorem test_clip_report :
    let s := withImage fun i => { i with protection := { i.protection with clipMode := .report } }
    listening s ∧ s.loader.image.protection.clipMode = .report ∧ (s.protection.records.get 0).state = .clear := by decide

theorem test_clip_alert : ready.protection.clip = 0 ∧ queueHasPlace ready ∧
    0 < (withProtection fun p => { p with clip := 1 }).protection.clip ∧
    ∃ t, exec (.clipFlag 3) ready = .next t ∧
      t.link.waiting.map QueuedFrame.body = [.alert ⟨.channel .clip 3, .limiting⟩] :=
  ⟨by decide, by decide, by decide, _, rfl, by decide⟩

theorem test_greatest_demand : (withImage fun i => { i with cutMode := some .independent }).loader.image.cutMode =
    some .independent ∧ ready.loader.image.cutMode = some .coupled ∧ greatestDemand (knowing .active 6) = 6 ∧
    greatestDemand (knowing .silent 6) = 6 ∧ greatestDemand (knowing .lost 6) = 0 := by decide

/-- The controller in a state with all four timers running. -/
def timed (st : StationState) : State :=
  { ready with controller :=
    { ready.controller with
      station := st, railGoodTimer := some 0, stabiliseTimer := some 0, downTimer := some 0, railRetryTimer := some 0 } }

theorem test_rail_good : (timed .railUp).controller.station = .railUp ∧ (timed .railUp).controller.railGoodTimer = some 0 ∧
    ready.controller.station ≠ .railUp ∧ ready.controller.station = .ready ∧ ready.controller.rail = .up ∧
    ready.protection.active.railLow = false ∧ State.reset.controller.rail = .off := by decide

theorem test_rail_alerts : queueHasPlace ready ∧ (timed .railUp).protection.active.railFail = false ∧
    queueHasPlace (timed .railUp) ∧
    (∃ t, exec .railGoodLoss ready = .next t ∧ t.link.waiting.map QueuedFrame.body = [.alert ⟨.station .railLow, .active⟩]) ∧
    ∃ t, exec .railGoodTimerExpiry (timed .railUp) = .next t ∧
      t.link.waiting.map QueuedFrame.body = [.alert ⟨.station .railFail, .active⟩] :=
  ⟨by decide, by decide, by decide, ⟨_, rfl, by decide⟩, _, rfl, by decide⟩

theorem test_controller_timers : (timed .quiet).controller.railRetryTimer = some 0 ∧
    (timed .stabilising).controller.stabiliseTimer = some 0 ∧ (timed .railDown).controller.downTimer = some 0 ∧
    (timed .quiet).controller.station = .quiet ∧ (timed .railDown).controller.station = .railDown ∧
    (timed .stabilising).controller.station = .stabilising := by decide

theorem test_rest_empties_or_holds_over : (timed .railDown).link.isolated = false ∧
    ({ timed .railDown with link := { ready.link with isolated := true } } : State).link.isolated = true ∧
    ∃ t, exec .downTimerExpiry { beneath with controller := (timed .railDown).controller } = .next t ∧
      t.peers.entries.get 1 = .absent := ⟨by decide, by decide, _, rfl, by decide⟩

theorem test_stabilised_channel :
    let s := withRamp fun r => { r with phase := .silent, currentGain := .silent, claims := { ClaimSet.empty with rail := some .hard } }
    (s.ramps.get 0).claims = { ClaimSet.empty with rail := some .hard } ∧ (s.ramps.get 0).phase = .silent ∧
    (s.ramps.get 0).target = .level (-46) := by decide

theorem test_wake_line : (inState .resting).controller.station = .resting ∧ (inState .railDown).controller.station = .railDown ∧
    (inState .conflict).controller.station = .conflict ∧ ready.controller.station = .ready := by decide

/-! ### Witnesses: rules that need no command, and invariants -/

theorem test_leading_proposer : recordHeld firstCycle = true ∧ leadingProposer firstCycle = 11 := by decide

theorem test_curve : image.curve1.low < image.curve1.high ∧ computedStep image 1 80 = 0 ∧ computedStep image 1 90 = 1 ∧
    computedStep image 1 239 = 15 ∧ computedStep image 1 240 = 16 := by decide

theorem test_placement : openRecord.claims.get .fault = none ∧ RampRecord.reset.claims.get .rail = some .hard ∧
    ((withRamp fun r => { r with claims := { ClaimSet.empty with fault := some .soft } }).ramps.get 0).claims.get .fault = some .soft ∧
    ¬(SilencingKind.soft = .hard ∨ SilencingKind.soft = SilencingKind.hard ∨ SilencingKind.hard = .duckHold) := by decide

theorem test_engagement : openRecord.phase = .open ∧ openRecord.currentGain = .level (-46) ∧
    duckLevelFor openRecord.target < -46 ∧ (fading.ramps.get 0).phase = .fading ∧ (dipping.ramps.get 0).phase = .dipping ∧
    RampRecord.reset.phase = .silent ∧ -46 ≤ duckLevelFor (.level 0) := by decide

/-- In each phase left, the class held gives way to SCENE when the claims are gone (R121, R123). -/
theorem test_class_gives_way :
    ∀ p ∈ [Phase.silent, .fading, .dipping, .holding], ∀ g ∈ [Gain.silent, .level (-120), .level (-46)],
      ({ openRecord with phase := p, target := g, rateClass := .protect } : RampRecord).leaveSilence.rateClass = .scene := by
  decide

theorem test_engagement_at_the_floor :
    let r := { openRecord with currentGain := .level (-120), target := .level (-120) }
    r.phase = .open ∧ r.currentGain = .level (-120) ∧ (-120 : Int) ≤ -120 ∧ 0 < image.duckHold ∧
    (r.engage 300 .soft).phase = .silent ∧ (r.engage 300 .duckHold).phase = .holding := by decide

theorem test_targets : targetNow ready ⟨0, .frontLeft, .full, 0, 0, 12, true⟩ = .level (-46) ∧
    (withScene fun u => { u with applied := formApplied (some 120) louder 3 }).scene.applied.content.cabinMute = 1 := by decide

/-- Terms that are all levels, beside a gapped position, and a sum above the ceiling. -/
theorem test_terms :
    componentsFor image { Planner.reset with gapSet := [.frontCentre] } content ⟨0, .frontLeft, .full, 0, 0, 12, true⟩ =
      ⟨.level (-46), .level 0, .level 0, .level 0, .level 0, .level 6, .level 0, .level 0, .level (-40)⟩ ∧
    Position.frontCentre ∈ beside .frontLeft ∧ Position.rearLeft ∉ beside .frontLeft ∧
    (∀ p q, q ∈ beside p ↔ adjacent p q = true) ∧
    targetNow (withScene fun u => { u with applied := formApplied (some 120) { content with volume := 63, speedStep := 24 } 3 })
      ⟨0, .frontLeft, .full, 0, 0, 12, true⟩ = .level 12 ∧
    targetNow (withScene fun u => { u with applied := formApplied (some 120) { content with fade := -15 } 3 })
      ⟨0, .frontLeft, .full, 0, 0, 12, true⟩ = .silent ∧
    targetNow (withScene fun u => { u with applied := formApplied (some 120) { content with volume := 1 } 3 })
      ⟨0, .frontLeft, .full, 0, 0, 12, true⟩ = .silent := by
  refine ⟨by decide, by decide, by decide, fun p q => ?_, by decide, by decide, by decide⟩
  cases p <;> cases q <;> decide

theorem test_keys : (0x04 : Byte).toNat < (0x14 : Byte).toNat := by decide

theorem test_full_queue_premises : 8 ≤ fullLink.placesHeld ∧ replaceIn (.mark 1) fullLink.waiting = none ∧
    sceneInTransmission (.mark 1) fullLink = none ∧ (FrameBody.mark 1).rank < (FrameBody.fetch none).rank ∧
    replaceIn (.answer someAnswer) fullLink.waiting = none ∧
    ∀ f ∈ fullLink.waiting, ¬(FrameBody.answer someAnswer).rank < f.body.rank := by decide

theorem test_banks :
    let q := { ready.equaliser with state := .complete, prepared := some ⟨1, 0, 0, 0⟩, swapDue := true, list := [0] }
    q.bypass = false ∧ q.activeSettings ≠ some ⟨1, 0, 0, 0⟩ ∧ q.state = .complete ∧ q.prepared = some ⟨1, 0, 0, 0⟩ ∧
    q.swapDue = true ∧ ready.equaliser.prepared ≠ some ⟨1, 0, 0, 0⟩ := by decide

theorem test_banks_staged :
    let q := (preparing 0).equaliser
    q.bypass = false ∧ q.activeSettings ≠ some ⟨1, 0, 0, 0⟩ ∧ q.prepared = some ⟨1, 0, 0, 0⟩ ∧ q.state = .preparing ∧
    q.prepared ≠ some ⟨2, 0, 0, 0⟩ ∧ ({ q with activeSettings := some ⟨3, 0, 0, 0⟩ } : Equaliser).activeSettings = some ⟨3, 0, 0, 0⟩ ∧
    ({ q with bypass := true } : Equaliser).bypass = true := by decide

theorem test_layouts : (offer 120).wf = true ∧ (sceneOf 120 content).wf = true ∧ (presenceFrame 120 1).wf = true ∧
    FrameKind.probe ≠ .offer ∧ FrameKind.probe ≠ .scene ∧ FrameKind.probe ≠ .presence ∧ 11 ≤ 15 := by decide

/-- The class ranks 4 SPEED, 7 CLEAR, 8 REST and 9 PROBE of R162, before sender 9. -/
theorem test_class_ranks : [FrameKind.speed, .clear, .rest, .probe].map (fun k => keyByte k 9) = [0x49, 0x79, 0x89, 0x99] := by
  decide

/-- A reachable shape: READY, coherent, with a step of a channel waiting in the queue. -/
def running : State := { rising with pending := [.stepTimerExpiry 0] }

theorem test_invariants_meet : rampsCoherent running ∧ railHeld running ∧ faultHeld running ∧ queueFits running ∧
    protectionFits running ∧ bypassIdle running ∧ ∃ t, step running = .next t :=
  ⟨by decide, by decide, by decide, by decide, by decide, by decide, _, rfl⟩

theorem test_more_invariants_meet : railDownSounds running ∧ queueSingle running ∧ railDownSounds (lastFade (.level (-90))) ∧
    (lastFade (.level (-90))).controller.station = .railDown ∧ queueSingle twoPresences := by decide

theorem test_presence_fresh_meets : presenceFresh running ∧ ∃ t, step running = .next t :=
  ⟨fun f h => (by cases h), _, rfl⟩

theorem test_under_ceilings_meets : underCeilings running ∧
    ∀ straps read selfTest rest, running.pending ≠ .startComplete straps read selfTest :: rest :=
  ⟨by decide, fun _ _ _ _ h => by cases h⟩

theorem test_scene_invariants_meet : sceneCoherent running ∧ scenesInRange running := by
  refine ⟨⟨⟨by decide, ?_⟩, ⟨by decide, by decide⟩, fun h => absurd rfl h, ?_, ⟨by decide, ?_⟩⟩,
    by decide, ?_, ?_, by decide⟩
  · intro f h; cases h
  · intro sc g h; cases h
  · intro sc h; cases h
  · intro sc h; cases h
  · intro f e h; cases f <;> cases h

theorem test_quiet_frames_meet : leavesRamps .settleTimerExpiry = true ∧
    quietSender (.answerReceived rx9) = some 9 ∧ (9 : Station) ≠ ready.loader.own ∧
    ready.controller.station ≠ .railDown ∧ ready.controller.station ≠ .resting ∧ ready.link.isolated = false := by decide

theorem test_time_out_without_offers : ∀ b ∈ abandonedFrames (sends (.mark 7)).link, b.isOffer = false := by decide

theorem test_frames_meet : isStart (.settleTimerExpiry) = false ∧ isReception .settleTimerExpiry = false ∧
    ∃ t, exec .settleTimerExpiry ready = .next t :=
  ⟨by decide, by decide, _, rfl⟩

end Sys2Proof.Tests
end

section
/-! PROOFS. The rules of the scene records that need no command: the digest (R3) and the leading proposer (R13). -/

namespace Sys2Proof

/-- The list of a table's values reads the table at each field in order. -/
theorem PerField.toList_eq_map {α : Type} (p : PerField α) : p.toList = allFields.map p.get := rfl

/-- The values listed in table order are the values of the fields. -/
theorem PerField.mem_toList {α : Type} {p : PerField α} {a : α} : a ∈ p.toList ↔ ∃ f, p.get f = a := by
  simp [toList_eq_map, mem_allFields]

namespace Machine

/-! ### The digest (R3) -/

/-- A running value is a remainder modulo 65536 already. -/
theorem digestStep_emod (running mapped : Int) : digestStep running mapped % 65536 = digestStep running mapped := by
  simp [digestStep]

/-- The running value after the ten fields, without the word it is kept in. -/
theorem digestFold_eq (c : Content) :
    allFields.foldl (fun r f => digestStep r (c.get f + digestOffset f)) 1 =
      digestStep (digestStep (digestStep (digestStep (digestStep (digestStep (digestStep (digestStep (digestStep
        (digestStep 1 c.volume) (c.fade + 15)) (c.balance + 15)) (c.bass + 12)) (c.mid + 12)) (c.treble + 12))
        c.preset) c.curve) c.speedStep) c.cabinMute := by
  simp [allFields, digestOffset, PerField.get]

/-- The 16-bit word keeps an integer up to a multiple of 65536. -/
theorem toInt_ofInt_emod (n : Int) : (BitVec.ofInt 16 n).toInt % 65536 = n % 65536 := by
  rw [BitVec.toInt_ofInt]
  exact Int.bmod_emod

/-- Settles O43: the word keeps the running value modulo 65536, and the running value is its own remainder. -/
theorem digestIsTheRunningValue : Obligations.DigestIsTheRunningValue := by
  intro c
  rw [digestOf, toInt_ofInt_emod, digestFold_eq, digestStep_emod]
  simp only [digestStep]

/-! ### The leading proposer (R13) -/

/-- `leads` is the lexicographic order of rank, then proposer. -/
theorem leads_iff {a b : Entry} :
    leads a b = true ↔ b.rank < a.rank ∨ (a.rank = b.rank ∧ b.proposer.val ≤ a.proposer.val) := by
  simp [leads]

theorem leads_refl (a : Entry) : leads a a = true := leads_iff.mpr (.inr ⟨rfl, le_rfl⟩)

theorem leads_trans {a b c : Entry} (hab : leads a b = true) (hbc : leads b c = true) : leads a c = true := by
  rw [leads_iff] at *
  omega

/-- Of two entries one leads the other. -/
theorem leads_of_not_leads {a b : Entry} (h : ¬leads a b = true) : leads b a = true := by
  rw [leads_iff] at *
  omega

/-- A list with no leading entry holds no entry. -/
theorem leadingEntry_eq_none {l : List (Option Entry)} (h : leadingEntry l = none) (e : Entry) : some e ∉ l := by
  induction l with
  | nil => exact List.not_mem_nil
  | cons place rest ih =>
    cases place with
    | none => simpa using ih h
    | some a =>
      unfold leadingEntry at h
      split at h
      · simp at h
      · split at h <;> simp at h

/-- The leading entry stands in the list and leads every entry of it. -/
theorem leadingEntry_spec {l : List (Option Entry)} {e : Entry} (h : leadingEntry l = some e) :
    some e ∈ l ∧ ∀ e', some e' ∈ l → leads e e' = true := by
  induction l generalizing e with
  | nil => simp [leadingEntry] at h
  | cons place rest ih =>
    cases place with
    | none => simpa using ih h
    | some a =>
      simp only [List.mem_cons, Option.some.injEq, forall_eq_or_imp]
      unfold leadingEntry at h
      split at h
      next hrest =>
        cases h
        exact ⟨.inl rfl, leads_refl _, fun e' he' => absurd he' (leadingEntry_eq_none hrest e')⟩
      next b hrest =>
        obtain ⟨hb, bLeads⟩ := ih hrest
        split at h
        next hab =>
          cases h
          exact ⟨.inl rfl, leads_refl _, fun e' he' => leads_trans hab (bLeads e' he')⟩
        next hab =>
          cases h
          exact ⟨.inr hb, leads_of_not_leads hab, bLeads⟩

/-- A held record has a leading entry, whose proposer is the leading proposer. -/
theorem exists_leadingEntry_of_held {p : PendingRecord} (h : recordHeld p = true) :
    ∃ e, leadingEntry p.toList = some e ∧ leadingProposer p = e.proposer := by
  obtain ⟨place, hmem, hplace⟩ := List.any_eq_true.mp h
  obtain ⟨a, rfl⟩ := Option.isSome_iff_exists.mp hplace
  cases he : leadingEntry p.toList with
  | none => exact absurd hmem (leadingEntry_eq_none he a)
  | some e => exact ⟨e, rfl, by simp [leadingProposer, he]⟩

/-- Settles O44: the leading entry of a held record leads every other entry, by rank and then by station number. -/
theorem leadingProposerLeads : Obligations.LeadingProposerLeads := by
  intro p held
  refine ⟨?_, fun g c => rfl⟩
  obtain ⟨e, he, hproposer⟩ := exists_leadingEntry_of_held held
  obtain ⟨hmem, eLeads⟩ := leadingEntry_spec he
  obtain ⟨f, hf⟩ := PerField.mem_toList.mp hmem
  refine ⟨f, e, hf, hproposer.symm, fun f' e' hf' => ?_⟩
  have hle := leads_iff.mp (eLeads e' (PerField.mem_toList.mpr ⟨f', hf'⟩))
  rw [hproposer, Fin.le_def]
  omega

end Machine

end Sys2Proof
end

section
/-! PROOFS. The speed curves that need no command: the computed step and the falling step (R81). -/

namespace Sys2Proof.Machine

/-! ### The step of one of curves 1 to 3 -/

/-- Up to the low speed the step is 0. -/
theorem curveStep_of_le_low {c : Curve} {v : Nat} (h : v ≤ c.low) : curveStep c v = 0 := if_pos h

/-- From the high speed the step is the top step. -/
theorem curveStep_of_high_le {c : Curve} {v : Nat} (ordered : c.low < c.high) (h : c.high ≤ v) :
    curveStep c v = c.top := by
  rw [curveStep, if_neg (by omega), if_pos h]

/-- Between the two speeds the step is the straight line rounded down. -/
theorem curveStep_between {c : Curve} {v : Nat} (above : c.low < v) (below : v < c.high) :
    curveStep c v = c.top * (v - c.low) / (c.high - c.low) := by
  rw [curveStep, if_neg above.not_ge, if_neg below.not_ge]

/-- A step is reached exactly when the curve has it and the line has met it. Below the low speed the line stands at 0
by the truncated difference, so no lower bound on the speed is needed. -/
theorem le_curveStep_iff {c : Curve} (ordered : c.low < c.high) (step v : Nat) :
    step ≤ curveStep c v ↔ step ≤ c.top ∧ step * (c.high - c.low) ≤ c.top * (v - c.low) := by
  have span : 0 < c.high - c.low := Nat.sub_pos_of_lt ordered
  rcases Nat.lt_or_ge c.low v with above | low
  · rcases Nat.lt_or_ge v c.high with below | high
    · rw [curveStep_between above below, Nat.le_div_iff_mul_le span, iff_and_self]
      intro met
      refine Nat.le_of_mul_le_mul_right (met.trans ?_) span
      exact Nat.mul_le_mul_left _ (Nat.sub_le_sub_right below.le _)
    · rw [curveStep_of_high_le ordered high, iff_self_and]
      exact fun h => Nat.mul_le_mul h (Nat.sub_le_sub_right high _)
  · have unmet : step * (c.high - c.low) = 0 ↔ step = 0 := by simp [span.ne']
    rw [curveStep_of_le_low low, Nat.sub_eq_zero_of_le low, Nat.mul_zero, Nat.le_zero, Nat.le_zero, unmet]
    exact ⟨fun h => ⟨h ▸ Nat.zero_le _, h⟩, And.right⟩

/-- A curve never falls as the speed rises: a step that is reached stays reached. -/
theorem curveStep_mono {c : Curve} (ordered : c.low < c.high) {v w : Nat} (h : v ≤ w) :
    curveStep c v ≤ curveStep c w := by
  obtain ⟨inCurve, met⟩ := (le_curveStep_iff ordered _ v).mp le_rfl
  exact (le_curveStep_iff ordered _ w).mpr
    ⟨inCurve, met.trans (Nat.mul_le_mul_left _ (Nat.sub_le_sub_right h _))⟩

/-! ### The curve that a number names -/

/-- Curve 0 is no curve. -/
@[simp] theorem curveOf_zero (image : Image) : curveOf image 0 = none := rfl

/-- The numbers 1 to 3 name the image's curves. -/
theorem curveOf_eq_some {image : Image} {n : Int} {c : Curve}
    (h : (n = 1 ∧ c = image.curve1) ∨ (n = 2 ∧ c = image.curve2) ∨ (n = 3 ∧ c = image.curve3)) :
    curveOf image n = some c := by
  obtain ⟨rfl, rfl⟩ | ⟨rfl, rfl⟩ | ⟨rfl, rfl⟩ := h <;> rfl

/-- Under the number of no curve both steps are 0. -/
theorem steps_of_no_curve {image : Image} {n : Int} (h : curveOf image n = none) (v : Nat) :
    computedStep image n v = 0 ∧ fallingStep image n v = 0 := by
  simp [computedStep, fallingStep, h]

/-- Under the number of a curve the computed step is the curve's step. -/
theorem computedStep_of_curve {image : Image} {n : Int} {c : Curve} (h : curveOf image n = some c) (v : Nat) :
    computedStep image n v = curveStep c v := by
  simp [computedStep, h]

/-- Under the number of a curve the falling step is the curve's step at the speed plus the hysteresis. -/
theorem fallingStep_of_curve {image : Image} {n : Int} {c : Curve} (h : curveOf image n = some c) (v : Nat) :
    fallingStep image n v = curveStep c (v + c.hysteresis) := by
  simp [fallingStep, curveFallingStep, h]

/-- Settles O45: the numbers 1 to 3 read their curve's step, whose three pieces meet in one law of when a step is reached. -/
theorem curveSteps : Obligations.CurveSteps := by
  refine ⟨fun image v => steps_of_no_curve (curveOf_zero image) v, fun image n c v named ordered => ?_⟩
  have hc := curveOf_eq_some named
  simp only [computedStep_of_curve hc, fallingStep_of_curve hc]
  refine ⟨curveStep_of_le_low, curveStep_of_high_le ordered, curveStep_between, trivial,
    fun w => curveStep_mono ordered, fun step inCurve _ => ?_⟩
  rw [le_curveStep_iff ordered, and_iff_right inCurve]

end Sys2Proof.Machine
end

section
/-! PROOFS. The placement of a claim on a channel record (R116). -/

namespace Sys2Proof.Machine

/-! ### Which kinds a placement leaves -/

/-- A kind is not raised where it is HARD already, where the same kind is placed, and by DUCK_HOLD: in every other case the kind
placed is the stronger. -/
theorem not_kindRank_lt_iff (held k : SilencingKind) :
    ¬kindRank held < kindRank k ↔ held = .hard ∨ held = k ∨ k = .duckHold := by
  cases held <;> cases k <;> decide

/-- A claim the set does not hold joins it. -/
theorem placementEngages_of_absent {c : Claim} {r : RampRecord} (absent : r.claims.get c = none) (k : SilencingKind) :
    placementEngages c k r = true := by
  simp [placementEngages, absent]

/-- A claim the set holds is engaged exactly when its kind is raised. -/
theorem placementEngages_iff_of_held {c : Claim} {held : SilencingKind} {r : RampRecord}
    (present : r.claims.get c = some held) (k : SilencingKind) :
    placementEngages c k r = true ↔ kindRank held < kindRank k := by
  simp [placementEngages, present]

/-! ### What a placement leaves -/

/-- A placement that engages writes the kind placed and engages it on the record with the new set. -/
theorem place_of_engages {c : Claim} {k : SilencingKind} {r : RampRecord} (engages : placementEngages c k r = true)
    (hold : Nat) :
    (r.place hold c k).record = ({ r with claims := r.claims.set c (some k) }).engage hold k ∧
      (r.place hold c k).record.claims = r.claims.set c (some k) := by
  refine ⟨?_, ?_⟩
  · rw [RampRecord.place, if_pos engages]
  · rw [place_claims, if_pos engages]

/-- A placement that does not engage leaves the record as it was. -/
theorem place_of_not_engages {c : Claim} {k : SilencingKind} {r : RampRecord} (idle : ¬placementEngages c k r = true)
    (hold : Nat) : (r.place hold c k).record = r := by
  rw [RampRecord.place, if_neg idle]

/-- Settles O46: a placement engages exactly when the claim is absent or its kind is raised, and touches no other claim. -/
theorem placementKeepsTheStrongerKind : Obligations.PlacementKeepsTheStrongerKind := by
  intro hold c k r
  refine ⟨fun absent => place_of_engages (placementEngages_of_absent absent k) hold, fun held present => ?_,
    fun d other => place_get_ne hold c d k r other⟩
  rw [← not_kindRank_lt_iff, not_not, ← placementEngages_iff_of_held present k]
  exact ⟨fun idle => place_of_not_engages idle hold, fun engages => place_of_engages engages hold⟩

end Sys2Proof.Machine
end

section
/-! PROOFS. The effect of a command as a function of the state: every command answers a next state, and no command touches
the queue of commands. -/

namespace Sys2Proof.Machine

/-- The state that a command answers. -/
def effect (c : Instr) (s : State) : State :=
  match exec c s with
  | .next t => t
  | .fault _ => s
  | .refused _ => s

/-- No command faults, and none is refused: each has a meaning. -/
theorem exec_effect (c : Instr) (s : State) : exec c s = .next (effect c s) := by cases c <;> rfl

theorem effect_of_exec {c : Instr} {s t : State} (h : exec c s = .next t) : t = effect c s :=
  (Host.Outcome.next.inj (h.symm.trans (exec_effect c s)))

theorem step_cons {s : State} {c : Instr} {rest : List Instr} (h : s.pending = c :: rest) :
    step s = exec c { s with pending := rest } := by
  unfold step; rw [h]

theorem step_nil {s : State} (h : s.pending = []) : step s = .next (idle s) := by
  unfold step; rw [h]

/-- A step runs the command at the front of the queue, or is idle. -/
theorem step_cases {s t : State} (h : step s = .next t) :
    (∃ c rest, s.pending = c :: rest ∧ t = effect c { s with pending := rest }) ∨
      (s.pending = [] ∧ t = idle s) := by
  cases hp : s.pending with
  | cons c rest =>
    rw [step_cons hp] at h
    exact .inl ⟨c, rest, rfl, effect_of_exec h⟩
  | nil =>
    rw [step_nil hp] at h
    exact .inr ⟨rfl, (Host.Outcome.next.inj h).symm⟩

/-- An invariant that ignores the queue of commands holds after a step when every command and the passing of time keep it. -/
theorem step_invariant {P : State → Prop} {s t : State} (queue : ∀ s p, P s → P { s with pending := p })
    (time : P s → P (timePasses s))
    (command : ∀ c rest, s.pending = c :: rest → P { s with pending := rest } → P (effect c { s with pending := rest }))
    (hs : P s) (h : step s = .next t) : P t := by
  obtain ⟨c, rest, hp, ht⟩ | ⟨_, ht⟩ := step_cases h
  · rw [ht]
    exact command c rest hp (queue s rest hs)
  · rw [ht]
    unfold idle
    split
    · exact queue s _ hs
    · exact time hs

/-- Settles O1. -/
theorem stepRunsFrontCommand : Obligations.StepRunsFrontCommand := by
  intro c rest s
  exact step_cons (s := { s with pending := c :: rest }) rfl

/-! ### A field that a reception keeps -/

section
variable {α : Type} (f : State → α)

/-- A field that hearing a frame, a reported conflict, a wake, the handling and the end of the command keep. -/
theorem received_field (good : ∀ t, f (goodFrame t) = f t) (conflict : ∀ t, f (reportConflict t) = f t)
    (woken : ∀ t, f (wake t) = f t) (ends : ∀ t, f (finish t) = f t) (rx : Reception) {handle : State → State}
    (handled : ∀ t, f (handle t) = f t) (s : State) : f (received rx handle s) = f s := by
  unfold received
  rw [ends]
  exact receive_invariant (P := fun t => f t = f s) rx handle (good s) (fun t h => (conflict t).trans h)
    (fun t h => (woken t).trans h) (fun t h => (handled t).trans h)

/-- As `received_field`, for the frames that wake no station. -/
theorem receiveUnheard_field (good : ∀ t, f (goodFrame t) = f t) (conflict : ∀ t, f (reportConflict t) = f t)
    (n : Station) {handle : State → State} (handled : ∀ t, f (handle t) = f t) (s : State) :
    f (receiveUnheard n handle s) = f s :=
  receiveUnheard_invariant (P := fun t => f t = f s) n handle (good s) (fun t h => (conflict t).trans h)
    (fun t h => (handled t).trans h)

end

end Sys2Proof.Machine
end

section
/-! PROOFS. How the release of the rail, the frame counters and the reception of a frame enter a frame condition. -/

namespace Sys2Proof.Machine

/-! ### The release of the rail at the end of a command -/

@[simp] theorem releaseRail_rail (s : State) : (releaseRail s).controller.rail = .draining := by simp [releaseRail]

/-- A command that leaves the rail as it was in RAIL_DOWN has not released it, so that it ends with the refresh alone (R183). -/
theorem finish_of_railKept {s u : State} (hc : u.controller = s.controller) (h : railKept s (finish u)) :
    finish u = refreshPresence u := by
  rcases takeSilence_cases u with hk | ⟨hd, he, -, hr⟩
  · simp only [finish, hk]
  · have hrail := h (hc ▸ hd)
    rw [finish, hr] at hrail
    simp only [refreshPresence_keeps, releaseRail_rail] at hrail
    simp [railEnable, hc, ← hrail] at he

/-! ### Counters of the line -/

/-- The link counters without the queue drops, which alone the giving of a frame counts (R168, R171). -/
def LinkCounters.butDrops (k : LinkCounters) : LinkCounters := { k with queueDrops := 0 }

theorem LinkCounters.butDrops_eq_iff {k l : LinkCounters} :
    k.butDrops = l.butDrops ↔ k.framesSent = l.framesSent ∧ k.notAcknowledged = l.notAcknowledged ∧
      k.arbitrationLost = l.arbitrationLost ∧ k.checkErrors = l.checkErrors ∧ k.lineTimeOuts = l.lineTimeOuts ∧
      k.alertsReceived = l.alertsReceived ∧ k.offersRefused = l.offersRefused ∧ k.staleOffers = l.staleOffers ∧
      k.failedResyncs = l.failedResyncs ∧ k.restsRefused = l.restsRefused := by
  simp [LinkCounters.butDrops]

@[simp] theorem give_butDrops (admits : Bool) (b : FrameBody) (l : Link) :
    (l.give admits b).1.counters.butDrops = l.counters.butDrops := by
  unfold Link.give
  repeat' split
  all_goals simp [Link.insert, Link.countDrop, LinkCounters.butDrops]

@[simp] theorem queueSpeedOffer_butDrops (o : Offer) (s : State) :
    (queueSpeedOffer o s).link.counters.butDrops = s.link.counters.butDrops := by
  unfold queueSpeedOffer; dsimp only; repeat' split
  all_goals simp

@[simp] theorem offerCheck_butDrops (s : State) :
    (offerCheck s).link.counters.butDrops = s.link.counters.butDrops := by
  unfold offerCheck; repeat' split
  all_goals simp

@[simp] theorem offerEnds_butDrops (s : State) :
    (offerEnds s).link.counters.butDrops = s.link.counters.butDrops := by simp [offerEnds]

@[simp] theorem frameEnds_butDrops (b : FrameBody) (s : State) :
    (frameEnds b s).link.counters.butDrops = s.link.counters.butDrops := by
  unfold frameEnds; split <;> simp

@[simp] theorem giveFrame_butDrops (b : FrameBody) (s : State) :
    (giveFrame b s).link.counters.butDrops = s.link.counters.butDrops := by
  unfold giveFrame; dsimp only; split <;> simp

@[simp] theorem queueAlert_butDrops (a : AlertSubject) (x : AlertState) (s : State) :
    (queueAlert a x s).link.counters.butDrops = s.link.counters.butDrops := by simp [queueAlert]

@[simp] theorem presenceRunsOut_butDrops (s : State) :
    (presenceRunsOut s).link.counters.butDrops = s.link.counters.butDrops := by simp [presenceRunsOut]

@[simp] theorem startFirstPresence_butDrops (s : State) :
    (startFirstPresence s).link.counters.butDrops = s.link.counters.butDrops := by
  unfold startFirstPresence; split <;> simp

@[simp] theorem wake_butDrops (s : State) : (wake s).link.counters.butDrops = s.link.counters.butDrops := by
  unfold wake; dsimp only; repeat' split
  all_goals simp

@[simp] theorem enterResting_counters (s : State) : (enterResting s).link.counters = s.link.counters := by
  unfold enterResting; dsimp only; split <;> simp

@[simp] theorem askConflict_counters (s : State) : (askConflict s).link.counters = s.link.counters := by
  unfold askConflict; split <;> simp

@[simp] theorem raiseFault_butDrops (f : StationFault) (s : State) :
    (raiseFault f s).link.counters.butDrops = s.link.counters.butDrops := by
  unfold raiseFault; dsimp only; repeat' split
  all_goals simp

@[simp] theorem silenceChannel_butDrops (a : ChannelFault) (k : SilencingKind) (d : RecordState) (n : Channel) (s : State) :
    (silenceChannel a k d n s).link.counters.butDrops = s.link.counters.butDrops := by simp [silenceChannel]

@[simp] theorem reportConflict_butDrops (s : State) :
    (reportConflict s).link.counters.butDrops = s.link.counters.butDrops := by simp [reportConflict]

@[simp] theorem queueApplied_butDrops (s : State) :
    (queueApplied s).link.counters.butDrops = s.link.counters.butDrops := by
  unfold queueApplied; split <;> simp

@[simp] theorem announce_butDrops (s : State) : (announce s).link.counters.butDrops = s.link.counters.butDrops := by
  unfold announce; split <;> simp

@[simp] theorem leaveProvisional_butDrops (a : AppliedScene) (s : State) :
    (leaveProvisional a s).link.counters.butDrops = s.link.counters.butDrops := by simp [leaveProvisional]

@[simp] theorem queueFetch_butDrops (w : Generation) (s : State) :
    (queueFetch w s).link.counters.butDrops = s.link.counters.butDrops := by simp [queueFetch]

@[simp] theorem queueFetchOnce_butDrops (w : Generation) (s : State) :
    (queueFetchOnce w s).link.counters.butDrops = s.link.counters.butDrops := by
  unfold queueFetchOnce; split <;> simp

@[simp] theorem fetchAfresh_butDrops (w : Generation) (s : State) :
    (fetchAfresh w s).link.counters.butDrops = s.link.counters.butDrops := by simp [fetchAfresh]

@[simp] theorem enterResync_butDrops (w : Generation) (s : State) :
    (enterResync w s).link.counters.butDrops = s.link.counters.butDrops := by simp [enterResync]

@[simp] theorem takeScene_butDrops (sc : Scene) (s : State) :
    (takeScene sc s).link.counters.butDrops = s.link.counters.butDrops := by
  unfold takeScene; dsimp only; repeat' split
  all_goals simp [withdrawScene, Link.withdraw]

@[simp] theorem takeFetch_butDrops (w : Option Generation) (s : State) :
    (takeFetch w s).link.counters.butDrops = s.link.counters.butDrops := by
  unfold takeFetch; repeat' split
  all_goals simp

@[simp] theorem takeReport_butDrops (g : Generation) (d : Digest) (s : State) :
    (takeReport g d s).link.counters.butDrops = s.link.counters.butDrops := by
  unfold takeReport reportInAgreed reportInResync; dsimp only; repeat' split
  all_goals simp

@[simp] theorem joinWindowEnds_butDrops (s : State) :
    (joinWindowEnds s).link.counters.butDrops = s.link.counters.butDrops := by
  unfold joinWindowEnds; split <;> simp

@[simp] theorem applyStaged_butDrops (s : State) :
    (applyStaged s).link.counters.butDrops = s.link.counters.butDrops := by
  unfold applyStaged; split <;> simp

@[simp] theorem markEvent_butDrops (o : MarkOrder) (s : State) :
    (markEvent o s).link.counters.butDrops = s.link.counters.butDrops := by
  simp only [markEvent, inTurn]
  repeat' split
  all_goals simp

@[simp] theorem watchOffer_butDrops (o : Offer) (s : State) :
    (watchOffer o s).link.counters.butDrops = s.link.counters.butDrops := by
  unfold watchOffer; split <;> simp [Link.withdraw]

@[simp] theorem checkIfChanged_butDrops (k : Nat) (s : State) :
    (checkIfChanged k s).link.counters.butDrops = s.link.counters.butDrops := by
  unfold checkIfChanged; split <;> simp

@[simp] theorem takeSpeed_butDrops (n : Station) (v : Nat) (b : Bool) (s : State) :
    (takeSpeed n v b s).link.counters.butDrops = s.link.counters.butDrops := by
  unfold takeSpeed; split <;> simp

end Sys2Proof.Machine
end

section
/-! PROOFS. What a reception keeps when its handling keeps it. -/

namespace Sys2Proof.Machine

/-- The counters of what passes on the line: frames sent and not acknowledged, arbitrations lost, bad checks, time-outs (R171). -/
def LinkCounters.lineCounts (k : LinkCounters) : LinkCounters :=
  { LinkCounters.zero with
    framesSent := k.framesSent, notAcknowledged := k.notAcknowledged, arbitrationLost := k.arbitrationLost
    checkErrors := k.checkErrors, lineTimeOuts := k.lineTimeOuts }

theorem LinkCounters.lineCounts_of_butDrops {k l : LinkCounters} (h : k.butDrops = l.butDrops) :
    k.lineCounts = l.lineCounts := by
  obtain ⟨h1, h2, h3, h4, h5, -⟩ := LinkCounters.butDrops_eq_iff.1 h
  simp [LinkCounters.lineCounts, h1, h2, h3, h4, h5]

@[simp] theorem goodFrame_lineCounts (s : State) :
    (goodFrame s).link.counters.lineCounts = s.link.counters.lineCounts := by simp

@[simp] theorem giveFrame_lineCounts (b : FrameBody) (s : State) :
    (giveFrame b s).link.counters.lineCounts = s.link.counters.lineCounts :=
  LinkCounters.lineCounts_of_butDrops (giveFrame_butDrops b s)

@[simp] theorem reportConflict_lineCounts (s : State) :
    (reportConflict s).link.counters.lineCounts = s.link.counters.lineCounts :=
  LinkCounters.lineCounts_of_butDrops (reportConflict_butDrops s)

@[simp] theorem wake_lineCounts (s : State) : (wake s).link.counters.lineCounts = s.link.counters.lineCounts :=
  LinkCounters.lineCounts_of_butDrops (wake_butDrops s)

section
variable (rx : Reception) (n : Station) {handle : State → State} (s : State)

@[simp] theorem received_monitor (h : ∀ t, (handle t).pending = t.pending ∧ (handle t).draws = t.draws ∧
      (handle t).protection.scan = t.protection.scan ∧ (handle t).protection.readings = t.protection.readings ∧
      (handle t).protection.clip = t.protection.clip ∧ (handle t).protection.riseGuard = t.protection.riseGuard ∧
      (handle t).protection.clipFall = t.protection.clipFall) :
    (received rx handle s).pending = s.pending ∧ (received rx handle s).draws = s.draws ∧
    (received rx handle s).protection.scan = s.protection.scan ∧
    (received rx handle s).protection.readings = s.protection.readings ∧
    (received rx handle s).protection.clip = s.protection.clip ∧
    (received rx handle s).protection.riseGuard = s.protection.riseGuard ∧
    (received rx handle s).protection.clipFall = s.protection.clipFall := by
  simp only [received, finish_keeps]
  exact receive_invariant (P := fun t => t.pending = s.pending ∧ t.draws = s.draws ∧ t.protection.scan = s.protection.scan ∧
      t.protection.readings = s.protection.readings ∧ t.protection.clip = s.protection.clip ∧
      t.protection.riseGuard = s.protection.riseGuard ∧ t.protection.clipFall = s.protection.clipFall) rx handle
    (by simp) (fun t e => by simpa using e) (fun t e => by simpa using e) (fun t e => by simpa [h t] using e)

@[simp] theorem receiveUnheard_monitor (h : ∀ t, (handle t).pending = t.pending ∧ (handle t).draws = t.draws ∧
      (handle t).protection.scan = t.protection.scan ∧ (handle t).protection.readings = t.protection.readings ∧
      (handle t).protection.clip = t.protection.clip ∧ (handle t).protection.riseGuard = t.protection.riseGuard ∧
      (handle t).protection.clipFall = t.protection.clipFall) :
    (receiveUnheard n handle s).pending = s.pending ∧ (receiveUnheard n handle s).draws = s.draws ∧
    (receiveUnheard n handle s).protection.scan = s.protection.scan ∧
    (receiveUnheard n handle s).protection.readings = s.protection.readings ∧
    (receiveUnheard n handle s).protection.clip = s.protection.clip ∧
    (receiveUnheard n handle s).protection.riseGuard = s.protection.riseGuard ∧
    (receiveUnheard n handle s).protection.clipFall = s.protection.clipFall := by
  exact receiveUnheard_invariant (P := fun t => t.pending = s.pending ∧ t.draws = s.draws ∧ t.protection.scan = s.protection.scan ∧
      t.protection.readings = s.protection.readings ∧ t.protection.clip = s.protection.clip ∧
      t.protection.riseGuard = s.protection.riseGuard ∧ t.protection.clipFall = s.protection.clipFall) n handle
    (by simp) (fun t e => by simpa using e) (fun t e => by simpa [h t] using e)

@[simp] theorem received_speedRecord (h : ∀ t, (handle t).speed.source = t.speed.source ∧ (handle t).speed.state = t.speed.state ∧
      (handle t).speed.desired = t.speed.desired ∧ (handle t).speed.fallTimer = t.speed.fallTimer) :
    (received rx handle s).speed.source = s.speed.source ∧ (received rx handle s).speed.state = s.speed.state ∧
    (received rx handle s).speed.desired = s.speed.desired ∧
    (received rx handle s).speed.fallTimer = s.speed.fallTimer := by
  simp only [received, finish_keeps]
  exact receive_invariant (P := fun t => t.speed.source = s.speed.source ∧ t.speed.state = s.speed.state ∧ t.speed.desired = s.speed.desired ∧
      t.speed.fallTimer = s.speed.fallTimer) rx handle
    (by simp) (fun t e => by simpa using e) (fun t e => by simpa using e) (fun t e => by simpa [h t] using e)

@[simp] theorem receiveUnheard_speedRecord (h : ∀ t, (handle t).speed.source = t.speed.source ∧ (handle t).speed.state = t.speed.state ∧
      (handle t).speed.desired = t.speed.desired ∧ (handle t).speed.fallTimer = t.speed.fallTimer) :
    (receiveUnheard n handle s).speed.source = s.speed.source ∧
    (receiveUnheard n handle s).speed.state = s.speed.state ∧
    (receiveUnheard n handle s).speed.desired = s.speed.desired ∧
    (receiveUnheard n handle s).speed.fallTimer = s.speed.fallTimer := by
  exact receiveUnheard_invariant (P := fun t => t.speed.source = s.speed.source ∧ t.speed.state = s.speed.state ∧ t.speed.desired = s.speed.desired ∧
      t.speed.fallTimer = s.speed.fallTimer) n handle
    (by simp) (fun t e => by simpa using e) (fun t e => by simpa [h t] using e)

@[simp] theorem received_pins (h : ∀ t, (handle t).pins = t.pins) :
    (received rx handle s).pins = s.pins := by
  simp only [received, finish_keeps]
  exact receive_invariant (P := fun t => t.pins = s.pins) rx handle
    (by simp) (fun t e => by simpa using e) (fun t e => by simpa using e) (fun t e => by simpa [h t] using e)

@[simp] theorem receiveUnheard_pins (h : ∀ t, (handle t).pins = t.pins) :
    (receiveUnheard n handle s).pins = s.pins := by
  exact receiveUnheard_invariant (P := fun t => t.pins = s.pins) n handle
    (by simp) (fun t e => by simpa using e) (fun t e => by simpa [h t] using e)

@[simp] theorem received_loader (h : ∀ t, (handle t).loader = t.loader) :
    (received rx handle s).loader = s.loader := by
  simp only [received, finish_keeps]
  exact receive_invariant (P := fun t => t.loader = s.loader) rx handle
    (by simp) (fun t e => by simpa using e) (fun t e => by simpa using e) (fun t e => by simpa [h t] using e)

@[simp] theorem receiveUnheard_loader (h : ∀ t, (handle t).loader = t.loader) :
    (receiveUnheard n handle s).loader = s.loader := by
  exact receiveUnheard_invariant (P := fun t => t.loader = s.loader) n handle
    (by simp) (fun t e => by simpa using e) (fun t e => by simpa [h t] using e)

@[simp] theorem received_scene (h : ∀ t, (handle t).scene = t.scene) :
    (received rx handle s).scene = s.scene := by
  simp only [received, finish_keeps]
  exact receive_invariant (P := fun t => t.scene = s.scene) rx handle
    (by simp) (fun t e => by simpa using e) (fun t e => by simpa using e) (fun t e => by simpa [h t] using e)

@[simp] theorem receiveUnheard_scene (h : ∀ t, (handle t).scene = t.scene) :
    (receiveUnheard n handle s).scene = s.scene := by
  exact receiveUnheard_invariant (P := fun t => t.scene = s.scene) n handle
    (by simp) (fun t e => by simpa using e) (fun t e => by simpa [h t] using e)

@[simp] theorem received_equaliser (h : ∀ t, (handle t).equaliser = t.equaliser) :
    (received rx handle s).equaliser = s.equaliser := by
  simp only [received, finish_keeps]
  exact receive_invariant (P := fun t => t.equaliser = s.equaliser) rx handle
    (by simp) (fun t e => by simpa using e) (fun t e => by simpa using e) (fun t e => by simpa [h t] using e)

@[simp] theorem receiveUnheard_equaliser (h : ∀ t, (handle t).equaliser = t.equaliser) :
    (receiveUnheard n handle s).equaliser = s.equaliser := by
  exact receiveUnheard_invariant (P := fun t => t.equaliser = s.equaliser) n handle
    (by simp) (fun t e => by simpa using e) (fun t e => by simpa [h t] using e)

@[simp] theorem received_cycleNumber (h : ∀ t, (handle t).cycle.number = t.cycle.number) :
    (received rx handle s).cycle.number = s.cycle.number := by
  simp only [received, finish_keeps]
  exact receive_invariant (P := fun t => t.cycle.number = s.cycle.number) rx handle
    (by simp) (fun t e => by simpa using e) (fun t e => by simpa using e) (fun t e => by simpa [h t] using e)

@[simp] theorem receiveUnheard_cycleNumber (h : ∀ t, (handle t).cycle.number = t.cycle.number) :
    (receiveUnheard n handle s).cycle.number = s.cycle.number := by
  exact receiveUnheard_invariant (P := fun t => t.cycle.number = s.cycle.number) n handle
    (by simp) (fun t e => by simpa using e) (fun t e => by simpa [h t] using e)

@[simp] theorem received_lineCounts (h : ∀ t, (handle t).link.counters.lineCounts = t.link.counters.lineCounts) :
    (received rx handle s).link.counters.lineCounts = s.link.counters.lineCounts := by
  simp only [received, finish_keeps]
  exact receive_invariant (P := fun t => t.link.counters.lineCounts = s.link.counters.lineCounts) rx handle
    (by simp) (fun t e => by simpa using e) (fun t e => by simpa using e) (fun t e => by simpa [h t] using e)

@[simp] theorem receiveUnheard_lineCounts (h : ∀ t, (handle t).link.counters.lineCounts = t.link.counters.lineCounts) :
    (receiveUnheard n handle s).link.counters.lineCounts = s.link.counters.lineCounts := by
  exact receiveUnheard_invariant (P := fun t => t.link.counters.lineCounts = s.link.counters.lineCounts) n handle
    (by simp) (fun t e => by simpa using e) (fun t e => by simpa [h t] using e)

@[simp] theorem received_butDrops (h : ∀ t, (handle t).link.counters.butDrops = t.link.counters.butDrops) :
    (received rx handle s).link.counters.butDrops = s.link.counters.butDrops := by
  simp only [received, finish_keeps]
  exact receive_invariant (P := fun t => t.link.counters.butDrops = s.link.counters.butDrops) rx handle
    (by simp) (fun t e => by simpa using e) (fun t e => by simpa using e) (fun t e => by simpa [h t] using e)

@[simp] theorem receiveUnheard_butDrops (h : ∀ t, (handle t).link.counters.butDrops = t.link.counters.butDrops) :
    (receiveUnheard n handle s).link.counters.butDrops = s.link.counters.butDrops := by
  exact receiveUnheard_invariant (P := fun t => t.link.counters.butDrops = s.link.counters.butDrops) n handle
    (by simp) (fun t e => by simpa using e) (fun t e => by simpa [h t] using e)

end

end Sys2Proof.Machine
end

section
/-! PROOFS. What the handling of each frame and input leaves as it was, one lemma for each function of Machine/Received.lean,
Machine/Inputs.lean, Machine/OwnFrames.lean and Machine/Probes.lean that a command runs. -/

namespace Sys2Proof.Machine

/-! ### Frames received -/

@[simp] theorem restartCycle_keeps (s : State) :
    (restartCycle s).pending = s.pending ∧ (restartCycle s).pins = s.pins ∧ (restartCycle s).loader = s.loader ∧
    (restartCycle s).link.sending = s.link.sending ∧ (restartCycle s).cycle.number = s.cycle.number ∧
    (restartCycle s).peers = s.peers ∧ (restartCycle s).scene = s.scene ∧
    (restartCycle s).speed.source = s.speed.source ∧ (restartCycle s).speed.state = s.speed.state ∧
    (restartCycle s).speed.desired = s.speed.desired ∧ (restartCycle s).speed.fallTimer = s.speed.fallTimer ∧
    (restartCycle s).equaliser = s.equaliser ∧ (restartCycle s).protection.scan = s.protection.scan ∧
    (restartCycle s).protection.readings = s.protection.readings ∧
    (restartCycle s).protection.clip = s.protection.clip ∧
    (restartCycle s).protection.riseGuard = s.protection.riseGuard ∧
    (restartCycle s).protection.clipFall = s.protection.clipFall ∧
    (restartCycle s).protection.sticky = s.protection.sticky ∧
    (restartCycle s).controller.station = s.controller.station ∧
    (restartCycle s).controller.stop = s.controller.stop ∧ (restartCycle s).draws = s.draws ∧
    (restartCycle s).link = s.link ∧ (restartCycle s).planner = s.planner ∧ (restartCycle s).ramps = s.ramps ∧
    (restartCycle s).protection = s.protection ∧ (restartCycle s).controller = s.controller := by
  unfold restartCycle; split <;> simp

@[simp] theorem takeMark_keeps (n : CycleNumber) (o : MarkOrder) (s : State) :
    (takeMark n o s).pending = s.pending ∧ (takeMark n o s).pins = s.pins ∧ (takeMark n o s).loader = s.loader ∧
    (takeMark n o s).link.sending = s.link.sending ∧ (takeMark n o s).peers = s.peers ∧
    (takeMark n o s).speed.source = s.speed.source ∧ (takeMark n o s).speed.state = s.speed.state ∧
    (takeMark n o s).speed.desired = s.speed.desired ∧ (takeMark n o s).speed.fallTimer = s.speed.fallTimer ∧
    (takeMark n o s).protection.scan = s.protection.scan ∧
    (takeMark n o s).protection.readings = s.protection.readings ∧
    (takeMark n o s).protection.clip = s.protection.clip ∧
    (takeMark n o s).protection.riseGuard = s.protection.riseGuard ∧
    (takeMark n o s).protection.clipFall = s.protection.clipFall ∧
    (takeMark n o s).protection.sticky = s.protection.sticky ∧
    (takeMark n o s).controller.station = s.controller.station ∧
    (takeMark n o s).controller.stop = s.controller.stop ∧ (takeMark n o s).draws = s.draws := by
  simp [takeMark, Link.withdraw]

@[simp] theorem reportGeneration_keeps (r : Report) (s : State) :
    (reportGeneration r s).pending = s.pending ∧ (reportGeneration r s).pins = s.pins ∧
    (reportGeneration r s).loader = s.loader ∧ (reportGeneration r s).link.sending = s.link.sending ∧
    (reportGeneration r s).cycle.number = s.cycle.number ∧ (reportGeneration r s).peers = s.peers ∧
    (reportGeneration r s).speed.source = s.speed.source ∧ (reportGeneration r s).speed.state = s.speed.state ∧
    (reportGeneration r s).speed.desired = s.speed.desired ∧
    (reportGeneration r s).speed.fallTimer = s.speed.fallTimer ∧ (reportGeneration r s).equaliser = s.equaliser ∧
    (reportGeneration r s).protection.scan = s.protection.scan ∧
    (reportGeneration r s).protection.readings = s.protection.readings ∧
    (reportGeneration r s).protection.clip = s.protection.clip ∧
    (reportGeneration r s).protection.riseGuard = s.protection.riseGuard ∧
    (reportGeneration r s).protection.clipFall = s.protection.clipFall ∧
    (reportGeneration r s).protection.sticky = s.protection.sticky ∧
    (reportGeneration r s).controller.station = s.controller.station ∧
    (reportGeneration r s).controller.stop = s.controller.stop ∧ (reportGeneration r s).draws = s.draws ∧
    (reportGeneration r s).planner = s.planner ∧ (reportGeneration r s).ramps = s.ramps ∧
    (reportGeneration r s).protection = s.protection ∧ (reportGeneration r s).controller = s.controller := by
  unfold reportGeneration; split <;> simp

@[simp] theorem takePresence_keeps (n : Station) (f : PresenceFrame) (s : State) :
    (takePresence n f s).pending = s.pending ∧ (takePresence n f s).pins = s.pins ∧
    (takePresence n f s).loader = s.loader ∧ (takePresence n f s).link.sending = s.link.sending ∧
    (takePresence n f s).cycle.number = s.cycle.number ∧ (takePresence n f s).speed.source = s.speed.source ∧
    (takePresence n f s).speed.state = s.speed.state ∧ (takePresence n f s).speed.desired = s.speed.desired ∧
    (takePresence n f s).speed.fallTimer = s.speed.fallTimer ∧ (takePresence n f s).equaliser = s.equaliser ∧
    (takePresence n f s).protection.scan = s.protection.scan ∧
    (takePresence n f s).protection.readings = s.protection.readings ∧
    (takePresence n f s).protection.clip = s.protection.clip ∧
    (takePresence n f s).protection.riseGuard = s.protection.riseGuard ∧
    (takePresence n f s).protection.clipFall = s.protection.clipFall ∧
    (takePresence n f s).protection.sticky = s.protection.sticky ∧
    (takePresence n f s).controller.station = s.controller.station ∧
    (takePresence n f s).controller.stop = s.controller.stop ∧ (takePresence n f s).draws = s.draws ∧
    (takePresence n f s).controller = s.controller ∧ (takePresence n f s).protection.active = s.protection.active ∧
    (takePresence n f s).protection.conditions = s.protection.conditions := by
  unfold takePresence; split
  · simp
  · unfold recordReport; dsimp only
    repeat' split
    all_goals simp

@[simp] theorem clearChannel_keeps (n : Channel) (s : State) :
    (clearChannel n s).pending = s.pending ∧ (clearChannel n s).pins = s.pins ∧ (clearChannel n s).loader = s.loader ∧
    (clearChannel n s).link.sending = s.link.sending ∧ (clearChannel n s).cycle.number = s.cycle.number ∧
    (clearChannel n s).peers = s.peers ∧ (clearChannel n s).scene = s.scene ∧
    (clearChannel n s).speed.source = s.speed.source ∧ (clearChannel n s).speed.state = s.speed.state ∧
    (clearChannel n s).speed.desired = s.speed.desired ∧ (clearChannel n s).speed.fallTimer = s.speed.fallTimer ∧
    (clearChannel n s).equaliser = s.equaliser ∧ (clearChannel n s).protection.scan = s.protection.scan ∧
    (clearChannel n s).protection.readings = s.protection.readings ∧
    (clearChannel n s).protection.clip = s.protection.clip ∧
    (clearChannel n s).protection.riseGuard = s.protection.riseGuard ∧
    (clearChannel n s).protection.clipFall = s.protection.clipFall ∧
    (clearChannel n s).protection.sticky = s.protection.sticky ∧
    (clearChannel n s).controller.station = s.controller.station ∧
    (clearChannel n s).controller.stop = s.controller.stop ∧ (clearChannel n s).draws = s.draws ∧
    (clearChannel n s).link = s.link ∧ (clearChannel n s).cycle = s.cycle ∧ (clearChannel n s).planner = s.planner ∧
    (clearChannel n s).controller = s.controller ∧ (clearChannel n s).protection.active = s.protection.active := by
  unfold clearChannel; dsimp only; split <;> simp

/-- A fold over states keeps a field that each of its steps keeps. -/
theorem foldl_field {α β : Type} (f : State → β) {g : State → α → State} (h : ∀ t a, f (g t a) = f t) (l : List α)
    (s : State) : f (l.foldl g s) = f s :=
  foldl_invariant (P := fun t => f t = f s) rfl (fun t a e => (h t a).trans e) l

@[simp] theorem clearChannels_keeps (k : PerChannel Bool) (s : State) :
    (clearChannels k s).pending = s.pending ∧ (clearChannels k s).pins = s.pins ∧
    (clearChannels k s).loader = s.loader ∧ (clearChannels k s).link.sending = s.link.sending ∧
    (clearChannels k s).cycle.number = s.cycle.number ∧ (clearChannels k s).peers = s.peers ∧
    (clearChannels k s).scene = s.scene ∧ (clearChannels k s).speed.source = s.speed.source ∧
    (clearChannels k s).speed.state = s.speed.state ∧ (clearChannels k s).speed.desired = s.speed.desired ∧
    (clearChannels k s).speed.fallTimer = s.speed.fallTimer ∧ (clearChannels k s).equaliser = s.equaliser ∧
    (clearChannels k s).protection.scan = s.protection.scan ∧
    (clearChannels k s).protection.readings = s.protection.readings ∧
    (clearChannels k s).protection.clip = s.protection.clip ∧
    (clearChannels k s).protection.riseGuard = s.protection.riseGuard ∧
    (clearChannels k s).protection.clipFall = s.protection.clipFall ∧
    (clearChannels k s).protection.sticky = s.protection.sticky ∧
    (clearChannels k s).controller.station = s.controller.station ∧
    (clearChannels k s).controller.stop = s.controller.stop ∧ (clearChannels k s).draws = s.draws ∧
    (clearChannels k s).link = s.link ∧ (clearChannels k s).cycle = s.cycle ∧
    (clearChannels k s).planner = s.planner ∧ (clearChannels k s).controller = s.controller ∧
    (clearChannels k s).protection.active = s.protection.active := by
  have h {α : Type} (f : State → α) (hf : ∀ n t, f (clearChannel n t) = f t) : f (clearChannels k s) = f s :=
    foldl_field f (fun t n => by split <;> simp [hf]) allChannels s
  refine ⟨h (fun t => t.pending) (by simp), h (fun t => t.pins) (by simp), h (fun t => t.loader) (by simp), h (fun t => t.link.sending) (by simp), h (fun t => t.cycle.number) (by simp), h (fun t => t.peers) (by simp), h (fun t => t.scene) (by simp), h (fun t => t.speed.source) (by simp), h (fun t => t.speed.state) (by simp), h (fun t => t.speed.desired) (by simp), h (fun t => t.speed.fallTimer) (by simp), h (fun t => t.equaliser) (by simp), h (fun t => t.protection.scan) (by simp), h (fun t => t.protection.readings) (by simp), h (fun t => t.protection.clip) (by simp), h (fun t => t.protection.riseGuard) (by simp), h (fun t => t.protection.clipFall) (by simp), h (fun t => t.protection.sticky) (by simp), h (fun t => t.controller.station) (by simp), h (fun t => t.controller.stop) (by simp), h (fun t => t.draws) (by simp), h (fun t => t.link) (by simp), h (fun t => t.cycle) (by simp), h (fun t => t.planner) (by simp), h (fun t => t.controller) (by simp), h (fun t => t.protection.active) (by simp)⟩

@[simp] theorem restFromRail_keeps (s : State) :
    (restFromRail s).pending = s.pending ∧ (restFromRail s).pins = s.pins ∧ (restFromRail s).loader = s.loader ∧
    (restFromRail s).link.sending = s.link.sending ∧ (restFromRail s).cycle.number = s.cycle.number ∧
    (restFromRail s).peers = s.peers ∧ (restFromRail s).scene = s.scene ∧
    (restFromRail s).speed.source = s.speed.source ∧ (restFromRail s).speed.state = s.speed.state ∧
    (restFromRail s).speed.desired = s.speed.desired ∧ (restFromRail s).speed.fallTimer = s.speed.fallTimer ∧
    (restFromRail s).equaliser = s.equaliser ∧ (restFromRail s).protection.scan = s.protection.scan ∧
    (restFromRail s).protection.readings = s.protection.readings ∧
    (restFromRail s).protection.clip = s.protection.clip ∧
    (restFromRail s).protection.riseGuard = s.protection.riseGuard ∧
    (restFromRail s).protection.clipFall = s.protection.clipFall ∧
    (restFromRail s).protection.sticky = s.protection.sticky ∧ (restFromRail s).controller.stop = s.controller.stop ∧
    (restFromRail s).draws = s.draws ∧ (restFromRail s).link = s.link ∧ (restFromRail s).cycle = s.cycle ∧
    (restFromRail s).planner = s.planner ∧ (restFromRail s).protection.active = s.protection.active ∧
    (restFromRail s).controller.rail = s.controller.rail ∧
    (restFromRail s).controller.downTimer = s.controller.downTimer := by
  simp [restFromRail]

@[simp] theorem handleRest_keeps (b : Bool) (s : State) :
    (handleRest b s).pending = s.pending ∧ (handleRest b s).pins = s.pins ∧ (handleRest b s).loader = s.loader ∧
    (handleRest b s).link.sending = s.link.sending ∧ (handleRest b s).cycle.number = s.cycle.number ∧
    (handleRest b s).scene = s.scene ∧ (handleRest b s).speed.source = s.speed.source ∧
    (handleRest b s).speed.state = s.speed.state ∧ (handleRest b s).speed.desired = s.speed.desired ∧
    (handleRest b s).speed.fallTimer = s.speed.fallTimer ∧ (handleRest b s).equaliser = s.equaliser ∧
    (handleRest b s).protection.scan = s.protection.scan ∧
    (handleRest b s).protection.readings = s.protection.readings ∧
    (handleRest b s).protection.clip = s.protection.clip ∧
    (handleRest b s).protection.riseGuard = s.protection.riseGuard ∧
    (handleRest b s).protection.clipFall = s.protection.clipFall ∧
    (handleRest b s).protection.sticky = s.protection.sticky ∧ (handleRest b s).draws = s.draws := by
  unfold handleRest takeRest; repeat' split
  all_goals simp

@[simp] theorem respond_keeps (n : Station) (p : Probe) (i : ItemSelector) (c : State → AnswerContents) (s : State) :
    (respond n p i c s).pending = s.pending ∧ (respond n p i c s).pins = s.pins ∧
    (respond n p i c s).loader = s.loader ∧ (respond n p i c s).link.sending = s.link.sending ∧
    (respond n p i c s).cycle.number = s.cycle.number ∧ (respond n p i c s).peers = s.peers ∧
    (respond n p i c s).scene = s.scene ∧ (respond n p i c s).speed.source = s.speed.source ∧
    (respond n p i c s).speed.state = s.speed.state ∧ (respond n p i c s).speed.desired = s.speed.desired ∧
    (respond n p i c s).speed.fallTimer = s.speed.fallTimer ∧ (respond n p i c s).equaliser = s.equaliser ∧
    (respond n p i c s).protection.scan = s.protection.scan ∧
    (respond n p i c s).protection.readings = s.protection.readings ∧
    (respond n p i c s).protection.clip = s.protection.clip ∧
    (respond n p i c s).protection.riseGuard = s.protection.riseGuard ∧
    (respond n p i c s).protection.clipFall = s.protection.clipFall ∧
    (respond n p i c s).protection.sticky = s.protection.sticky ∧
    (respond n p i c s).controller.station = s.controller.station ∧
    (respond n p i c s).controller.stop = s.controller.stop ∧ (respond n p i c s).draws = s.draws ∧
    (respond n p i c s).planner = s.planner ∧ (respond n p i c s).ramps = s.ramps ∧
    (respond n p i c s).protection = s.protection ∧ (respond n p i c s).controller = s.controller := by
  unfold respond Link.countDrop; repeat' split
  all_goals simp

/-! ### The sense scan, the amplifier flags and the rail -/

@[simp] theorem turnFault_thermal_keeps (f : StationFault) (b : Bool) (x : ConditionTurn) (s : State) :
    (turnFault f b (clearThermalFault f) x s).pending = s.pending ∧
    (turnFault f b (clearThermalFault f) x s).pins = s.pins ∧
    (turnFault f b (clearThermalFault f) x s).loader = s.loader ∧
    (turnFault f b (clearThermalFault f) x s).link.sending = s.link.sending ∧
    (turnFault f b (clearThermalFault f) x s).cycle.number = s.cycle.number ∧
    (turnFault f b (clearThermalFault f) x s).peers = s.peers ∧
    (turnFault f b (clearThermalFault f) x s).scene = s.scene ∧
    (turnFault f b (clearThermalFault f) x s).speed.source = s.speed.source ∧
    (turnFault f b (clearThermalFault f) x s).speed.state = s.speed.state ∧
    (turnFault f b (clearThermalFault f) x s).speed.desired = s.speed.desired ∧
    (turnFault f b (clearThermalFault f) x s).speed.fallTimer = s.speed.fallTimer ∧
    (turnFault f b (clearThermalFault f) x s).equaliser = s.equaliser ∧
    (turnFault f b (clearThermalFault f) x s).protection.scan = s.protection.scan ∧
    (turnFault f b (clearThermalFault f) x s).protection.readings = s.protection.readings ∧
    (turnFault f b (clearThermalFault f) x s).protection.clip = s.protection.clip ∧
    (turnFault f b (clearThermalFault f) x s).protection.riseGuard = s.protection.riseGuard ∧
    (turnFault f b (clearThermalFault f) x s).protection.clipFall = s.protection.clipFall ∧
    (turnFault f b (clearThermalFault f) x s).draws = s.draws := by
  unfold turnFault; repeat' split
  all_goals simp

@[simp] theorem turnFault_rail_keeps (f : StationFault) (b : Bool) (x : ConditionTurn) (s : State) :
    (turnFault f b (clearRailFault f) x s).pending = s.pending ∧
    (turnFault f b (clearRailFault f) x s).pins = s.pins ∧ (turnFault f b (clearRailFault f) x s).loader = s.loader ∧
    (turnFault f b (clearRailFault f) x s).link.sending = s.link.sending ∧
    (turnFault f b (clearRailFault f) x s).cycle.number = s.cycle.number ∧
    (turnFault f b (clearRailFault f) x s).peers = s.peers ∧ (turnFault f b (clearRailFault f) x s).scene = s.scene ∧
    (turnFault f b (clearRailFault f) x s).speed.source = s.speed.source ∧
    (turnFault f b (clearRailFault f) x s).speed.state = s.speed.state ∧
    (turnFault f b (clearRailFault f) x s).speed.desired = s.speed.desired ∧
    (turnFault f b (clearRailFault f) x s).speed.fallTimer = s.speed.fallTimer ∧
    (turnFault f b (clearRailFault f) x s).equaliser = s.equaliser ∧
    (turnFault f b (clearRailFault f) x s).protection.scan = s.protection.scan ∧
    (turnFault f b (clearRailFault f) x s).protection.readings = s.protection.readings ∧
    (turnFault f b (clearRailFault f) x s).protection.clip = s.protection.clip ∧
    (turnFault f b (clearRailFault f) x s).protection.riseGuard = s.protection.riseGuard ∧
    (turnFault f b (clearRailFault f) x s).protection.clipFall = s.protection.clipFall ∧
    (turnFault f b (clearRailFault f) x s).draws = s.draws := by
  unfold turnFault; repeat' split
  all_goals simp

@[simp] theorem judgeTemperature_keeps (v : Int) (s : State) :
    (judgeTemperature v s).pending = s.pending ∧ (judgeTemperature v s).pins = s.pins ∧
    (judgeTemperature v s).loader = s.loader ∧ (judgeTemperature v s).link.sending = s.link.sending ∧
    (judgeTemperature v s).cycle.number = s.cycle.number ∧ (judgeTemperature v s).peers = s.peers ∧
    (judgeTemperature v s).scene = s.scene ∧ (judgeTemperature v s).speed.source = s.speed.source ∧
    (judgeTemperature v s).speed.state = s.speed.state ∧ (judgeTemperature v s).speed.desired = s.speed.desired ∧
    (judgeTemperature v s).speed.fallTimer = s.speed.fallTimer ∧ (judgeTemperature v s).equaliser = s.equaliser ∧
    (judgeTemperature v s).protection.scan = s.protection.scan ∧
    (judgeTemperature v s).protection.readings = s.protection.readings ∧
    (judgeTemperature v s).protection.clip = s.protection.clip ∧
    (judgeTemperature v s).protection.riseGuard = s.protection.riseGuard ∧
    (judgeTemperature v s).protection.clipFall = s.protection.clipFall ∧ (judgeTemperature v s).draws = s.draws := by
  simp [judgeTemperature]

@[simp] theorem judgeRail_keeps (v : Int) (s : State) :
    (judgeRail v s).pending = s.pending ∧ (judgeRail v s).pins = s.pins ∧ (judgeRail v s).loader = s.loader ∧
    (judgeRail v s).link.sending = s.link.sending ∧ (judgeRail v s).cycle.number = s.cycle.number ∧
    (judgeRail v s).peers = s.peers ∧ (judgeRail v s).scene = s.scene ∧
    (judgeRail v s).speed.source = s.speed.source ∧ (judgeRail v s).speed.state = s.speed.state ∧
    (judgeRail v s).speed.desired = s.speed.desired ∧ (judgeRail v s).speed.fallTimer = s.speed.fallTimer ∧
    (judgeRail v s).equaliser = s.equaliser ∧ (judgeRail v s).protection.scan = s.protection.scan ∧
    (judgeRail v s).protection.readings = s.protection.readings ∧
    (judgeRail v s).protection.clip = s.protection.clip ∧
    (judgeRail v s).protection.riseGuard = s.protection.riseGuard ∧
    (judgeRail v s).protection.clipFall = s.protection.clipFall ∧ (judgeRail v s).draws = s.draws := by
  simp [judgeRail]

@[simp] theorem reportFault_keeps (a : ChannelFault) (n : Channel) (s : State) :
    (reportFault a n s).pending = s.pending ∧ (reportFault a n s).pins = s.pins ∧
    (reportFault a n s).loader = s.loader ∧ (reportFault a n s).link.sending = s.link.sending ∧
    (reportFault a n s).cycle.number = s.cycle.number ∧ (reportFault a n s).peers = s.peers ∧
    (reportFault a n s).scene = s.scene ∧ (reportFault a n s).speed.source = s.speed.source ∧
    (reportFault a n s).speed.state = s.speed.state ∧ (reportFault a n s).speed.desired = s.speed.desired ∧
    (reportFault a n s).speed.fallTimer = s.speed.fallTimer ∧ (reportFault a n s).equaliser = s.equaliser ∧
    (reportFault a n s).protection.scan = s.protection.scan ∧
    (reportFault a n s).protection.readings = s.protection.readings ∧
    (reportFault a n s).protection.clip = s.protection.clip ∧
    (reportFault a n s).protection.riseGuard = s.protection.riseGuard ∧
    (reportFault a n s).protection.clipFall = s.protection.clipFall ∧
    (reportFault a n s).protection.sticky = s.protection.sticky ∧
    (reportFault a n s).controller.station = s.controller.station ∧
    (reportFault a n s).controller.stop = s.controller.stop ∧ (reportFault a n s).draws = s.draws ∧
    (reportFault a n s).link.isolated = s.link.isolated ∧
    (reportFault a n s).link.isolationTimer = s.link.isolationTimer ∧ (reportFault a n s).planner = s.planner ∧
    (reportFault a n s).protection.active = s.protection.active ∧
    (reportFault a n s).protection.conditions = s.protection.conditions ∧
    (reportFault a n s).controller = s.controller ∧ (reportFault a n s).ramps = s.ramps := by
  unfold reportFault; dsimp only; split <;> simp

@[simp] theorem latchOffset_keeps (k : SilencingKind) (n : Channel) (s : State) :
    (latchOffset k n s).pending = s.pending ∧ (latchOffset k n s).pins = s.pins ∧
    (latchOffset k n s).loader = s.loader ∧ (latchOffset k n s).link.sending = s.link.sending ∧
    (latchOffset k n s).cycle.number = s.cycle.number ∧ (latchOffset k n s).peers = s.peers ∧
    (latchOffset k n s).scene = s.scene ∧ (latchOffset k n s).speed.source = s.speed.source ∧
    (latchOffset k n s).speed.state = s.speed.state ∧ (latchOffset k n s).speed.desired = s.speed.desired ∧
    (latchOffset k n s).speed.fallTimer = s.speed.fallTimer ∧ (latchOffset k n s).equaliser = s.equaliser ∧
    (latchOffset k n s).protection.scan = s.protection.scan ∧
    (latchOffset k n s).protection.readings = s.protection.readings ∧
    (latchOffset k n s).protection.clip = s.protection.clip ∧
    (latchOffset k n s).protection.riseGuard = s.protection.riseGuard ∧
    (latchOffset k n s).protection.clipFall = s.protection.clipFall ∧
    (latchOffset k n s).protection.sticky = s.protection.sticky ∧
    (latchOffset k n s).controller.station = s.controller.station ∧
    (latchOffset k n s).controller.stop = s.controller.stop ∧ (latchOffset k n s).draws = s.draws ∧
    (latchOffset k n s).link.isolated = s.link.isolated ∧
    (latchOffset k n s).link.isolationTimer = s.link.isolationTimer ∧ (latchOffset k n s).planner = s.planner ∧
    (latchOffset k n s).protection.active = s.protection.active ∧
    (latchOffset k n s).protection.conditions = s.protection.conditions ∧
    (latchOffset k n s).controller = s.controller := by
  unfold latchOffset offsetOnDip offsetOnWait; dsimp only; repeat' split
  all_goals simp

@[simp] theorem reportOffset_keeps (n : Channel) (s : State) :
    (reportOffset n s).pending = s.pending ∧ (reportOffset n s).pins = s.pins ∧ (reportOffset n s).loader = s.loader ∧
    (reportOffset n s).link.sending = s.link.sending ∧ (reportOffset n s).cycle.number = s.cycle.number ∧
    (reportOffset n s).peers = s.peers ∧ (reportOffset n s).scene = s.scene ∧
    (reportOffset n s).speed.source = s.speed.source ∧ (reportOffset n s).speed.state = s.speed.state ∧
    (reportOffset n s).speed.desired = s.speed.desired ∧ (reportOffset n s).speed.fallTimer = s.speed.fallTimer ∧
    (reportOffset n s).equaliser = s.equaliser ∧ (reportOffset n s).protection.scan = s.protection.scan ∧
    (reportOffset n s).protection.readings = s.protection.readings ∧
    (reportOffset n s).protection.clip = s.protection.clip ∧
    (reportOffset n s).protection.riseGuard = s.protection.riseGuard ∧
    (reportOffset n s).protection.clipFall = s.protection.clipFall ∧
    (reportOffset n s).protection.sticky = s.protection.sticky ∧
    (reportOffset n s).controller.station = s.controller.station ∧
    (reportOffset n s).controller.stop = s.controller.stop ∧ (reportOffset n s).draws = s.draws ∧
    (reportOffset n s).link.isolated = s.link.isolated ∧
    (reportOffset n s).link.isolationTimer = s.link.isolationTimer ∧ (reportOffset n s).planner = s.planner ∧
    (reportOffset n s).protection.active = s.protection.active ∧
    (reportOffset n s).protection.conditions = s.protection.conditions ∧
    (reportOffset n s).controller = s.controller ∧ (reportOffset n s).ramps = s.ramps := by
  unfold reportOffset; split <;> simp

@[simp] theorem offsetRecognised_keeps (n : Channel) (s : State) :
    (offsetRecognised n s).pending = s.pending ∧ (offsetRecognised n s).pins = s.pins ∧
    (offsetRecognised n s).loader = s.loader ∧ (offsetRecognised n s).link.sending = s.link.sending ∧
    (offsetRecognised n s).cycle.number = s.cycle.number ∧ (offsetRecognised n s).peers = s.peers ∧
    (offsetRecognised n s).scene = s.scene ∧ (offsetRecognised n s).speed.source = s.speed.source ∧
    (offsetRecognised n s).speed.state = s.speed.state ∧ (offsetRecognised n s).speed.desired = s.speed.desired ∧
    (offsetRecognised n s).speed.fallTimer = s.speed.fallTimer ∧ (offsetRecognised n s).equaliser = s.equaliser ∧
    (offsetRecognised n s).protection.scan = s.protection.scan ∧
    (offsetRecognised n s).protection.readings = s.protection.readings ∧
    (offsetRecognised n s).protection.clip = s.protection.clip ∧
    (offsetRecognised n s).protection.riseGuard = s.protection.riseGuard ∧
    (offsetRecognised n s).protection.clipFall = s.protection.clipFall ∧
    (offsetRecognised n s).protection.sticky = s.protection.sticky ∧
    (offsetRecognised n s).controller.station = s.controller.station ∧
    (offsetRecognised n s).controller.stop = s.controller.stop ∧ (offsetRecognised n s).draws = s.draws ∧
    (offsetRecognised n s).link.isolated = s.link.isolated ∧
    (offsetRecognised n s).link.isolationTimer = s.link.isolationTimer ∧ (offsetRecognised n s).planner = s.planner ∧
    (offsetRecognised n s).protection.active = s.protection.active ∧
    (offsetRecognised n s).protection.conditions = s.protection.conditions ∧
    (offsetRecognised n s).controller = s.controller := by
  unfold offsetRecognised; dsimp only; split <;> simp

@[simp] theorem judgeOffset_keeps (n : Channel) (v : Int) (s : State) :
    (judgeOffset n v s).pending = s.pending ∧ (judgeOffset n v s).pins = s.pins ∧
    (judgeOffset n v s).loader = s.loader ∧ (judgeOffset n v s).link.sending = s.link.sending ∧
    (judgeOffset n v s).cycle.number = s.cycle.number ∧ (judgeOffset n v s).peers = s.peers ∧
    (judgeOffset n v s).scene = s.scene ∧ (judgeOffset n v s).speed.source = s.speed.source ∧
    (judgeOffset n v s).speed.state = s.speed.state ∧ (judgeOffset n v s).speed.desired = s.speed.desired ∧
    (judgeOffset n v s).speed.fallTimer = s.speed.fallTimer ∧ (judgeOffset n v s).equaliser = s.equaliser ∧
    (judgeOffset n v s).protection.scan = s.protection.scan ∧
    (judgeOffset n v s).protection.readings = s.protection.readings ∧
    (judgeOffset n v s).protection.clip = s.protection.clip ∧
    (judgeOffset n v s).protection.riseGuard = s.protection.riseGuard ∧
    (judgeOffset n v s).protection.clipFall = s.protection.clipFall ∧
    (judgeOffset n v s).protection.sticky = s.protection.sticky ∧
    (judgeOffset n v s).controller.station = s.controller.station ∧
    (judgeOffset n v s).controller.stop = s.controller.stop ∧ (judgeOffset n v s).draws = s.draws ∧
    (judgeOffset n v s).link.isolated = s.link.isolated ∧
    (judgeOffset n v s).link.isolationTimer = s.link.isolationTimer ∧ (judgeOffset n v s).planner = s.planner ∧
    (judgeOffset n v s).protection.active = s.protection.active ∧ (judgeOffset n v s).controller = s.controller := by
  unfold judgeOffset; dsimp only; split <;> simp

@[simp] theorem judgeSlot_keeps (i : Fin 10) (v : Int) (s : State) :
    (judgeSlot i v s).pending = s.pending ∧ (judgeSlot i v s).pins = s.pins ∧ (judgeSlot i v s).loader = s.loader ∧
    (judgeSlot i v s).link.sending = s.link.sending ∧ (judgeSlot i v s).cycle.number = s.cycle.number ∧
    (judgeSlot i v s).peers = s.peers ∧ (judgeSlot i v s).scene = s.scene ∧
    (judgeSlot i v s).speed.source = s.speed.source ∧ (judgeSlot i v s).speed.state = s.speed.state ∧
    (judgeSlot i v s).speed.desired = s.speed.desired ∧ (judgeSlot i v s).speed.fallTimer = s.speed.fallTimer ∧
    (judgeSlot i v s).equaliser = s.equaliser ∧ (judgeSlot i v s).protection.scan = s.protection.scan ∧
    (judgeSlot i v s).protection.readings = s.protection.readings ∧
    (judgeSlot i v s).protection.clip = s.protection.clip ∧
    (judgeSlot i v s).protection.riseGuard = s.protection.riseGuard ∧
    (judgeSlot i v s).protection.clipFall = s.protection.clipFall ∧ (judgeSlot i v s).draws = s.draws := by
  unfold judgeSlot; repeat' split
  all_goals simp

@[simp] theorem takeOvercurrent_keeps (n : Channel) (s : State) :
    (takeOvercurrent n s).pending = s.pending ∧ (takeOvercurrent n s).pins = s.pins ∧
    (takeOvercurrent n s).loader = s.loader ∧ (takeOvercurrent n s).link.sending = s.link.sending ∧
    (takeOvercurrent n s).cycle.number = s.cycle.number ∧ (takeOvercurrent n s).peers = s.peers ∧
    (takeOvercurrent n s).scene = s.scene ∧ (takeOvercurrent n s).speed.source = s.speed.source ∧
    (takeOvercurrent n s).speed.state = s.speed.state ∧ (takeOvercurrent n s).speed.desired = s.speed.desired ∧
    (takeOvercurrent n s).speed.fallTimer = s.speed.fallTimer ∧ (takeOvercurrent n s).equaliser = s.equaliser ∧
    (takeOvercurrent n s).protection.scan = s.protection.scan ∧
    (takeOvercurrent n s).protection.readings = s.protection.readings ∧
    (takeOvercurrent n s).protection.clip = s.protection.clip ∧
    (takeOvercurrent n s).protection.riseGuard = s.protection.riseGuard ∧
    (takeOvercurrent n s).protection.clipFall = s.protection.clipFall ∧
    (takeOvercurrent n s).protection.sticky = s.protection.sticky ∧
    (takeOvercurrent n s).controller.station = s.controller.station ∧
    (takeOvercurrent n s).controller.stop = s.controller.stop ∧ (takeOvercurrent n s).draws = s.draws ∧
    (takeOvercurrent n s).link.isolated = s.link.isolated ∧
    (takeOvercurrent n s).link.isolationTimer = s.link.isolationTimer ∧ (takeOvercurrent n s).planner = s.planner ∧
    (takeOvercurrent n s).protection.active = s.protection.active ∧
    (takeOvercurrent n s).protection.conditions = s.protection.conditions ∧
    (takeOvercurrent n s).controller = s.controller := by
  unfold takeOvercurrent overcurrentStrikes; dsimp only; repeat' split
  all_goals simp

@[simp] theorem reportClip_keeps (n : Channel) (s : State) :
    (reportClip n s).pending = s.pending ∧ (reportClip n s).pins = s.pins ∧ (reportClip n s).loader = s.loader ∧
    (reportClip n s).link.sending = s.link.sending ∧ (reportClip n s).cycle.number = s.cycle.number ∧
    (reportClip n s).peers = s.peers ∧ (reportClip n s).scene = s.scene ∧
    (reportClip n s).speed.source = s.speed.source ∧ (reportClip n s).speed.state = s.speed.state ∧
    (reportClip n s).speed.desired = s.speed.desired ∧ (reportClip n s).speed.fallTimer = s.speed.fallTimer ∧
    (reportClip n s).equaliser = s.equaliser ∧ (reportClip n s).protection.scan = s.protection.scan ∧
    (reportClip n s).protection.readings = s.protection.readings ∧
    (reportClip n s).protection.clip = s.protection.clip ∧
    (reportClip n s).protection.riseGuard = s.protection.riseGuard ∧
    (reportClip n s).protection.clipFall = s.protection.clipFall ∧
    (reportClip n s).protection.sticky = s.protection.sticky ∧
    (reportClip n s).controller.station = s.controller.station ∧
    (reportClip n s).controller.stop = s.controller.stop ∧ (reportClip n s).draws = s.draws ∧
    (reportClip n s).link.isolated = s.link.isolated ∧ (reportClip n s).link.isolationTimer = s.link.isolationTimer ∧
    (reportClip n s).planner = s.planner ∧ (reportClip n s).protection.active = s.protection.active ∧
    (reportClip n s).protection.conditions = s.protection.conditions ∧ (reportClip n s).controller = s.controller ∧
    (reportClip n s).ramps = s.ramps := by
  unfold reportClip; dsimp only; split <;> simp

@[simp] theorem Protection.clipped_keeps (p : Protection) :
    p.clipped.scan = p.scan ∧ p.clipped.readings = p.readings ∧ p.clipped.conditions = p.conditions ∧
    p.clipped.records = p.records ∧ p.clipped.active = p.active ∧ p.clipped.sticky = p.sticky := by
  unfold Protection.clipped; split <;> simp

@[simp] theorem limitClip_keeps (n : Channel) (s : State) :
    (limitClip n s).pending = s.pending ∧ (limitClip n s).pins = s.pins ∧ (limitClip n s).loader = s.loader ∧
    (limitClip n s).link.sending = s.link.sending ∧ (limitClip n s).cycle.number = s.cycle.number ∧
    (limitClip n s).peers = s.peers ∧ (limitClip n s).scene = s.scene ∧
    (limitClip n s).speed.source = s.speed.source ∧ (limitClip n s).speed.state = s.speed.state ∧
    (limitClip n s).speed.desired = s.speed.desired ∧ (limitClip n s).speed.fallTimer = s.speed.fallTimer ∧
    (limitClip n s).equaliser = s.equaliser ∧ (limitClip n s).protection.scan = s.protection.scan ∧
    (limitClip n s).protection.readings = s.protection.readings ∧
    (limitClip n s).protection.sticky = s.protection.sticky ∧
    (limitClip n s).controller.station = s.controller.station ∧ (limitClip n s).controller.stop = s.controller.stop ∧
    (limitClip n s).draws = s.draws ∧ (limitClip n s).protection.active = s.protection.active ∧
    (limitClip n s).protection.conditions = s.protection.conditions ∧ (limitClip n s).controller = s.controller := by
  unfold limitClip; dsimp only; repeat' split
  all_goals simp

@[simp] theorem takeClip_keeps (n : Channel) (s : State) :
    (takeClip n s).pending = s.pending ∧ (takeClip n s).pins = s.pins ∧ (takeClip n s).loader = s.loader ∧
    (takeClip n s).link.sending = s.link.sending ∧ (takeClip n s).cycle.number = s.cycle.number ∧
    (takeClip n s).peers = s.peers ∧ (takeClip n s).scene = s.scene ∧ (takeClip n s).speed.source = s.speed.source ∧
    (takeClip n s).speed.state = s.speed.state ∧ (takeClip n s).speed.desired = s.speed.desired ∧
    (takeClip n s).speed.fallTimer = s.speed.fallTimer ∧ (takeClip n s).equaliser = s.equaliser ∧
    (takeClip n s).protection.scan = s.protection.scan ∧ (takeClip n s).protection.readings = s.protection.readings ∧
    (takeClip n s).protection.sticky = s.protection.sticky ∧
    (takeClip n s).controller.station = s.controller.station ∧ (takeClip n s).controller.stop = s.controller.stop ∧
    (takeClip n s).draws = s.draws ∧ (takeClip n s).protection.active = s.protection.active ∧
    (takeClip n s).protection.conditions = s.protection.conditions ∧ (takeClip n s).controller = s.controller := by
  unfold takeClip; split <;> simp

@[simp] theorem railFailed_keeps (s : State) :
    (railFailed s).pending = s.pending ∧ (railFailed s).pins = s.pins ∧ (railFailed s).loader = s.loader ∧
    (railFailed s).link.sending = s.link.sending ∧ (railFailed s).cycle.number = s.cycle.number ∧
    (railFailed s).peers = s.peers ∧ (railFailed s).scene = s.scene ∧ (railFailed s).speed.source = s.speed.source ∧
    (railFailed s).speed.state = s.speed.state ∧ (railFailed s).speed.desired = s.speed.desired ∧
    (railFailed s).speed.fallTimer = s.speed.fallTimer ∧ (railFailed s).equaliser = s.equaliser ∧
    (railFailed s).protection.scan = s.protection.scan ∧ (railFailed s).protection.readings = s.protection.readings ∧
    (railFailed s).protection.clip = s.protection.clip ∧
    (railFailed s).protection.riseGuard = s.protection.riseGuard ∧
    (railFailed s).protection.clipFall = s.protection.clipFall ∧ (railFailed s).draws = s.draws := by
  simp [railFailed]

@[simp] theorem freshStart_keeps (s : State) :
    (freshStart s).pending = s.pending ∧ (freshStart s).pins = s.pins ∧ (freshStart s).link.sending = s.link.sending ∧
    (freshStart s).cycle.number = s.cycle.number ∧ (freshStart s).peers = s.peers ∧ (freshStart s).scene = s.scene ∧
    (freshStart s).speed.source = s.speed.source ∧ (freshStart s).speed.state = s.speed.state ∧
    (freshStart s).speed.desired = s.speed.desired ∧ (freshStart s).speed.fallTimer = s.speed.fallTimer ∧
    (freshStart s).equaliser = s.equaliser ∧ (freshStart s).protection.readings = s.protection.readings ∧
    (freshStart s).protection.clip = s.protection.clip ∧
    (freshStart s).protection.riseGuard = s.protection.riseGuard ∧
    (freshStart s).protection.clipFall = s.protection.clipFall ∧
    (freshStart s).protection.sticky = s.protection.sticky ∧ (freshStart s).controller.stop = s.controller.stop ∧
    (freshStart s).draws = s.draws := by
  simp [freshStart]

@[simp] theorem takeWakeLine_keeps (s : State) :
    (takeWakeLine s).pending = s.pending ∧ (takeWakeLine s).pins = s.pins ∧
    (takeWakeLine s).link.sending = s.link.sending ∧ (takeWakeLine s).cycle.number = s.cycle.number ∧
    (takeWakeLine s).peers = s.peers ∧ (takeWakeLine s).scene = s.scene ∧
    (takeWakeLine s).speed.source = s.speed.source ∧ (takeWakeLine s).speed.state = s.speed.state ∧
    (takeWakeLine s).speed.desired = s.speed.desired ∧ (takeWakeLine s).speed.fallTimer = s.speed.fallTimer ∧
    (takeWakeLine s).equaliser = s.equaliser ∧ (takeWakeLine s).protection.readings = s.protection.readings ∧
    (takeWakeLine s).protection.clip = s.protection.clip ∧
    (takeWakeLine s).protection.riseGuard = s.protection.riseGuard ∧
    (takeWakeLine s).protection.clipFall = s.protection.clipFall ∧
    (takeWakeLine s).protection.sticky = s.protection.sticky ∧ (takeWakeLine s).controller.stop = s.controller.stop ∧
    (takeWakeLine s).draws = s.draws := by
  unfold takeWakeLine endRest; split <;> simp

/-! ### Own frames on the line -/

@[simp] theorem waitAgain_keeps (f : QueuedFrame) (s : State) :
    (waitAgain f s).pending = s.pending ∧ (waitAgain f s).pins = s.pins ∧ (waitAgain f s).loader = s.loader ∧
    (waitAgain f s).link.sending = s.link.sending ∧ (waitAgain f s).cycle.number = s.cycle.number ∧
    (waitAgain f s).peers = s.peers ∧ (waitAgain f s).scene = s.scene ∧
    (waitAgain f s).speed.source = s.speed.source ∧ (waitAgain f s).speed.state = s.speed.state ∧
    (waitAgain f s).speed.desired = s.speed.desired ∧ (waitAgain f s).speed.fallTimer = s.speed.fallTimer ∧
    (waitAgain f s).equaliser = s.equaliser ∧ (waitAgain f s).protection.scan = s.protection.scan ∧
    (waitAgain f s).protection.readings = s.protection.readings ∧
    (waitAgain f s).protection.clip = s.protection.clip ∧
    (waitAgain f s).protection.riseGuard = s.protection.riseGuard ∧
    (waitAgain f s).protection.clipFall = s.protection.clipFall ∧
    (waitAgain f s).protection.sticky = s.protection.sticky ∧
    (waitAgain f s).controller.station = s.controller.station ∧ (waitAgain f s).controller.stop = s.controller.stop ∧
    (waitAgain f s).draws = s.draws ∧ (waitAgain f s).planner = s.planner ∧ (waitAgain f s).ramps = s.ramps ∧
    (waitAgain f s).protection = s.protection ∧ (waitAgain f s).controller = s.controller := by
  unfold waitAgain; repeat' split
  all_goals simp

@[simp] theorem completed_keeps (a : Bool) (s : State) :
    (completed a s).pending = s.pending ∧ (completed a s).pins = s.pins ∧ (completed a s).loader = s.loader ∧
    (completed a s).cycle.number = s.cycle.number ∧ (completed a s).peers = s.peers ∧
    (completed a s).scene = s.scene ∧ (completed a s).speed.source = s.speed.source ∧
    (completed a s).speed.state = s.speed.state ∧ (completed a s).speed.desired = s.speed.desired ∧
    (completed a s).speed.fallTimer = s.speed.fallTimer ∧ (completed a s).equaliser = s.equaliser ∧
    (completed a s).protection.scan = s.protection.scan ∧
    (completed a s).protection.readings = s.protection.readings ∧
    (completed a s).protection.clip = s.protection.clip ∧
    (completed a s).protection.riseGuard = s.protection.riseGuard ∧
    (completed a s).protection.clipFall = s.protection.clipFall ∧
    (completed a s).protection.sticky = s.protection.sticky ∧
    (completed a s).controller.station = s.controller.station ∧ (completed a s).controller.stop = s.controller.stop ∧
    (completed a s).draws = s.draws ∧ (completed a s).planner = s.planner ∧ (completed a s).ramps = s.ramps ∧
    (completed a s).protection = s.protection ∧ (completed a s).controller = s.controller ∧
    (completed a s).cycle = s.cycle ∧ (completed a s).speed = s.speed := by
  simp [completed]

@[simp] theorem ownMark_keeps (n : CycleNumber) (o : MarkOrder) (s : State) :
    (ownMark n o s).pending = s.pending ∧ (ownMark n o s).pins = s.pins ∧ (ownMark n o s).loader = s.loader ∧
    (ownMark n o s).link.sending = s.link.sending ∧ (ownMark n o s).peers = s.peers ∧
    (ownMark n o s).speed.source = s.speed.source ∧ (ownMark n o s).speed.state = s.speed.state ∧
    (ownMark n o s).speed.desired = s.speed.desired ∧ (ownMark n o s).speed.fallTimer = s.speed.fallTimer ∧
    (ownMark n o s).protection.scan = s.protection.scan ∧
    (ownMark n o s).protection.readings = s.protection.readings ∧
    (ownMark n o s).protection.clip = s.protection.clip ∧
    (ownMark n o s).protection.riseGuard = s.protection.riseGuard ∧
    (ownMark n o s).protection.clipFall = s.protection.clipFall ∧
    (ownMark n o s).protection.sticky = s.protection.sticky ∧
    (ownMark n o s).controller.station = s.controller.station ∧ (ownMark n o s).controller.stop = s.controller.stop ∧
    (ownMark n o s).draws = s.draws ∧ (ownMark n o s).controller = s.controller ∧
    (ownMark n o s).protection.active = s.protection.active := by
  unfold ownMark; split <;> simp

end Sys2Proof.Machine
end

section
/-! PROOFS. The effect of each command, by the function of the model that gives its meaning. -/

namespace Sys2Proof.Machine

/-- ALERT_RECEIVED at the Link Controller: one more alert received (R171). -/
def countAlert (s : State) : State := s.count LinkCounters.addAlert

/-- The handling of a CLEAR, which takes effect at the stations it is addressed to (R176). -/
def ifAddressed (target : Nat) (f : State → State) (s : State) : State := if addressed target s then f s else s

/-- CLEAR_STICKY at the Protection Monitor (R159). -/
def clearStickyFlags (kinds : PerFault Bool) (s : State) : State :=
  { s with protection := { s.protection with sticky := stickyAfter kinds s.protection.active s.protection.sticky } }

@[simp] theorem effect_powerOn (s : State) :
    effect .powerOn s = s.powerOnBlocks := rfl

@[simp] theorem effect_startComplete (straps : Station) (image : ImageRead) (selfTest : Bool) (s : State) :
    effect (.startComplete straps image selfTest) s =
      (if s.controller.station = .starting then finish (startComplete straps image selfTest s) else s) := rfl

@[simp] theorem effect_markReceived (rx : Reception) (cycle : CycleNumber) (order : MarkOrder) (s : State) :
    effect (.markReceived rx cycle order) s = received rx (takeMark cycle order) s := rfl

@[simp] theorem effect_alertReceived (rx : Reception) (s : State) :
    effect (.alertReceived rx) s = received rx countAlert s := rfl

@[simp] theorem effect_offerReceived (rx : Reception) (offer : Offer) (s : State) :
    effect (.offerReceived rx offer) s =
      received rx (fun s => watchOffer offer (takeOffer rx.sender offer s)) s := rfl

@[simp] theorem effect_sceneReceived (rx : Reception) (scene : Scene) (s : State) :
    effect (.sceneReceived rx scene) s = received rx (takeScene scene) s := rfl

@[simp] theorem effect_speedReceived (rx : Reception) (speed : Nat) (valid : Bool) (s : State) :
    effect (.speedReceived rx speed valid) s = received ⟨rx.sender, false⟩ (takeSpeed rx.sender speed valid) s := rfl

@[simp] theorem effect_fetchReceived (rx : Reception) (wanted : Option Generation) (s : State) :
    effect (.fetchReceived rx wanted) s = received rx (takeFetch wanted) s := rfl

@[simp] theorem effect_presenceReceived (rx : Reception) (frame : PresenceFrame) (s : State) :
    effect (.presenceReceived rx frame) s = received rx (takePresence rx.sender frame) s := rfl

@[simp] theorem effect_clearFaults (rx : Reception) (target : Nat) (channels : PerChannel Bool) (s : State) :
    effect (.clearFaults rx target channels) s =
      received rx (ifAddressed target (clearChannels channels)) s := rfl

@[simp] theorem effect_clearSticky (rx : Reception) (target : Nat) (kinds : PerFault Bool) (s : State) :
    effect (.clearSticky rx target kinds) s =
      received rx (ifAddressed target (clearStickyFlags kinds)) s := rfl

@[simp] theorem effect_clearCounts (rx : Reception) (target : Nat) (s : State) :
    effect (.clearCounts rx target) s =
      received rx (ifAddressed target clearCounts) s := rfl

@[simp] theorem effect_restart (rx : Reception) (target : Nat) (s : State) :
    effect (.restart rx target) s =
      finish (receive rx (ifAddressed target restartBlocks) s) := rfl

@[simp] theorem effect_restReceived (rx : Reception) (wakeAsserted : Bool) (s : State) :
    effect (.restReceived rx wakeAsserted) s =
      finish (receiveUnheard rx.sender (handleRest wakeAsserted) (withWakeLine wakeAsserted s)) := rfl

@[simp] theorem effect_probeSceneApplied (rx : Reception) (p : Probe) (s : State) :
    effect (.probeSceneApplied rx p) s = (probed rx p .sceneApplied sceneAppliedContents s) := rfl

@[simp] theorem effect_probeSceneStaged (rx : Reception) (p : Probe) (s : State) :
    effect (.probeSceneStaged rx p) s = (probed rx p .sceneStaged sceneStagedContents s) := rfl

@[simp] theorem effect_probePending (rx : Reception) (p : Probe) (s : State) :
    effect (.probePending rx p) s = (probed rx p .pending pendingContents s) := rfl

@[simp] theorem effect_probePeer (rx : Reception) (p : Probe) (s : State) :
    effect (.probePeer rx p) s = (probed rx p .peer (peerItemContents p.index) s) := rfl

@[simp] theorem effect_probeChannel (rx : Reception) (p : Probe) (s : State) :
    effect (.probeChannel rx p) s = (probed rx p .channel (channelItemContents p.index) s) := rfl

@[simp] theorem effect_probeStation (rx : Reception) (p : Probe) (wakeAsserted : Bool) (s : State) :
    effect (.probeStation rx p wakeAsserted) s =
      (probed rx p .station (fun s => .station (stationItem s)) (withWakeLine wakeAsserted s)) := rfl

@[simp] theorem effect_probeLinkCounts (rx : Reception) (p : Probe) (s : State) :
    effect (.probeLinkCounts rx p) s = (probed rx p .linkCounts (fun s => .linkCounts (linkCountsItem s)) s) := rfl

@[simp] theorem effect_probeSpeed (rx : Reception) (p : Probe) (s : State) :
    effect (.probeSpeed rx p) s = (probed rx p .speed (fun s => .speed (speedItem s)) s) := rfl

@[simp] theorem effect_probeConfig (rx : Reception) (p : Probe) (s : State) :
    effect (.probeConfig rx p) s = (probed rx p .config (fun s => .config s.loader.item) s) := rfl

@[simp] theorem effect_probeUnknownItem (rx : Reception) (p : Probe) (selector : ItemSelector) (s : State) :
    effect (.probeUnknownItem rx p selector) s = (probed rx p selector (fun _ => .noSuchItem) s) := rfl

@[simp] theorem effect_answerReceived (rx : Reception) (s : State) :
    effect (.answerReceived rx) s = received rx (fun s => s) s := rfl

@[simp] theorem effect_checkError (s : State) :
    effect .checkError s =
      { s with link :=
      { s.link.lineFrameEnded with acknowledging := false, counters := s.link.counters.addCheckError } } := rfl

@[simp] theorem effect_malformedFrame (sender : Station) (s : State) :
    effect (.malformedFrame sender) s = finish (receiveUnheard sender (fun s => s) s) := rfl

@[simp] theorem effect_numberConflict (s : State) :
    effect .numberConflict s = finish (receiveUnheard (own s) (fun s => s) s) := rfl

@[simp] theorem effect_frameStart (s : State) :
    effect .frameStart s =
      (if startsFrames s ∧ s.link.sending = none then { s with link := s.link.lineFrameEnded.start } else s) := rfl

@[simp] theorem effect_arbitrationLost (s : State) :
    effect .arbitrationLost s =
      (match s.link.sending with
      | none => s
      | some f => unlessOrphan f (waitAgain f.frame) (droppedOut s)) := rfl

@[simp] theorem effect_ownMarkComplete (acknowledged : Bool) (order : MarkOrder) (s : State) :
    effect (.ownMarkComplete acknowledged order) s =
      (match s.link.sending with
      | some f =>
        match f.frame.body with
        | .mark cycle => unlessOrphan f (ownMark cycle order) (completed acknowledged s)
        | .alert _ | .offer _ | .scene _ | .fetch _ | .presence _ | .answer _ => s
      | none => s) := rfl

@[simp] theorem effect_ownOfferComplete (acknowledged : Bool) (s : State) :
    effect (.ownOfferComplete acknowledged) s =
      (match s.link.sending with
      | some f =>
        match f.frame.body with
        | .offer o => unlessOrphan f (fun s => offerEnds (takeOffer (own s) o s)) (completed acknowledged s)
        | .mark _ | .alert _ | .scene _ | .fetch _ | .presence _ | .answer _ => s
      | none => s) := rfl

@[simp] theorem effect_ownPresenceComplete (acknowledged : Bool) (s : State) :
    effect (.ownPresenceComplete acknowledged) s =
      (match s.link.sending with
      | some f =>
        match f.frame.body with
        | .presence _ => unlessOrphan f presenceEnds (completed acknowledged s)
        | .mark _ | .alert _ | .offer _ | .scene _ | .fetch _ | .answer _ => s
      | none => s) := rfl

@[simp] theorem effect_ownFrameComplete (acknowledged : Bool) (s : State) :
    effect (.ownFrameComplete acknowledged) s =
      (match s.link.sending with
      | some f =>
        match f.frame.body with
        | .alert _ | .scene _ | .fetch _ | .answer _ => completed acknowledged s
        | .mark _ | .offer _ | .presence _ => s
      | none => s) := rfl

@[simp] theorem effect_lineTimeOut (s : State) :
    effect .lineTimeOut s =
      ((abandonedFrames s.link).foldl (fun s b => frameEnds b s) { s with link := s.link.timedOut }) := rfl

@[simp] theorem effect_cycleTimerExpiry (s : State) :
    effect .cycleTimerExpiry s =
      (match s.cycle.cycle with
      | .running _ => giveFrame (.mark (s.cycle.number + 1)) { s with cycle := { s.cycle with cycle := .markQueued } }
      | .stopped => s
      | .markQueued => s) := rfl

@[simp] theorem effect_presenceTimerExpiry (s : State) :
    effect .presenceTimerExpiry s =
      (match s.cycle.presence with
      | .running _ => presenceRunsOut s
      | .stopped => s
      | .presenceQueued => s) := rfl

@[simp] theorem effect_joinWindowExpiry (s : State) :
    effect .joinWindowExpiry s = (if s.scene.joinWindow.isSome then finish (joinWindowEnds s) else s) := rfl

@[simp] theorem effect_fetchTimerExpiry (s : State) :
    effect .fetchTimerExpiry s = (fetchTimerEnds s) := rfl

@[simp] theorem effect_peerSilent (n : Station) (s : State) :
    effect (.peerSilent n) s =
      (match s.link.isolated, s.peers.entries.get n with
      | false, .known .active r age => if ms 300 ≤ age then s.setPeer n (.known .silent r age) else s
      | _, _ => s) := rfl

@[simp] theorem effect_peerLost (n : Station) (s : State) :
    effect (.peerLost n) s =
      (match s.link.isolated, s.peers.entries.get n with
      | false, .known .silent r age => if ms 1000 ≤ age then finish (peerIsLost n r age s) else s
      | _, _ => s) := rfl

@[simp] theorem effect_speedStale (s : State) :
    effect .speedStale s =
      (if s.speed.isOld then
        checkIfChanged s.speed.desired { s with speed := s.speed.goesStale s.loader.image.stalePolicy }
      else s) := rfl

@[simp] theorem effect_fallTimerExpiry (s : State) :
    effect .fallTimerExpiry s =
      (if s.speed.fallTimer.isSome then
        checkIfChanged s.speed.desired { s with speed := s.speed.falls s.loader.image.stalePolicy }
      else s) := rfl

@[simp] theorem effect_offerSpacingExpiry (s : State) :
    effect .offerSpacingExpiry s =
      (if s.speed.spacingTimer.isSome then offerCheck { s with speed := { s.speed with spacingTimer := none } } else s) := rfl

@[simp] theorem effect_settleTimerExpiry (s : State) :
    effect .settleTimerExpiry s =
      (if s.planner.settleTimer.isSome then
        { s with planner := { s.planner with settleTimer := none, fallReady := true } }
      else s) := rfl

@[simp] theorem effect_duckTimerExpiry (s : State) :
    effect .duckTimerExpiry s =
      (if s.planner.duck = .waiting ∧ s.planner.duckTimer.isSome then
        finish (handTargets .scene { s with planner := { s.planner with duck := .on, duckTimer := none } })
      else s) := rfl

@[simp] theorem effect_isolationTimerExpiry (s : State) :
    effect .isolationTimerExpiry s =
      (if s.link.isolationTimer.isSome then
        duckFlagSet { s with link := { s.link with isolated := true, isolationTimer := none } }
      else s) := rfl

@[simp] theorem effect_stepTimerExpiry (n : Channel) (s : State) :
    effect (.stepTimerExpiry n) s =
      (if (s.ramps.get n).stepTimer.isSome then
        finish (applyRamp n ((s.ramps.get n).step s.loader.image.duckHold) s)
      else s) := rfl

@[simp] theorem effect_duckHoldExpiry (n : Channel) (s : State) :
    effect (.duckHoldExpiry n) s =
      (if (s.ramps.get n).holdTimer.isSome then finish (applyRamp n (s.ramps.get n).holdEnds s) else s) := rfl

@[simp] theorem effect_preparationTimerExpiry (s : State) :
    effect .preparationTimerExpiry s =
      (if s.controller.station = .starting then s
      else { s with equaliser := s.equaliser.channelPrepared s.loader.image }) := rfl

@[simp] theorem effect_senseSlot (reading : Int) (s : State) :
    effect (.senseSlot reading) s =
      (match s.protection.scan with
      | some slot => finish (judgeSlot slot reading (slotRead slot reading s))
      | none => s) := rfl

@[simp] theorem effect_overcurrentFlag (n : Channel) (s : State) :
    effect (.overcurrentFlag n) s =
      (if flagsTaken s ∧ inRoster s n ∧ s.loader.image.protection.overcurrentMode ≠ .ignore then
        finish (takeOvercurrent n s)
      else s) := rfl

@[simp] theorem effect_clipFlag (n : Channel) (s : State) :
    effect (.clipFlag n) s = (if flagsTaken s ∧ inRoster s n then finish (takeClip n s) else s) := rfl

@[simp] theorem effect_riseGuardExpiry (s : State) :
    effect .riseGuardExpiry s =
      (if s.protection.riseGuard.isSome then { s with protection := { s.protection with riseGuard := none } } else s) := rfl

@[simp] theorem effect_clipFallTimerExpiry (s : State) :
    effect .clipFallTimerExpiry s =
      (if s.protection.clipFall.isSome then
        finish (withDemand (fun s => { s with protection := s.protection.clipFalls }) s)
      else s) := rfl

@[simp] theorem effect_retryTimerExpiry (n : Channel) (s : State) :
    effect (.retryTimerExpiry n) s =
      (let r := s.protection.records.get n
      if r.state = .retryWait ∧ r.retryTimer.isSome then finish (releaseFaultClaim n (s.setRecord n r.retried)) else s) := rfl

@[simp] theorem effect_budgetTimerExpiry (n : Channel) (s : State) :
    effect (.budgetTimerExpiry n) s =
      (let r := s.protection.records.get n
      if r.budgetTimer.isSome then s.setRecord n { r with retriesUsed := 0, budgetTimer := none } else s) := rfl

@[simp] theorem effect_railGoodArrival (s : State) :
    effect .railGoodArrival s =
      (let s' := { s with pins := { s.pins with railGood := true } }
      if s.controller.station = .railUp ∧ s.controller.railGoodTimer.isSome then finish (enterStabilising s') else s') := rfl

@[simp] theorem effect_railGoodLoss (s : State) :
    effect .railGoodLoss s =
      (let s' := { s with pins := { s.pins with railGood := false } }
      if railWindow s then finish (raiseFault .railLow (lowPresent s')) else s') := rfl

@[simp] theorem effect_railGoodTimerExpiry (s : State) :
    effect .railGoodTimerExpiry s =
      (if s.controller.station = .railUp ∧ s.controller.railGoodTimer.isSome then finish (railFailed s) else s) := rfl

@[simp] theorem effect_railRetryTimerExpiry (s : State) :
    effect .railRetryTimerExpiry s =
      (if s.controller.station = .quiet ∧ s.controller.railRetryTimer.isSome then finish (enterRailUp s) else s) := rfl

@[simp] theorem effect_stabiliseTimerExpiry (s : State) :
    effect .stabiliseTimerExpiry s =
      (if s.controller.station = .stabilising ∧ s.controller.stabiliseTimer.isSome then finish (enterReady s) else s) := rfl

@[simp] theorem effect_downTimerExpiry (s : State) :
    effect .downTimerExpiry s =
      (if s.controller.station = .railDown ∧ s.controller.downTimer.isSome then
        finish (enterResting { s with controller := { s.controller with downTimer := none } })
      else s) := rfl

@[simp] theorem effect_wakeLineRise (s : State) :
    effect .wakeLineRise s = finish (takeWakeLine (withWakeLine true s)) := rfl

end Sys2Proof.Machine
end

section
/-! PROOFS. Which commands may write which state: the frames of O3, O59 and O60. -/

namespace Sys2Proof.Machine

/-! ### What the handling of an ALERT or a CLEAR leaves -/

@[simp] theorem countAlert_keeps (s : State) :
    (countAlert s).pending = s.pending ∧ (countAlert s).pins = s.pins ∧ (countAlert s).loader = s.loader ∧
    (countAlert s).link.sending = s.link.sending ∧ (countAlert s).cycle.number = s.cycle.number ∧
    (countAlert s).peers = s.peers ∧ (countAlert s).scene = s.scene ∧ (countAlert s).speed.source = s.speed.source ∧
    (countAlert s).speed.state = s.speed.state ∧ (countAlert s).speed.desired = s.speed.desired ∧
    (countAlert s).speed.fallTimer = s.speed.fallTimer ∧ (countAlert s).equaliser = s.equaliser ∧
    (countAlert s).protection.scan = s.protection.scan ∧ (countAlert s).protection.readings = s.protection.readings ∧
    (countAlert s).protection.clip = s.protection.clip ∧
    (countAlert s).protection.riseGuard = s.protection.riseGuard ∧
    (countAlert s).protection.clipFall = s.protection.clipFall ∧
    (countAlert s).protection.sticky = s.protection.sticky ∧
    (countAlert s).controller.station = s.controller.station ∧ (countAlert s).controller.stop = s.controller.stop ∧
    (countAlert s).draws = s.draws ∧ (countAlert s).link.waiting = s.link.waiting ∧ (countAlert s).cycle = s.cycle ∧
    (countAlert s).planner = s.planner ∧ (countAlert s).ramps = s.ramps ∧ (countAlert s).protection = s.protection ∧
    (countAlert s).controller = s.controller := by
  simp [countAlert]

@[simp] theorem clearChannels_addressed_keeps (target : Nat) (k : PerChannel Bool) (s : State) :
    (ifAddressed target (clearChannels k) s).pending = s.pending ∧
    (ifAddressed target (clearChannels k) s).pins = s.pins ∧
    (ifAddressed target (clearChannels k) s).loader = s.loader ∧
    (ifAddressed target (clearChannels k) s).link.sending = s.link.sending ∧
    (ifAddressed target (clearChannels k) s).cycle.number = s.cycle.number ∧
    (ifAddressed target (clearChannels k) s).peers = s.peers ∧
    (ifAddressed target (clearChannels k) s).scene = s.scene ∧
    (ifAddressed target (clearChannels k) s).speed.source = s.speed.source ∧
    (ifAddressed target (clearChannels k) s).speed.state = s.speed.state ∧
    (ifAddressed target (clearChannels k) s).speed.desired = s.speed.desired ∧
    (ifAddressed target (clearChannels k) s).speed.fallTimer = s.speed.fallTimer ∧
    (ifAddressed target (clearChannels k) s).equaliser = s.equaliser ∧
    (ifAddressed target (clearChannels k) s).protection.scan = s.protection.scan ∧
    (ifAddressed target (clearChannels k) s).protection.readings = s.protection.readings ∧
    (ifAddressed target (clearChannels k) s).protection.clip = s.protection.clip ∧
    (ifAddressed target (clearChannels k) s).protection.riseGuard = s.protection.riseGuard ∧
    (ifAddressed target (clearChannels k) s).protection.clipFall = s.protection.clipFall ∧
    (ifAddressed target (clearChannels k) s).protection.sticky = s.protection.sticky ∧
    (ifAddressed target (clearChannels k) s).controller.station = s.controller.station ∧
    (ifAddressed target (clearChannels k) s).controller.stop = s.controller.stop ∧
    (ifAddressed target (clearChannels k) s).draws = s.draws ∧
    (ifAddressed target (clearChannels k) s).link = s.link ∧
    (ifAddressed target (clearChannels k) s).cycle = s.cycle ∧
    (ifAddressed target (clearChannels k) s).planner = s.planner ∧
    (ifAddressed target (clearChannels k) s).controller = s.controller := by
  unfold ifAddressed; split <;> simp

@[simp] theorem clearSticky_addressed_keeps (target : Nat) (k : PerFault Bool) (s : State) :
    (ifAddressed target (clearStickyFlags k) s).pending = s.pending ∧
    (ifAddressed target (clearStickyFlags k) s).pins = s.pins ∧
    (ifAddressed target (clearStickyFlags k) s).loader = s.loader ∧
    (ifAddressed target (clearStickyFlags k) s).link.sending = s.link.sending ∧
    (ifAddressed target (clearStickyFlags k) s).cycle.number = s.cycle.number ∧
    (ifAddressed target (clearStickyFlags k) s).peers = s.peers ∧
    (ifAddressed target (clearStickyFlags k) s).scene = s.scene ∧
    (ifAddressed target (clearStickyFlags k) s).speed.source = s.speed.source ∧
    (ifAddressed target (clearStickyFlags k) s).speed.state = s.speed.state ∧
    (ifAddressed target (clearStickyFlags k) s).speed.desired = s.speed.desired ∧
    (ifAddressed target (clearStickyFlags k) s).speed.fallTimer = s.speed.fallTimer ∧
    (ifAddressed target (clearStickyFlags k) s).equaliser = s.equaliser ∧
    (ifAddressed target (clearStickyFlags k) s).protection.scan = s.protection.scan ∧
    (ifAddressed target (clearStickyFlags k) s).protection.readings = s.protection.readings ∧
    (ifAddressed target (clearStickyFlags k) s).protection.clip = s.protection.clip ∧
    (ifAddressed target (clearStickyFlags k) s).protection.riseGuard = s.protection.riseGuard ∧
    (ifAddressed target (clearStickyFlags k) s).protection.clipFall = s.protection.clipFall ∧
    (ifAddressed target (clearStickyFlags k) s).controller.station = s.controller.station ∧
    (ifAddressed target (clearStickyFlags k) s).controller.stop = s.controller.stop ∧
    (ifAddressed target (clearStickyFlags k) s).draws = s.draws ∧
    (ifAddressed target (clearStickyFlags k) s).link = s.link ∧
    (ifAddressed target (clearStickyFlags k) s).cycle = s.cycle ∧
    (ifAddressed target (clearStickyFlags k) s).planner = s.planner ∧
    (ifAddressed target (clearStickyFlags k) s).ramps = s.ramps ∧
    (ifAddressed target (clearStickyFlags k) s).controller = s.controller ∧
    (ifAddressed target (clearStickyFlags k) s).protection.active = s.protection.active ∧
    (ifAddressed target (clearStickyFlags k) s).protection.conditions = s.protection.conditions := by
  unfold ifAddressed clearStickyFlags; split <;> simp

@[simp] theorem clearCounts_addressed_keeps (target : Nat) (s : State) :
    (ifAddressed target clearCounts s).pending = s.pending ∧ (ifAddressed target clearCounts s).pins = s.pins ∧
    (ifAddressed target clearCounts s).loader = s.loader ∧
    (ifAddressed target clearCounts s).link.sending = s.link.sending ∧
    (ifAddressed target clearCounts s).cycle.number = s.cycle.number ∧
    (ifAddressed target clearCounts s).peers = s.peers ∧ (ifAddressed target clearCounts s).scene = s.scene ∧
    (ifAddressed target clearCounts s).speed.source = s.speed.source ∧
    (ifAddressed target clearCounts s).speed.state = s.speed.state ∧
    (ifAddressed target clearCounts s).speed.desired = s.speed.desired ∧
    (ifAddressed target clearCounts s).speed.fallTimer = s.speed.fallTimer ∧
    (ifAddressed target clearCounts s).protection.scan = s.protection.scan ∧
    (ifAddressed target clearCounts s).protection.readings = s.protection.readings ∧
    (ifAddressed target clearCounts s).protection.clip = s.protection.clip ∧
    (ifAddressed target clearCounts s).protection.riseGuard = s.protection.riseGuard ∧
    (ifAddressed target clearCounts s).protection.clipFall = s.protection.clipFall ∧
    (ifAddressed target clearCounts s).protection.sticky = s.protection.sticky ∧
    (ifAddressed target clearCounts s).controller.station = s.controller.station ∧
    (ifAddressed target clearCounts s).controller.stop = s.controller.stop ∧
    (ifAddressed target clearCounts s).draws = s.draws ∧ (ifAddressed target clearCounts s).cycle = s.cycle ∧
    (ifAddressed target clearCounts s).planner = s.planner ∧ (ifAddressed target clearCounts s).ramps = s.ramps ∧
    (ifAddressed target clearCounts s).controller = s.controller ∧
    (ifAddressed target clearCounts s).protection.active = s.protection.active ∧
    (ifAddressed target clearCounts s).protection.conditions = s.protection.conditions := by
  unfold ifAddressed clearCounts; split <;> simp

/-! ### What the handling of own frames, of inputs and of ages leaves -/

@[simp] theorem unlessOrphan_eq (f : SendingFrame) (g : State → State) (s : State) :
    unlessOrphan f g s = if f.orphan then s else finish (g s) := rfl

@[simp] theorem probed_eq (rx : Reception) (p : Probe) (i : ItemSelector) (c : State → AnswerContents) (s : State) :
    probed rx p i c s = received rx (respond rx.sender p i c) s := rfl

@[simp] theorem droppedOut_keeps (s : State) :
    (droppedOut s).pending = s.pending ∧ (droppedOut s).pins = s.pins ∧ (droppedOut s).loader = s.loader ∧
    (droppedOut s).cycle.number = s.cycle.number ∧ (droppedOut s).peers = s.peers ∧ (droppedOut s).scene = s.scene ∧
    (droppedOut s).speed.source = s.speed.source ∧ (droppedOut s).speed.state = s.speed.state ∧
    (droppedOut s).speed.desired = s.speed.desired ∧ (droppedOut s).speed.fallTimer = s.speed.fallTimer ∧
    (droppedOut s).equaliser = s.equaliser ∧ (droppedOut s).protection.scan = s.protection.scan ∧
    (droppedOut s).protection.readings = s.protection.readings ∧ (droppedOut s).protection.clip = s.protection.clip ∧
    (droppedOut s).protection.riseGuard = s.protection.riseGuard ∧
    (droppedOut s).protection.clipFall = s.protection.clipFall ∧
    (droppedOut s).protection.sticky = s.protection.sticky ∧
    (droppedOut s).controller.station = s.controller.station ∧ (droppedOut s).controller.stop = s.controller.stop ∧
    (droppedOut s).draws = s.draws ∧ (droppedOut s).planner = s.planner ∧ (droppedOut s).ramps = s.ramps ∧
    (droppedOut s).protection = s.protection ∧ (droppedOut s).controller = s.controller ∧
    (droppedOut s).cycle = s.cycle ∧ (droppedOut s).speed = s.speed ∧ (droppedOut s).link.waiting = s.link.waiting := by
  simp [droppedOut]

@[simp] theorem peerIsLost_keeps (n : Station) (r : Report) (a : Nat) (s : State) :
    (peerIsLost n r a s).pending = s.pending ∧ (peerIsLost n r a s).pins = s.pins ∧
    (peerIsLost n r a s).loader = s.loader ∧ (peerIsLost n r a s).link.sending = s.link.sending ∧
    (peerIsLost n r a s).cycle.number = s.cycle.number ∧ (peerIsLost n r a s).scene = s.scene ∧
    (peerIsLost n r a s).speed.source = s.speed.source ∧ (peerIsLost n r a s).speed.state = s.speed.state ∧
    (peerIsLost n r a s).speed.desired = s.speed.desired ∧ (peerIsLost n r a s).speed.fallTimer = s.speed.fallTimer ∧
    (peerIsLost n r a s).equaliser = s.equaliser ∧ (peerIsLost n r a s).protection.scan = s.protection.scan ∧
    (peerIsLost n r a s).protection.readings = s.protection.readings ∧
    (peerIsLost n r a s).protection.clip = s.protection.clip ∧
    (peerIsLost n r a s).protection.riseGuard = s.protection.riseGuard ∧
    (peerIsLost n r a s).protection.clipFall = s.protection.clipFall ∧
    (peerIsLost n r a s).protection.sticky = s.protection.sticky ∧
    (peerIsLost n r a s).controller.station = s.controller.station ∧
    (peerIsLost n r a s).controller.stop = s.controller.stop ∧ (peerIsLost n r a s).draws = s.draws ∧
    (peerIsLost n r a s).link = s.link ∧ (peerIsLost n r a s).cycle = s.cycle ∧
    (peerIsLost n r a s).controller = s.controller ∧ (peerIsLost n r a s).protection.active = s.protection.active := by
  unfold peerIsLost; dsimp only; split <;> simp

@[simp] theorem slotRead_keeps (i : Fin 10) (v : Int) (s : State) :
    (slotRead i v s).pending = s.pending ∧ (slotRead i v s).pins = s.pins ∧ (slotRead i v s).loader = s.loader ∧
    (slotRead i v s).link.sending = s.link.sending ∧ (slotRead i v s).cycle.number = s.cycle.number ∧
    (slotRead i v s).peers = s.peers ∧ (slotRead i v s).scene = s.scene ∧
    (slotRead i v s).speed.source = s.speed.source ∧ (slotRead i v s).speed.state = s.speed.state ∧
    (slotRead i v s).speed.desired = s.speed.desired ∧ (slotRead i v s).speed.fallTimer = s.speed.fallTimer ∧
    (slotRead i v s).equaliser = s.equaliser ∧ (slotRead i v s).protection.clip = s.protection.clip ∧
    (slotRead i v s).protection.riseGuard = s.protection.riseGuard ∧
    (slotRead i v s).protection.clipFall = s.protection.clipFall ∧
    (slotRead i v s).protection.sticky = s.protection.sticky ∧
    (slotRead i v s).controller.station = s.controller.station ∧
    (slotRead i v s).controller.stop = s.controller.stop ∧ (slotRead i v s).draws = s.draws ∧
    (slotRead i v s).link = s.link ∧ (slotRead i v s).cycle = s.cycle ∧ (slotRead i v s).planner = s.planner ∧
    (slotRead i v s).ramps = s.ramps ∧ (slotRead i v s).controller = s.controller ∧
    (slotRead i v s).protection.active = s.protection.active ∧
    (slotRead i v s).protection.conditions = s.protection.conditions ∧
    (slotRead i v s).protection.records = s.protection.records := by
  simp [slotRead]

@[simp] theorem lowPresent_keeps (s : State) :
    (lowPresent s).pending = s.pending ∧ (lowPresent s).pins = s.pins ∧ (lowPresent s).loader = s.loader ∧
    (lowPresent s).link.sending = s.link.sending ∧ (lowPresent s).cycle.number = s.cycle.number ∧
    (lowPresent s).peers = s.peers ∧ (lowPresent s).scene = s.scene ∧ (lowPresent s).speed.source = s.speed.source ∧
    (lowPresent s).speed.state = s.speed.state ∧ (lowPresent s).speed.desired = s.speed.desired ∧
    (lowPresent s).speed.fallTimer = s.speed.fallTimer ∧ (lowPresent s).equaliser = s.equaliser ∧
    (lowPresent s).protection.scan = s.protection.scan ∧ (lowPresent s).protection.readings = s.protection.readings ∧
    (lowPresent s).protection.clip = s.protection.clip ∧
    (lowPresent s).protection.riseGuard = s.protection.riseGuard ∧
    (lowPresent s).protection.clipFall = s.protection.clipFall ∧
    (lowPresent s).protection.sticky = s.protection.sticky ∧
    (lowPresent s).controller.station = s.controller.station ∧ (lowPresent s).controller.stop = s.controller.stop ∧
    (lowPresent s).draws = s.draws ∧ (lowPresent s).link = s.link ∧ (lowPresent s).cycle = s.cycle ∧
    (lowPresent s).planner = s.planner ∧ (lowPresent s).ramps = s.ramps ∧ (lowPresent s).controller = s.controller ∧
    (lowPresent s).protection.active = s.protection.active ∧ (lowPresent s).protection.records = s.protection.records := by
  simp [lowPresent]

@[simp] theorem Protection.clipFalls_keeps (p : Protection) :
    p.clipFalls.scan = p.scan ∧ p.clipFalls.readings = p.readings ∧ p.clipFalls.conditions = p.conditions ∧
    p.clipFalls.records = p.records ∧ p.clipFalls.riseGuard = p.riseGuard ∧ p.clipFalls.active = p.active ∧
    p.clipFalls.sticky = p.sticky := by simp [Protection.clipFalls]

/-! ### The counters that the handling leaves -/

@[simp] theorem countDrop_butDrops (l : Link) : l.countDrop.counters.butDrops = l.counters.butDrops := rfl

@[simp] theorem takeMark_butDrops (n : CycleNumber) (o : MarkOrder) (s : State) :
    (takeMark n o s).link.counters.butDrops = s.link.counters.butDrops := by
  simp [takeMark, Link.withdraw]

@[simp] theorem reportGeneration_butDrops (r : Report) (s : State) :
    (reportGeneration r s).link.counters.butDrops = s.link.counters.butDrops := by
  unfold reportGeneration; split <;> simp

@[simp] theorem takePresence_butDrops (n : Station) (f : PresenceFrame) (s : State) :
    (takePresence n f s).link.counters.butDrops = s.link.counters.butDrops := by
  unfold takePresence; split
  · rfl
  · unfold recordReport; dsimp only
    repeat' split
    all_goals simp

@[simp] theorem respond_butDrops (n : Station) (p : Probe) (i : ItemSelector) (c : State → AnswerContents) (s : State) :
    (respond n p i c s).link.counters.butDrops = s.link.counters.butDrops := by
  unfold respond; repeat' split
  all_goals simp

@[simp] theorem reportFault_butDrops (a : ChannelFault) (n : Channel) (s : State) :
    (reportFault a n s).link.counters.butDrops = s.link.counters.butDrops := by
  unfold reportFault; dsimp only; split <;> simp

@[simp] theorem latchOffset_butDrops (k : SilencingKind) (n : Channel) (s : State) :
    (latchOffset k n s).link.counters.butDrops = s.link.counters.butDrops := by
  unfold latchOffset offsetOnDip offsetOnWait; dsimp only; repeat' split
  all_goals simp

@[simp] theorem offsetRecognised_butDrops (n : Channel) (s : State) :
    (offsetRecognised n s).link.counters.butDrops = s.link.counters.butDrops := by
  unfold offsetRecognised reportOffset; dsimp only; repeat' split
  all_goals simp

@[simp] theorem judgeOffset_butDrops (n : Channel) (v : Int) (s : State) :
    (judgeOffset n v s).link.counters.butDrops = s.link.counters.butDrops := by
  unfold judgeOffset; dsimp only; split <;> simp

@[simp] theorem turnFault_thermal_butDrops (f : StationFault) (b : Bool) (x : ConditionTurn) (s : State) :
    (turnFault f b (clearThermalFault f) x s).link.counters.butDrops = s.link.counters.butDrops := by
  unfold turnFault; repeat' split
  all_goals simp

@[simp] theorem turnFault_rail_butDrops (f : StationFault) (b : Bool) (x : ConditionTurn) (s : State) :
    (turnFault f b (clearRailFault f) x s).link.counters.butDrops = s.link.counters.butDrops := by
  unfold turnFault; repeat' split
  all_goals simp

@[simp] theorem judgeSlot_butDrops (i : Fin 10) (v : Int) (s : State) :
    (judgeSlot i v s).link.counters.butDrops = s.link.counters.butDrops := by
  unfold judgeSlot judgeTemperature judgeRail; repeat' split
  all_goals simp

@[simp] theorem takeOvercurrent_butDrops (n : Channel) (s : State) :
    (takeOvercurrent n s).link.counters.butDrops = s.link.counters.butDrops := by
  unfold takeOvercurrent overcurrentStrikes; dsimp only; repeat' split
  all_goals simp

@[simp] theorem takeClip_butDrops (n : Channel) (s : State) :
    (takeClip n s).link.counters.butDrops = s.link.counters.butDrops := by
  unfold takeClip limitClip reportClip; dsimp only; repeat' split
  all_goals simp

@[simp] theorem railFailed_butDrops (s : State) :
    (railFailed s).link.counters.butDrops = s.link.counters.butDrops := by
  simp [railFailed]

@[simp] theorem takeWakeLine_butDrops (s : State) :
    (takeWakeLine s).link.counters.butDrops = s.link.counters.butDrops := by
  unfold takeWakeLine endRest freshStart; split <;> simp

@[simp] theorem waitAgain_butDrops (f : QueuedFrame) (s : State) :
    (waitAgain f s).link.counters.butDrops = s.link.counters.butDrops := by
  unfold waitAgain; repeat' split
  all_goals simp

@[simp] theorem ownMark_butDrops (n : CycleNumber) (o : MarkOrder) (s : State) :
    (ownMark n o s).link.counters.butDrops = s.link.counters.butDrops := by
  unfold ownMark; split <;> simp

/-! ### The queue of commands -/

theorem receive_pending (rx : Reception) {handle : State → State} (h : ∀ t, (handle t).pending = t.pending) (s : State) :
    (receive rx handle s).pending = s.pending :=
  receive_invariant (P := fun t => t.pending = s.pending) rx handle (by simp) (fun t e => by simpa using e)
    (fun t e => by simpa using e) (fun t e => (h t).trans e)

/-- A fold over states keeps a field that each of its steps keeps. -/
theorem lineTimeOut_field {α : Type} (f : State → α) (h : ∀ b t, f (frameEnds b t) = f t)
    (s : State) : f (effect .lineTimeOut s) = f { s with link := s.link.timedOut } :=
  foldl_field f (fun t b => h b t) _ _

@[simp] theorem alertIfNew_pending (f : StationFault) (b : PerFault Bool) (s : State) :
    (alertIfNew f b s).pending = s.pending := by unfold alertIfNew; split <;> simp

theorem startComplete_pending (straps : Station) (read : ImageRead) (b : Bool) (s : State) :
    (startComplete straps read b s).pending = s.pending := by
  have hcheck (c : Option Image) : (afterCheck straps read c s).pending = s.pending := by
    unfold afterCheck; split <;> simp [takeImage, configBad, freshStartFailed, firstStart]
  have htest (t : State) : (selfTested b t).pending = t.pending := by
    unfold selfTested; repeat' split
    all_goals simp
  have hleave (d : StationState) (p : PerFault Bool) (t : State) : (leaveStarting d p t).pending = t.pending := by
    unfold leaveStarting startTimers; dsimp only; repeat' split
    all_goals simp
  simp [startComplete, hleave, htest, hcheck]

theorem effect_pending (c : Instr) (s : State) : (effect c s).pending = s.pending := by
  cases c
  case lineTimeOut => exact lineTimeOut_field _ (by simp) s
  case restart rx target =>
    simp only [effect_restart, finish_keeps]
    exact receive_pending rx (fun t => by unfold ifAddressed; split <;> simp [restartBlocks, State.powerOnBlocks]) s
  case startComplete => simp only [effect_startComplete]; split <;> simp [startComplete_pending]
  all_goals simp [State.powerOnBlocks]
  all_goals repeat' split
  all_goals simp

/-- Settles O3. -/
theorem everyCommandAnswersNextAndKeepsTheQueue : Obligations.EveryCommandAnswersNextAndKeepsTheQueue := by
  intro c s
  exact ⟨effect c s, exec_effect c s, effect_pending c s⟩

end Sys2Proof.Machine
end

section
/-! PROOFS. Which commands may write which state: the scene, the bank, the speed source, the loader, the counters of the line, the
cycle number, the pins, the Peer Table, the monitor and the station state (O59, O60). -/

namespace Sys2Proof.Machine

/-- The commands that may write the scene records. -/
def writesScene : Instr → Bool
  | .markReceived _ _ _ | .offerReceived _ _ | .sceneReceived _ _ | .presenceReceived _ _ | .ownMarkComplete _ _
  | .ownOfferComplete _ | .joinWindowExpiry | .fetchTimerExpiry => true
  | _ => false

/-- The commands that may write the Equaliser Bank. -/
def writesBank : Instr → Bool
  | .markReceived _ _ _ | .sceneReceived _ _ | .ownMarkComplete _ _ | .clearCounts _ _ | .joinWindowExpiry
  | .preparationTimerExpiry => true
  | _ => false

/-- The commands that may write the speed source record. -/
def writesSpeed : Instr → Bool
  | .speedReceived _ _ _ | .speedStale | .fallTimerExpiry => true
  | _ => false

/-- The commands that may write the pins. -/
def writesPins : Instr → Bool
  | .restReceived _ _ | .probeStation _ _ _ | .railGoodArrival | .railGoodLoss | .wakeLineRise => true
  | _ => false

theorem effect_scene {c : Instr} (hs : isStart c = false) (hw : writesScene c = false) (s : State) :
    (effect c s).scene = s.scene := by
  cases c
  case lineTimeOut => exact lineTimeOut_field (fun t => t.scene) (by simp) s
  all_goals try cases hs
  all_goals try cases hw
  all_goals simp
  all_goals repeat' split
  all_goals simp

theorem effect_equaliser {c : Instr} (hs : isStart c = false) (hw : writesBank c = false) (s : State) :
    (effect c s).equaliser = s.equaliser := by
  cases c
  case lineTimeOut => exact lineTimeOut_field (fun t => t.equaliser) (by simp) s
  all_goals try cases hs
  all_goals try cases hw
  all_goals simp
  all_goals repeat' split
  all_goals simp

theorem effect_speedRecord {c : Instr} (hs : isStart c = false) (hw : writesSpeed c = false) (s : State) :
    (effect c s).speed.source = s.speed.source ∧ (effect c s).speed.state = s.speed.state ∧
      (effect c s).speed.desired = s.speed.desired ∧ (effect c s).speed.fallTimer = s.speed.fallTimer := by
  cases c
  case lineTimeOut =>
    exact ⟨lineTimeOut_field (fun t => t.speed.source) (by simp) s, lineTimeOut_field (fun t => t.speed.state) (by simp) s,
      lineTimeOut_field (fun t => t.speed.desired) (by simp) s, lineTimeOut_field (fun t => t.speed.fallTimer) (by simp) s⟩
  all_goals try cases hs
  all_goals try cases hw
  all_goals simp
  all_goals repeat' split
  all_goals simp

theorem effect_loader {c : Instr} (hs : isStart c = false) (hw : c ≠ .wakeLineRise) (s : State) :
    (effect c s).loader = s.loader := by
  cases c
  case lineTimeOut => exact lineTimeOut_field (fun t => t.loader) (by simp) s
  case wakeLineRise => exact absurd rfl hw
  all_goals try cases hs
  all_goals simp
  all_goals repeat' split
  all_goals simp

theorem effect_draws {c : Instr} (hs : isStart c = false) (s : State) :
    (effect c s).draws = s.draws := by
  cases c
  case lineTimeOut => exact lineTimeOut_field (fun t => t.draws) (by simp) s
  all_goals try cases hs
  all_goals simp
  all_goals repeat' split
  all_goals simp

theorem effect_number {c : Instr} (hs : isStart c = false) (hw : ((∃ rx n o, c = .markReceived rx n o) ∨ ∃ a o, c = .ownMarkComplete a o) → False) (s : State) :
    (effect c s).cycle.number = s.cycle.number := by
  cases c
  case lineTimeOut => exact lineTimeOut_field (fun t => t.cycle.number) (by simp) s
  case markReceived => exact absurd (.inl ⟨_, _, _, rfl⟩) hw
  case ownMarkComplete => exact absurd (.inr ⟨_, _, rfl⟩) hw
  all_goals try cases hs
  all_goals simp
  all_goals repeat' split
  all_goals simp

theorem effect_pins {c : Instr} (hs : isStart c = false) (hw : writesPins c = false) (s : State) :
    (effect c s).pins = s.pins := by
  cases c
  case lineTimeOut => exact lineTimeOut_field (fun t => t.pins) (by simp) s
  all_goals try cases hs
  all_goals try cases hw
  all_goals simp
  all_goals repeat' split
  all_goals simp

theorem effect_scan {c : Instr} (hs : isStart c = false) (hw : ∀ v, c ≠ .senseSlot v) (s : State) :
    (effect c s).protection.readings = s.protection.readings ∧
      (c ≠ .wakeLineRise → (effect c s).protection.scan = s.protection.scan) := by
  cases c
  case lineTimeOut =>
    exact ⟨lineTimeOut_field (fun t => t.protection.readings) (by simp) s,
      fun _ => lineTimeOut_field (fun t => t.protection.scan) (by simp) s⟩
  case senseSlot => exact absurd rfl (hw _)
  all_goals try cases hs
  all_goals simp
  all_goals repeat' split
  all_goals simp

/-- The commands that may write the clip contribution and its timers. -/
def writesClip : Instr → Bool
  | .clipFlag _ | .riseGuardExpiry | .clipFallTimerExpiry => true
  | _ => false

theorem effect_clip {c : Instr} (hs : isStart c = false) (hw : writesClip c = false) (s : State) :
    (effect c s).protection.clip = s.protection.clip ∧ (effect c s).protection.riseGuard = s.protection.riseGuard ∧
      (effect c s).protection.clipFall = s.protection.clipFall := by
  cases c
  case lineTimeOut =>
    exact ⟨lineTimeOut_field (fun t => t.protection.clip) (by simp) s,
      lineTimeOut_field (fun t => t.protection.riseGuard) (by simp) s,
      lineTimeOut_field (fun t => t.protection.clipFall) (by simp) s⟩
  all_goals try cases hs
  all_goals try cases hw
  all_goals simp
  all_goals repeat' split
  all_goals simp

/-- The commands beside the receptions that may write the Peer Table. -/
def writesPeers : Instr → Bool
  | .peerSilent _ | .peerLost _ | .downTimerExpiry => true
  | _ => false

theorem effect_peers {c : Instr} (hs : isStart c = false) (hr : isReception c = false) (hw : writesPeers c = false) (s : State) :
    (effect c s).peers = s.peers := by
  cases c
  case lineTimeOut => exact lineTimeOut_field (fun t => t.peers) (by simp) s
  all_goals try cases hs
  all_goals try cases hr
  all_goals try cases hw
  all_goals simp
  all_goals repeat' split
  all_goals simp

/-- The commands beside the receptions that may set a sticky flag. -/
def writesSticky : Instr → Bool
  | .senseSlot _ | .railGoodLoss | .railGoodTimerExpiry => true
  | _ => false

theorem effect_sticky {c : Instr} (hs : isStart c = false) (hr : isReception c = false) (hw : writesSticky c = false) (s : State) :
    (effect c s).protection.sticky = s.protection.sticky := by
  cases c
  case lineTimeOut => exact lineTimeOut_field (fun t => t.protection.sticky) (by simp) s
  all_goals try cases hs
  all_goals try cases hr
  all_goals try cases hw
  all_goals simp
  all_goals repeat' split
  all_goals simp

/-- The commands beside the receptions that may move the station state. -/
def writesStation : Instr → Bool
  | .senseSlot _ | .railGoodArrival | .railGoodLoss | .railGoodTimerExpiry | .railRetryTimerExpiry | .stabiliseTimerExpiry
  | .downTimerExpiry | .wakeLineRise => true
  | _ => false

theorem effect_station {c : Instr} (hs : isStart c = false) (hr : isReception c = false) (hw : writesStation c = false) (s : State) :
    (effect c s).controller.station = s.controller.station ∧ (effect c s).controller.stop = s.controller.stop := by
  cases c
  case lineTimeOut =>
    exact ⟨lineTimeOut_field (fun t => t.controller.station) (by simp) s,
      lineTimeOut_field (fun t => t.controller.stop) (by simp) s⟩
  all_goals try cases hs
  all_goals try cases hr
  all_goals try cases hw
  all_goals simp
  all_goals repeat' split
  all_goals simp

end Sys2Proof.Machine
end

section
/-! PROOFS. Which commands may write the counters of the line, the ramps, and every block but the link and their own (O59, O60). -/

namespace Sys2Proof.Machine

/-! ### The counters of the line -/

/-- The commands that count what passes on the line. -/
def countsLine : Instr → Bool
  | .ownMarkComplete _ _ | .ownOfferComplete _ | .ownPresenceComplete _ | .ownFrameComplete _ | .arbitrationLost
  | .checkError | .lineTimeOut | .clearCounts _ _ => true
  | _ => false

/-- The commands that count offers, alerts, rests or failed resyncs. -/
def countsEvents : Instr → Bool
  | .alertReceived _ | .offerReceived _ _ | .restReceived _ _ | .fetchTimerExpiry => true
  | _ => false

@[simp] theorem Link.start_keeps (l : Link) :
    l.start.counters = l.counters ∧ l.start.isolated = l.isolated ∧ l.start.isolationTimer = l.isolationTimer := by
  unfold Link.start; split <;> simp

@[simp] theorem Link.lineFrameEnded_keeps (l : Link) :
    l.lineFrameEnded.counters = l.counters ∧ l.lineFrameEnded.sending = l.sending ∧
    l.lineFrameEnded.isolated = l.isolated ∧ l.lineFrameEnded.isolationTimer = l.isolationTimer ∧
    l.lineFrameEnded.nextStamp = l.nextStamp ∧ l.lineFrameEnded.conflictReported = l.conflictReported := by
  simp [Link.lineFrameEnded]

theorem effect_butDrops {c : Instr} (hs : isStart c = false) (hl : countsLine c = false) (he : countsEvents c = false)
    (s : State) : (effect c s).link.counters.butDrops = s.link.counters.butDrops := by
  cases c
  all_goals try cases hs
  all_goals try cases hl
  all_goals try cases he
  all_goals simp
  all_goals repeat' split
  all_goals simp

@[simp] theorem queueApplied_lineCounts (s : State) :
    (queueApplied s).link.counters.lineCounts = s.link.counters.lineCounts :=
  LinkCounters.lineCounts_of_butDrops (queueApplied_butDrops s)

@[simp] theorem enterResync_lineCounts (w : Generation) (s : State) :
    (enterResync w s).link.counters.lineCounts = s.link.counters.lineCounts :=
  LinkCounters.lineCounts_of_butDrops (enterResync_butDrops w s)

@[simp] theorem watchOffer_lineCounts (o : Offer) (s : State) :
    (watchOffer o s).link.counters.lineCounts = s.link.counters.lineCounts :=
  LinkCounters.lineCounts_of_butDrops (watchOffer_butDrops o s)

@[simp] theorem LinkCounters.lineCounts_add (k : LinkCounters) :
    k.addAlert.lineCounts = k.lineCounts ∧ k.addOfferRefused.lineCounts = k.lineCounts ∧
    k.addStaleOffer.lineCounts = k.lineCounts ∧ k.addFailedResync.lineCounts = k.lineCounts ∧
    k.addRestRefused.lineCounts = k.lineCounts := ⟨rfl, rfl, rfl, rfl, rfl⟩

@[simp] theorem takeOffer_lineCounts (n : Station) (o : Offer) (s : State) :
    (takeOffer n o s).link.counters.lineCounts = s.link.counters.lineCounts := by
  unfold takeOffer measureOffer refuseOffer
  repeat' split
  all_goals simp

@[simp] theorem handleRest_lineCounts (b : Bool) (s : State) :
    (handleRest b s).link.counters.lineCounts = s.link.counters.lineCounts := by
  unfold handleRest takeRest; repeat' split
  all_goals simp

@[simp] theorem fetchTimerEnds_lineCounts (s : State) :
    (fetchTimerEnds s).link.counters.lineCounts = s.link.counters.lineCounts := by
  unfold fetchTimerEnds; repeat' split
  all_goals simp [LinkCounters.lineCounts_of_butDrops (queueFetch_butDrops _ _)]

@[simp] theorem countAlert_lineCounts (s : State) :
    (countAlert s).link.counters.lineCounts = s.link.counters.lineCounts := by simp [countAlert]

theorem effect_lineCounts {c : Instr} (hs : isStart c = false) (hl : countsLine c = false) (s : State) :
    (effect c s).link.counters.lineCounts = s.link.counters.lineCounts := by
  cases he : countsEvents c with
  | false => exact LinkCounters.lineCounts_of_butDrops (effect_butDrops hs hl he s)
  | true =>
    cases c
    all_goals try cases he
    all_goals simp

/-- A completed own frame adds to the frames sent and not acknowledged alone (R164, R171). -/
theorem effect_completion_counts {c : Instr} (hc : isOwnCompletion c = true) (s : State) :
    ∃ k, (k = s.link.counters ∨ ∃ ack, k = s.link.counters.addCompleted ack) ∧
      (effect c s).link.counters.lineCounts = k.lineCounts := by
  have same : ∃ k, (k = s.link.counters ∨ ∃ ack, k = s.link.counters.addCompleted ack) ∧
      s.link.counters.lineCounts = k.lineCounts := ⟨_, .inl rfl, rfl⟩
  have added (ack : Bool) {t : State}
      (h : t.link.counters.lineCounts = (completed ack s).link.counters.lineCounts) :
      ∃ k, (k = s.link.counters ∨ ∃ ack, k = s.link.counters.addCompleted ack) ∧
        t.link.counters.lineCounts = k.lineCounts := ⟨_, .inr ⟨ack, rfl⟩, h⟩
  cases c
  all_goals try cases hc
  case ownMarkComplete.refl ack order =>
    simp only [effect_ownMarkComplete, unlessOrphan_eq]
    repeat' split
    all_goals first | exact same | exact added ack rfl | skip
    exact added ack (by simp [LinkCounters.lineCounts_of_butDrops (ownMark_butDrops _ _ _)])
  case ownOfferComplete.refl ack =>
    simp only [effect_ownOfferComplete, unlessOrphan_eq]
    repeat' split
    all_goals first | exact same | exact added ack rfl | skip
    exact added ack (by simp [LinkCounters.lineCounts_of_butDrops (offerEnds_butDrops _)])
  case ownPresenceComplete.refl ack =>
    simp only [effect_ownPresenceComplete, unlessOrphan_eq]
    repeat' split
    all_goals first | exact same | exact added ack rfl | skip
    exact added ack (by simp)
  case ownFrameComplete.refl ack =>
    simp only [effect_ownFrameComplete]
    repeat' split
    all_goals first | exact same | exact added ack rfl

theorem LinkCounters.addCompleted_keeps (ack : Bool) (k : LinkCounters) :
    (k.addCompleted ack).arbitrationLost = k.arbitrationLost ∧ (k.addCompleted ack).checkErrors = k.checkErrors ∧
    (k.addCompleted ack).lineTimeOuts = k.lineTimeOuts := by
  cases ack <;> exact ⟨rfl, rfl, rfl⟩

theorem LinkCounters.lineCounts_eq_iff {k l : LinkCounters} :
    k.lineCounts = l.lineCounts ↔ k.framesSent = l.framesSent ∧ k.notAcknowledged = l.notAcknowledged ∧
      k.arbitrationLost = l.arbitrationLost ∧ k.checkErrors = l.checkErrors ∧ k.lineTimeOuts = l.lineTimeOuts := by
  simp [LinkCounters.lineCounts]

theorem effect_arbitrationLost_counts (s : State) :
    (effect .arbitrationLost s).link.counters.butDrops = s.link.counters.butDrops ∨
      (effect .arbitrationLost s).link.counters.butDrops = s.link.counters.addArbitrationLost.butDrops := by
  simp only [effect_arbitrationLost, unlessOrphan_eq]
  repeat' split
  · exact .inl rfl
  · exact .inr rfl
  · exact .inr (by simp [droppedOut])

theorem effect_lineTimeOut_counts (s : State) :
    (effect .lineTimeOut s).link.counters.butDrops = s.link.counters.addLineTimeOut.butDrops :=
  lineTimeOut_field (fun t => t.link.counters.butDrops) (by simp) s

/-- The counters of the line, each by the commands that count it (R171). -/
theorem effect_counters {c : Instr} (hs : isStart c = false) (hc : ∀ rx k, c ≠ .clearCounts rx k) (s : State) :
    (isOwnCompletion c = false →
      (effect c s).link.counters.framesSent = s.link.counters.framesSent ∧
      (effect c s).link.counters.notAcknowledged = s.link.counters.notAcknowledged) ∧
    (c ≠ .arbitrationLost → (effect c s).link.counters.arbitrationLost = s.link.counters.arbitrationLost) ∧
    (c ≠ .checkError → (effect c s).link.counters.checkErrors = s.link.counters.checkErrors) ∧
    (c ≠ .lineTimeOut → (effect c s).link.counters.lineTimeOuts = s.link.counters.lineTimeOuts) := by
  cases hl : countsLine c with
  | false =>
    obtain ⟨h1, h2, h3, h4, h5⟩ := LinkCounters.lineCounts_eq_iff.1 (effect_lineCounts hs hl s)
    exact ⟨fun _ => ⟨h1, h2⟩, fun _ => h3, fun _ => h4, fun _ => h5⟩
  | true =>
    cases ho : isOwnCompletion c with
    | true =>
      obtain ⟨k, hk, hl⟩ := effect_completion_counts ho s
      obtain ⟨-, -, h3, h4, h5⟩ := LinkCounters.lineCounts_eq_iff.1 hl
      rcases hk with rfl | ⟨ack, rfl⟩
      · exact ⟨nofun, fun _ => h3, fun _ => h4, fun _ => h5⟩
      · obtain ⟨e3, e4, e5⟩ := LinkCounters.addCompleted_keeps ack s.link.counters
        exact ⟨nofun, fun _ => h3.trans e3, fun _ => h4.trans e4, fun _ => h5.trans e5⟩
    | false =>
      cases c
      all_goals try cases hl
      all_goals try cases ho
      case clearCounts.refl.refl rx k => exact absurd rfl (hc rx k)
      case checkError.refl.refl => simp [LinkCounters.addCheckError]
      case lineTimeOut.refl.refl =>
        obtain ⟨h1, h2, h3, h4, -⟩ := LinkCounters.butDrops_eq_iff.1 (effect_lineTimeOut_counts s)
        exact ⟨fun _ => ⟨h1, h2⟩, fun _ => h3, fun _ => h4, fun h => absurd rfl h⟩
      case arbitrationLost.refl.refl =>
        rcases effect_arbitrationLost_counts s with h | h
        all_goals obtain ⟨h1, h2, -, h4, h5, -⟩ := LinkCounters.butDrops_eq_iff.1 h
        all_goals exact ⟨fun _ => ⟨h1, h2⟩, fun h => absurd rfl h, fun _ => h4, fun _ => h5⟩

end Sys2Proof.Machine
end

section
/-! PROOFS. Which commands leave the ramps, which receptions leave every block but the link and their own, and what a command on
one channel leaves of the others (O59, O60). -/

namespace Sys2Proof.Machine

/-! ### Commands that leave the ramps -/

/-- A command that ends in `finish` leaves the ramps that its work left, while the rail is not released. -/
theorem finish_ramps_of_railKept {s u : State} (hc : u.controller = s.controller) (h : railKept s (finish u)) :
    (finish u).ramps = u.ramps := by
  rw [finish_of_railKept hc h]; rfl

theorem effect_ramps {c : Instr} {s : State} (hl : leavesRamps c = true) (hk : railKept s (effect c s)) :
    (effect c s).ramps = s.ramps := by
  cases c
  all_goals try cases hl
  case lineTimeOut.refl => exact lineTimeOut_field (fun t => t.ramps) (by simp) s
  case arbitrationLost.refl =>
    simp only [effect_arbitrationLost, unlessOrphan_eq] at hk ⊢
    split
    · rfl
    next f hf =>
      simp only [hf] at hk
      split
      · rfl
      next ho =>
        rw [if_neg ho] at hk
        rw [finish_ramps_of_railKept (by simp) hk]
        simp
  case ownOfferComplete.refl =>
    simp only [effect_ownOfferComplete, unlessOrphan_eq] at hk ⊢
    repeat' split
    all_goals try rfl
    next f hf _ o hb ho =>
      simp only [hf, hb, if_neg ho] at hk
      rw [finish_ramps_of_railKept (by simp) hk]
      simp
  case ownPresenceComplete.refl =>
    simp only [effect_ownPresenceComplete, unlessOrphan_eq] at hk ⊢
    repeat' split
    all_goals try rfl
    next f hf _ o hb ho =>
      simp only [hf, hb, if_neg ho] at hk
      rw [finish_ramps_of_railKept (by simp) hk]
      simp
  all_goals simp
  all_goals repeat' split
  all_goals simp

/-! ### Receptions that leave every block but the link and their own -/

/-- What a command may touch beside the link, the scene, the speed source and the counts. -/
def outsideLink (s : State) : PerChannel RampRecord × Planner × Controller × PeerTable × PerFault Bool × Conditions :=
  (s.ramps, s.planner, s.controller, s.peers, s.protection.active, s.protection.conditions)

theorem finish_outsideLink {s u : State} (hu : outsideLink u = outsideLink s) (h : railKept s (finish u)) :
    outsideLink (finish u) = outsideLink s := by
  have hc : u.controller = s.controller := congrArg (fun x => x.2.2.1) hu
  rw [finish_of_railKept hc h, ← hu]
  simp [outsideLink]

/-- A frame heard while ISOLATED is clear writes the link alone (R172). -/
theorem goodFrame_of_not_isolated {s : State} (h : s.link.isolated = false) :
    goodFrame s = { s with link := { s.link.lineFrameEnded with
      acknowledging := decide (s.controller.station ≠ .conflict), isolated := false, isolationTimer := some (ms 200) } } := by
  simp [goodFrame, frameHeard, h]

theorem received_outsideLink {rx : Reception} {handle : State → State} {s : State} (hn : rx.sender ≠ s.loader.own)
    (hr : s.controller.station ≠ .resting) (hi : s.link.isolated = false)
    (handled : ∀ t, outsideLink (handle t) = outsideLink t) (hk : railKept s (received rx handle s)) :
    outsideLink (received rx handle s) = outsideLink s := by
  have heard : outsideLink (goodFrame s) = outsideLink s := by rw [goodFrame_of_not_isolated hi]; rfl
  refine finish_outsideLink ?_ hk
  by_cases hs : s.controller.station = .starting
  · simpa [receive, hs] using heard
  · have keeps (t : State) (ht : t.controller.station ≠ .resting) : (handle t).controller.station ≠ .resting := by
      have : (handle t).controller = t.controller := congrArg (fun x => x.2.2.1) (handled t)
      rwa [this]
    rw [receive_routed rx handle hs hr hn keeps, handled, heard]

theorem malformed_outsideLink {n : Station} {s : State} (hn : n ≠ s.loader.own) (hi : s.link.isolated = false)
    (hk : railKept s (finish (receiveUnheard n (fun s => s) s))) :
    outsideLink (finish (receiveUnheard n (fun s => s) s)) = outsideLink s := by
  have heard : outsideLink (goodFrame s) = outsideLink s := by rw [goodFrame_of_not_isolated hi]; rfl
  refine finish_outsideLink ?_ hk
  have : n ≠ own (goodFrame s) := by simpa [own] using hn
  simp only [receiveUnheard, if_neg this, ite_self, heard]

theorem effect_outsideLink {c : Instr} {s : State} {n : Station} (hq : quietSender c = some n) (hn : n ≠ s.loader.own)
    (hr : s.controller.station ≠ .resting) (hi : s.link.isolated = false) (hk : railKept s (effect c s)) :
    outsideLink (effect c s) = outsideLink s := by
  have hn' : ∀ m, quietSender c = some m → m ≠ s.loader.own := fun m hm => by
    rw [hm] at hq; cases hq; exact hn
  cases c
  all_goals try cases hq
  case malformedFrame.refl => exact malformed_outsideLink hn hi hk
  case probeStation.refl rx p level =>
    exact received_outsideLink (s := withWakeLine level s) hn hr hi (fun t => by simp [outsideLink]) hk
  case clearSticky.refl rx target kinds =>
    exact received_outsideLink (handle := ifAddressed target (clearStickyFlags kinds)) hn hr hi
      (fun t => by simp [outsideLink]) hk
  case clearCounts.refl rx target =>
    exact received_outsideLink (handle := ifAddressed target clearCounts) hn hr hi (fun t => by simp [outsideLink]) hk
  all_goals exact received_outsideLink hn hr hi (fun t => by simp [outsideLink]) hk

/-! ### A command on one channel -/

/-- What the record tables of another channel show. -/
def channelView (m : Channel) (s : State) : RampRecord × FaultRecord := (s.ramps.get m, s.protection.records.get m)

theorem applyRamp_other {n m : Channel} (h : m ≠ n) (r : RampResult) (s : State) :
    channelView m (applyRamp n r s) = channelView m s := by
  unfold applyRamp; dsimp only
  split <;> simp [channelView, PerChannel.get_set_ne _ _ h]

theorem releaseFaultClaim_other {n m : Channel} (h : m ≠ n) (s : State) :
    channelView m (releaseFaultClaim n s) = channelView m s := by
  unfold releaseFaultClaim; split <;> simp [channelView, PerChannel.get_set_ne _ _ h]

theorem giveFrame_channelView (m : Channel) (b : FrameBody) (s : State) :
    channelView m (giveFrame b s) = channelView m s := by simp [channelView]

theorem setRecord_other {n m : Channel} (h : m ≠ n) (r : FaultRecord) (s : State) :
    channelView m (s.setRecord n r) = channelView m s := by simp [channelView, PerChannel.get_set_ne _ _ h]

theorem silenceChannel_other {n m : Channel} (h : m ≠ n) (a : ChannelFault) (k : SilencingKind) (d : RecordState)
    (s : State) : channelView m (silenceChannel a k d n s) = channelView m s := by
  simp only [silenceChannel, placeClaim, queueAlert]
  rw [applyRamp_other h, giveFrame_channelView, setRecord_other h]

theorem reportFault_other {n m : Channel} (h : m ≠ n) (a : ChannelFault) (s : State) :
    channelView m (reportFault a n s) = channelView m s := by
  unfold reportFault queueAlert; dsimp only
  split
  · exact setRecord_other h _ s
  · rw [giveFrame_channelView, setRecord_other h]

theorem takeOvercurrent_other {n m : Channel} (h : m ≠ n) (s : State) :
    channelView m (takeOvercurrent n s) = channelView m s := by
  unfold takeOvercurrent overcurrentStrikes; dsimp only
  repeat' split
  all_goals simp only [silenceChannel_other h, reportFault_other h, setRecord_other h]

theorem finish_channelView {s u : State} {m : Channel} (hc : u.controller = s.controller) (h : railKept s (finish u)) :
    channelView m (finish u) = channelView m u := by
  rw [finish_of_railKept hc h]; simp [channelView]

/-- The commands on one channel. -/
def onChannel (n : Channel) (c : Instr) : Prop :=
  c = .stepTimerExpiry n ∨ c = .duckHoldExpiry n ∨ c = .overcurrentFlag n ∨ c = .retryTimerExpiry n ∨ c = .budgetTimerExpiry n

theorem effect_other {c : Instr} {n m : Channel} {s : State} (hc : onChannel n c) (h : m ≠ n)
    (hk : railKept s (effect c s)) : channelView m (effect c s) = channelView m s := by
  obtain rfl | rfl | rfl | rfl | rfl := hc
  · simp only [effect_stepTimerExpiry] at hk ⊢
    split
    next hi => rw [if_pos hi] at hk; rw [finish_channelView (by simp) hk, applyRamp_other h]
    · rfl
  · simp only [effect_duckHoldExpiry] at hk ⊢
    split
    next hi => rw [if_pos hi] at hk; rw [finish_channelView (by simp) hk, applyRamp_other h]
    · rfl
  · simp only [effect_overcurrentFlag] at hk ⊢
    split
    next hi => rw [if_pos hi] at hk; rw [finish_channelView (by simp) hk, takeOvercurrent_other h]
    · rfl
  · simp only [effect_retryTimerExpiry] at hk ⊢
    split
    next hi =>
      rw [if_pos hi] at hk; rw [finish_channelView (by simp) hk, releaseFaultClaim_other h, setRecord_other h]
    · rfl
  · simp only [effect_budgetTimerExpiry]
    split
    · exact setRecord_other h _ s
    · rfl

/-- Settles O59. -/
theorem whoWritesSceneRampsBanksSpeedLoaderAndCounters :
    Obligations.WhoWritesSceneRampsBanksSpeedLoaderAndCounters := by
  intro c s t he hs
  obtain rfl := effect_of_exec he
  refine ⟨fun h1 h2 h3 h4 h5 h6 h7 h8 => effect_scene hs ?_ s, fun h1 h2 h3 h4 h5 h6 => effect_equaliser hs ?_ s,
    fun h1 h2 h3 => effect_speedRecord hs ?_ s, fun h => effect_loader hs h s, effect_draws hs s,
    fun h => effect_counters hs h s, fun hk hl => effect_ramps hl hk, fun n hq hn hk hr hi => ?_⟩
  · cases c <;> simp_all [writesScene]
  · cases c <;> simp_all [writesBank]
  · cases c <;> simp_all [writesSpeed]
  · simpa [outsideLink] using effect_outsideLink hq hn hr hi hk

/-- Settles O60. -/
theorem whoWritesNumberPinsPeersMonitorAndStation : Obligations.WhoWritesNumberPinsPeersMonitorAndStation := by
  intro c s t he hs
  obtain rfl := effect_of_exec he
  refine ⟨fun h1 h2 => effect_number hs ?_ s, fun h1 h2 h3 h4 h5 => effect_pins hs ?_ s,
    fun hr h1 h2 h3 => effect_peers hs hr ?_ s, fun h => effect_scan hs h s, fun h1 h2 h3 => effect_clip hs ?_ s,
    fun hr h1 h2 h3 => effect_sticky hs hr ?_ s, fun hr h1 h2 h3 h4 h5 h6 h7 h8 => effect_station hs hr ?_ s,
    fun n m hk hm hc => ?_⟩
  · rintro (⟨rx, n, o, rfl⟩ | ⟨a, o, rfl⟩)
    · exact h1 rx n o rfl
    · exact h2 a o rfl
  · cases c <;> simp_all [writesPins]
  · cases c <;> simp_all [writesPeers]
  · cases c <;> simp_all [writesClip]
  · cases c <;> simp_all [writesSticky]
  · cases c <;> simp_all [writesStation]
  · simpa [channelView] using effect_other hc hm hk

end Sys2Proof.Machine
end

section
/-! PROOFS. The Scene Agreement Unit: what each operation writes in its record, and that the record stays in agreement with itself
(R4, R16, R18, R26, R27, R36). -/

namespace Sys2Proof.Machine

/-! ### What each operation writes in the unit's record -/

@[simp] theorem leaveProvisional_scene (a : AppliedScene) (s : State) :
    (leaveProvisional a s).scene = { s.scene with unit := .agreed, applied := a, joinWindow := none } := by
  simp [leaveProvisional]

@[simp] theorem fetchAfresh_scene (w : Generation) (s : State) :
    (fetchAfresh w s).scene = { s.scene with fetch := some ⟨w, 1, 320⟩ } := by
  simp [fetchAfresh]; rfl

@[simp] theorem enterResync_scene (w : Generation) (s : State) :
    (enterResync w s).scene =
      { s.scene with unit := .resync, pending := emptyRecord, conflict := none, fetch := some ⟨w, 1, 320⟩ } := by
  simp [enterResync]

theorem applyStaged_scene_of_staged {s : State} {sc : Scene} (h : s.scene.staged = some sc) :
    (applyStaged s).scene = { s.scene with applied := asApplied sc, staged := none, conflict := none } := by
  simp [applyStaged, h]

theorem applyStaged_of_not_staged {s : State} (h : s.scene.staged = none) : applyStaged s = s := by
  simp [applyStaged, h]

theorem stagePending_of_held {s : State} {g : Generation} (hg : s.scene.applied.generation = some g)
    (hp : recordHeld s.scene.pending = true) :
    stagePending s = stageScene (stagedFrom s.scene.pending g s.scene.applied.content)
      { s with scene := { s.scene with pending := emptyRecord, conflict := none } } := by
  simp [stagePending, hg, hp]

theorem stagePending_of_not_held {s : State} (hp : recordHeld s.scene.pending = false) : stagePending s = s := by
  unfold stagePending; split
  · rfl
  · simp [hp]

theorem newer_succ (g : Generation) : newer (g + 1) g = true := by
  have : g + 1 - g = 1#16 := by rw [BitVec.add_comm, BitVec.add_sub_cancel]; rfl
  simp only [newer, this]
  decide

theorem recordHeld_empty : recordHeld emptyRecord = false := by decide

/-! ### The unit's record stays in agreement -/

/-- What always holds of the unit's record. -/
def SceneUnit.Coherent (u : SceneUnit) : Prop :=
  u.fetchFits ∧ u.provisionalFits ∧ u.recordsFit ∧ u.stagedNewer ∧ u.digestsTrue

theorem sceneCoherent_iff (s : State) : sceneCoherent s ↔ s.scene.Coherent := Iff.rfl

section
variable {u : SceneUnit} (h : u.Coherent)
include h

/-- A unit that holds a generation is not PROVISIONAL. -/
theorem SceneUnit.Coherent.not_provisional {g : Generation} (hg : u.applied.generation = some g) :
    u.unit ≠ .provisional := fun e => by
  have := h.2.1.1.1 e
  rw [hg] at this; cases this

theorem SceneUnit.Coherent.generation_of_ne (hu : u.unit ≠ .provisional) : ∃ g, u.applied.generation = some g := by
  cases hg : u.applied.generation with
  | none => exact absurd (h.2.1.1.2 hg) hu
  | some g => exact ⟨g, rfl⟩

/-- The apply step (R26). -/
theorem SceneUnit.Coherent.apply {sc : Scene} (hs : u.staged = some sc) :
    ({ u with applied := asApplied sc, staged := none, conflict := none } : SceneUnit).Coherent := by
  obtain ⟨hf, hp, hr, -, hd⟩ := h
  have hu : u.unit ≠ .provisional := fun e => by rw [hp.2 e] at hs; cases hs
  refine ⟨hf, ⟨⟨fun e => absurd e hu, fun e => ?_⟩, fun e => absurd e hu⟩, fun e => ⟨(hr e).1, rfl⟩, fun _ _ e => ?_, ?_,
    fun _ e => ?_⟩
  · simp [asApplied] at e
  · simp at e
  · simpa [asApplied] using hd.2 sc hs
  · simp at e

/-- A scene newer than the applied one is staged over an empty pending record (R27, R41). -/
theorem SceneUnit.Coherent.stage {sc : Scene} {g : Generation} (hg : u.applied.generation = some g)
    (hn : newer sc.generation g = true) (hdig : sc.digest = digestOf sc.content) :
    ({ u with staged := some sc, pending := emptyRecord, conflict := none } : SceneUnit).Coherent := by
  have hu := h.not_provisional hg
  obtain ⟨hf, hp, -, -, hd⟩ := h
  refine ⟨hf, ⟨hp.1, fun e => absurd e hu⟩, fun _ => ⟨rfl, rfl⟩, ?_, hd.1, ?_⟩
  · rintro sc' g' h1 h2
    cases h1
    rw [hg] at h2; cases h2
    exact hn
  · rintro sc' h1
    cases h1; exact hdig

/-- A newer scene received in RESYNC is staged (R37). -/
theorem SceneUnit.Coherent.stageInResync {sc : Scene} {g : Generation} (hu : u.unit = .resync)
    (hg : u.applied.generation = some g) (hn : newer sc.generation g = true) (hdig : sc.digest = digestOf sc.content) :
    ({ u with staged := some sc } : SceneUnit).Coherent := by
  have e := h.stage hg hn hdig
  obtain ⟨hpe, hc⟩ := h.2.2.1 (by simp [hu])
  rwa [← hpe, ← hc] at e

/-- The unit leaves RESYNC (R37, R38, R40). -/
theorem SceneUnit.Coherent.leaveResync (hu : u.unit = .resync) :
    ({ u with unit := .agreed, fetch := none } : SceneUnit).Coherent := by
  obtain ⟨g, hg⟩ := h.generation_of_ne (by simp [hu])
  obtain ⟨-, -, -, hs, hd⟩ := h
  exact ⟨⟨by simp, nofun⟩, ⟨by simp [hg], nofun⟩, fun e => absurd rfl e, hs, hd⟩

/-- The unit enters RESYNC from AGREED (R36). -/
theorem SceneUnit.Coherent.enterResync (hu : u.unit = .agreed) (w : Generation) (k : Nat) :
    ({ u with unit := .resync, pending := emptyRecord, conflict := none, fetch := some ⟨w, 1, k⟩ } : SceneUnit).Coherent := by
  obtain ⟨g, hg⟩ := h.generation_of_ne (by simp [hu])
  obtain ⟨-, -, -, hs, hd⟩ := h
  exact ⟨⟨by simp, by rintro f ⟨⟩; simp⟩, ⟨by simp [hg], nofun⟩, fun _ => ⟨rfl, rfl⟩, hs, hd⟩

/-- Another fetch state in RESYNC, within the count of attempts (R36, R38, R39). -/
theorem SceneUnit.Coherent.refetch (hu : u.unit = .resync) {f : FetchState} (h1 : 1 ≤ f.attempts) (h3 : f.attempts ≤ 3) :
    ({ u with fetch := some f } : SceneUnit).Coherent := by
  obtain ⟨-, hp, hr, hs, hd⟩ := h
  exact ⟨⟨by simp [hu], by rintro f' ⟨⟩; exact ⟨h1, h3⟩⟩, hp, hr, hs, hd⟩

/-- The unit leaves PROVISIONAL with an applied scene (R18, R19, R21). -/
theorem SceneUnit.Coherent.leaveProvisional (hu : u.unit = .provisional) {a : AppliedScene} {g : Generation}
    (hg : a.generation = some g) (hdig : a.digest = digestOf a.content) :
    ({ u with unit := .agreed, applied := a, joinWindow := none } : SceneUnit).Coherent := by
  obtain ⟨hf, hp, -, -, -⟩ := h
  have hfetch : u.fetch = none := by
    have : ¬u.fetch.isSome = true := fun e => by have := hf.1.2 e; simp [hu] at this
    simpa using this
  exact ⟨⟨by simp [hfetch], by simp [hfetch]⟩, ⟨by simp [hg], nofun⟩, fun e => absurd rfl e,
    by simp [SceneUnit.stagedNewer, hp.2 hu], hdig, by simp [hp.2 hu]⟩

/-- Another pending change record or conflict record in AGREED (R12, R35). -/
theorem SceneUnit.Coherent.record (hu : u.unit = .agreed) (p : PendingRecord) (c : Option Generation) :
    ({ u with pending := p, conflict := c } : SceneUnit).Coherent := by
  obtain ⟨hf, hp, -, hs, hd⟩ := h
  exact ⟨hf, hp, fun e => absurd hu e, hs, hd⟩

/-- The join window's timer is free. -/
theorem SceneUnit.Coherent.window (t : Timer) : ({ u with joinWindow := t } : SceneUnit).Coherent := h

theorem SceneUnit.Coherent.tick : u.tick.Coherent := by
  obtain ⟨hf, hp, hr, hs, hd⟩ := h
  refine ⟨⟨by simpa [SceneUnit.tick] using hf.1, ?_⟩, hp, hr, hs, hd⟩
  rintro f he
  obtain ⟨f', hf', rfl⟩ := Option.map_eq_some_iff.1 he
  exact hf.2 f' hf'

end

theorem SceneUnit.Coherent.reset (c : Content) (own : Station) : (SceneUnit.resetWith c own).Coherent := by
  refine ⟨⟨?_, fun _ e => ?_⟩, ⟨?_, fun _ => rfl⟩, fun _ => ⟨rfl, rfl⟩, fun _ _ e => ?_, ?_, fun _ e => ?_⟩
  all_goals first | simp [SceneUnit.resetWith] at e | simp [SceneUnit.resetWith, formApplied]

/-! ### Every operation on the unit keeps the agreement -/

theorem coherent_of_scene_eq {s t : State} (h : sceneCoherent s) (e : t.scene = s.scene) : sceneCoherent t := by
  rw [sceneCoherent_iff, e]; exact h

section
variable {s : State} (h : sceneCoherent s)
include h

theorem applyStaged_coherent : sceneCoherent (applyStaged s) := by
  cases hs : s.scene.staged with
  | none => rwa [applyStaged_of_not_staged hs]
  | some sc =>
    rw [sceneCoherent_iff, applyStaged_scene_of_staged hs]
    exact SceneUnit.Coherent.apply h hs

theorem stagePending_coherent : sceneCoherent (stagePending s) := by
  cases hg : s.scene.applied.generation with
  | none => simpa [stagePending, hg] using h
  | some g =>
    cases hp : recordHeld s.scene.pending with
    | false => rwa [stagePending_of_not_held hp]
    | true =>
      rw [sceneCoherent_iff, stagePending_of_held hg hp]
      exact SceneUnit.Coherent.stage h hg (newer_succ g) rfl

theorem resyncAtMark_coherent : sceneCoherent (resyncAtMark s) := by
  unfold resyncAtMark
  split
  next f g hu hf hg =>
    split
    · exact h
    · exact SceneUnit.Coherent.leaveResync h hu
  · exact h

theorem markEvent_coherent (o : MarkOrder) : sceneCoherent (markEvent o s) := by
  have turn (b : Bool) (f : State → State) (hf : ∀ t, sceneCoherent t → sceneCoherent (f t)) (t : State)
      (ht : sceneCoherent t) : sceneCoherent (inTurn b f t) := by
    unfold inTurn; split
    · exact hf t ht
    · exact ht
  have bank (t : State) (ht : sceneCoherent t) : sceneCoherent (bankMark t) := coherent_of_scene_eq ht (by simp)
  have planner (t : State) (ht : sceneCoherent t) : sceneCoherent (plannerMark t) := coherent_of_scene_eq ht (by simp)
  have own (t : State) (ht : sceneCoherent t) : sceneCoherent (resyncAtMark (stagePending t)) :=
    resyncAtMark_coherent (stagePending_coherent ht)
  exact turn _ _ bank _ (turn _ _ own _ (turn _ _ bank _ (turn _ _ planner _
    (turn _ _ (fun _ ht => applyStaged_coherent ht) _ (turn _ _ planner _ (turn _ _ bank _ h))))))

theorem takeMark_coherent (n : CycleNumber) (o : MarkOrder) : sceneCoherent (takeMark n o s) :=
  markEvent_coherent (coherent_of_scene_eq h (by simp)) o

theorem takeOffer_coherent (n : Station) (o : Offer) : sceneCoherent (takeOffer n o s) := by
  unfold takeOffer
  split
  · split
    · split
      next hu =>
        unfold measureOffer
        repeat' split
        · exact h
        · exact SceneUnit.Coherent.record h hu _ _
        · exact h
        · exact coherent_of_scene_eq h (by simp)
        · rw [sceneCoherent_iff, enterResync_scene]
          exact SceneUnit.Coherent.enterResync h hu _ _
        · exact h
      · exact h
      · exact h
    · exact h
  · exact h

theorem takeScene_coherent (sc : Scene) : sceneCoherent (takeScene sc s) := by
  unfold takeScene
  split
  next hp =>
    have hdig : sc.digest = digestOf sc.content := by
      simp only [Bool.and_eq_true, scenePasses, beq_iff_eq] at hp
      exact hp.2.2
    dsimp only
    have hw : sceneCoherent (withdrawScene sc s) := coherent_of_scene_eq h (by simp)
    split
    next hu =>
      rw [sceneCoherent_iff, leaveProvisional_scene]
      exact SceneUnit.Coherent.leaveProvisional hw hu (g := sc.generation) rfl hdig
    next hu =>
      unfold settleConflict
      split
      next hs =>
        simp only [settles, Bool.and_eq_true, decide_eq_true_eq] at hs
        exact SceneUnit.Coherent.stage hw hs.1.2 (newer_succ _) rfl
      · exact hw
    next hu =>
      unfold resyncStage
      repeat' split
      all_goals first
        | exact hw
        | exact SceneUnit.Coherent.leaveResync hw hu
        | skip
      next _ g hg hn _ _ _ _ =>
        exact SceneUnit.Coherent.leaveResync (SceneUnit.Coherent.stageInResync hw hu hg hn hdig) hu
      next _ g hg hn _ _ =>
        exact SceneUnit.Coherent.leaveResync (SceneUnit.Coherent.stageInResync hw hu hg hn hdig) hu
  · exact h

theorem takeReport_coherent (g : Generation) (d : Digest) : sceneCoherent (takeReport g d s) := by
  unfold takeReport
  split
  · split
    next => exact coherent_of_scene_eq h (by simp)
    next hu =>
      unfold reportInAgreed
      repeat' split
      all_goals first
        | exact h
        | (rw [sceneCoherent_iff, enterResync_scene]; exact SceneUnit.Coherent.enterResync h hu _ _)
        | (simp only [sceneCoherent_iff, queueFetchOnce_keeps]; exact SceneUnit.Coherent.record h hu _ _)
    next hu =>
      unfold reportInResync
      repeat' split
      all_goals first
        | exact h
        | (rw [sceneCoherent_iff, fetchAfresh_scene]
           exact SceneUnit.Coherent.refetch h hu (by simp) (by simp))
  · exact h

theorem takePresence_coherent (n : Station) (f : PresenceFrame) : sceneCoherent (takePresence n f s) := by
  unfold takePresence
  split
  · exact h
  · unfold recordReport
    dsimp only
    split
    · exact h
    · unfold reportGeneration
      split
      · apply takeReport_coherent
        refine coherent_of_scene_eq h ?_
        repeat' split
        all_goals simp
      · refine coherent_of_scene_eq h ?_
        repeat' split
        all_goals simp

theorem joinWindowEnds_coherent : sceneCoherent (joinWindowEnds s) := by
  unfold joinWindowEnds
  split
  next hc =>
    rw [sceneCoherent_iff, leaveProvisional_scene]
    exact SceneUnit.Coherent.leaveProvisional h hc.2.1 (g := 1) rfl rfl
  · exact h

theorem fetchTimerEnds_coherent : sceneCoherent (fetchTimerEnds s) := by
  unfold fetchTimerEnds
  split
  next hc =>
    split
    · exact h
    next f hf =>
      split
      next h3 =>
        simp only [sceneCoherent_iff, queueFetch_keeps]
        exact SceneUnit.Coherent.refetch h hc.2 (by have := h.1.2 f hf; simp) (by simp; omega)
      · exact SceneUnit.Coherent.leaveResync h hc.2
  · exact h

end

/-! ### Start work, and every command -/

@[simp] theorem alertIfNew_keeps (f : StationFault) (b : PerFault Bool) (s : State) :
    (alertIfNew f b s).pins = s.pins ∧ (alertIfNew f b s).loader = s.loader ∧
    (alertIfNew f b s).cycle.number = s.cycle.number ∧ (alertIfNew f b s).peers = s.peers ∧
    (alertIfNew f b s).scene = s.scene ∧ (alertIfNew f b s).speed.source = s.speed.source ∧
    (alertIfNew f b s).speed.state = s.speed.state ∧ (alertIfNew f b s).speed.desired = s.speed.desired ∧
    (alertIfNew f b s).speed.fallTimer = s.speed.fallTimer ∧ (alertIfNew f b s).link.sending = s.link.sending ∧
    (alertIfNew f b s).link.isolated = s.link.isolated ∧
    (alertIfNew f b s).link.isolationTimer = s.link.isolationTimer ∧ (alertIfNew f b s).planner = s.planner ∧
    (alertIfNew f b s).ramps = s.ramps ∧ (alertIfNew f b s).equaliser = s.equaliser ∧
    (alertIfNew f b s).protection = s.protection ∧ (alertIfNew f b s).controller = s.controller ∧
    (alertIfNew f b s).draws = s.draws := by
  unfold alertIfNew; split <;> simp

/-- Start opens the join window of a PROVISIONAL unit (R18). -/
@[simp] theorem startTimers_scene (s : State) :
    (startTimers s).scene =
      if s.scene.unit = .provisional then { s.scene with joinWindow := some 1200 } else s.scene := by
  unfold startTimers; dsimp only
  split
  next h =>
    have hu : s.scene.unit = .provisional := h
    rw [if_pos hu]; rfl
  next h =>
    have hu : s.scene.unit = .agreed := h
    rw [if_neg (by simp [hu])]; rfl
  next h =>
    have hu : s.scene.unit = .resync := h
    rw [if_neg (by simp [hu])]; rfl

@[simp] theorem leaveStarting_scene (d : StationState) (b : PerFault Bool) (s : State) :
    (leaveStarting d b s).scene =
      if d ≠ .unconfigured ∧ s.scene.unit = .provisional then { s.scene with joinWindow := some 1200 } else s.scene := by
  unfold leaveStarting; dsimp only
  by_cases hd : d = .unconfigured
  · simp [hd]
  · by_cases hq : d = .quiet <;> simp [hd, hq]

theorem startComplete_coherent {s : State} (h : sceneCoherent s) (straps : Station) (read : ImageRead) (b : Bool) :
    sceneCoherent (startComplete straps read b s) := by
  have leave (d : StationState) (p : PerFault Bool) (t : State) (ht : sceneCoherent t) :
      sceneCoherent (leaveStarting d p t) := by
    rw [sceneCoherent_iff, leaveStarting_scene]
    split
    · exact SceneUnit.Coherent.window ht _
    · exact ht
  have test (t : State) (ht : sceneCoherent t) : sceneCoherent (selfTested b t) := by
    refine coherent_of_scene_eq ht ?_
    unfold selfTested; repeat' split
    all_goals simp
  refine leave _ _ _ (test _ ?_)
  unfold afterCheck
  split
  · exact coherent_of_scene_eq h (by simp [takeImage])
  all_goals exact SceneUnit.Coherent.reset _ _

theorem receive_coherent {s : State} (h : sceneCoherent s) (rx : Reception) {handle : State → State}
    (handled : ∀ t, sceneCoherent t → sceneCoherent (handle t)) : sceneCoherent (receive rx handle s) :=
  receive_invariant rx handle (coherent_of_scene_eq h (by simp)) (fun _ ht => coherent_of_scene_eq ht (by simp))
    (fun _ ht => coherent_of_scene_eq ht (by simp)) handled

theorem finish_coherent {s : State} (h : sceneCoherent s) : sceneCoherent (finish s) := coherent_of_scene_eq h (by simp)

theorem effect_start_coherent {c : Instr} (hc : isStart c = true) {s : State} (h : sceneCoherent s) :
    sceneCoherent (effect c s) := by
  cases c
  all_goals try cases hc
  case powerOn.refl => exact SceneUnit.Coherent.reset _ _
  case startComplete.refl straps read b =>
    simp only [effect_startComplete]
    split
    · exact finish_coherent (startComplete_coherent h straps read b)
    · exact h
  case restart.refl rx target =>
    refine finish_coherent (receive_coherent (handle := ifAddressed target restartBlocks) h rx fun t ht => ?_)
    unfold ifAddressed; split
    · exact SceneUnit.Coherent.reset _ _
    · exact ht

theorem effect_write_coherent {c : Instr} (hc : writesScene c = true) {s : State} (h : sceneCoherent s) :
    sceneCoherent (effect c s) := by
  cases c
  all_goals try cases hc
  case markReceived.refl rx n o => exact finish_coherent (receive_coherent h rx fun t ht => takeMark_coherent ht n o)
  case offerReceived.refl rx o =>
    exact finish_coherent (receive_coherent h rx fun t ht => coherent_of_scene_eq (takeOffer_coherent ht rx.sender o) (by simp))
  case sceneReceived.refl rx sc => exact finish_coherent (receive_coherent h rx fun t ht => takeScene_coherent ht sc)
  case presenceReceived.refl rx f =>
    exact finish_coherent (receive_coherent h rx fun t ht => takePresence_coherent ht rx.sender f)
  case ownMarkComplete.refl a o =>
    have hd : sceneCoherent (completed a s) := coherent_of_scene_eq h (by simp)
    simp only [effect_ownMarkComplete, unlessOrphan_eq]
    repeat' split
    all_goals first | exact h | exact hd | skip
    refine finish_coherent ?_
    unfold ownMark; split
    · exact hd
    · exact markEvent_coherent (coherent_of_scene_eq hd (by simp)) o
  case ownOfferComplete.refl a =>
    have hd : sceneCoherent (completed a s) := coherent_of_scene_eq h (by simp)
    simp only [effect_ownOfferComplete, unlessOrphan_eq]
    repeat' split
    all_goals first | exact h | exact hd | skip
    next o _ _ =>
      exact finish_coherent (coherent_of_scene_eq (takeOffer_coherent hd (own (completed a s)) o) (by simp))
  case joinWindowExpiry.refl =>
    simp only [effect_joinWindowExpiry]
    split
    · exact finish_coherent (joinWindowEnds_coherent h)
    · exact h
  case fetchTimerExpiry.refl => exact fetchTimerEnds_coherent h

/-- Settles O54: each command writes the unit's record by one of the operations above, or leaves it. -/
theorem sceneUnitStaysCoherent : Obligations.SceneUnitStaysCoherent := by
  intro s t hs
  refine step_invariant (fun _ _ h => h) (fun h => SceneUnit.Coherent.tick h) (fun c rest _ h => ?_) hs
  cases h1 : isStart c with
  | true => exact effect_start_coherent h1 h
  | false =>
    cases h2 : writesScene c with
    | true => exact effect_write_coherent h2 h
    | false => exact coherent_of_scene_eq h (effect_scene h1 h2 _)

end Sys2Proof.Machine
end

section
/-! PROOFS. What every command does to the channels, packaged once: a property of the channel records, the fault records, the handed
targets, the roster, RAIL_HIGH and the station state is kept by every command as soon as the operations below keep it. -/

namespace Sys2Proof.Machine

/-- What the properties of the channels speak of. -/
def channelState (s : State) : PerChannel RampRecord × PerChannel FaultRecord × PerChannel PlannedChannel × Image × Bool ×
    StationState :=
  (s.ramps, s.protection.records, s.planner.channels, s.loader.image, s.protection.active.railHigh, s.controller.station)

/-! ### Properties that a handed target keeps -/

/-- A property of the channels that handing a target keeps (R104). -/
structure HandInvariant (P : State → Prop) : Prop where
  frame : ∀ {s t : State}, channelState t = channelState s → P s → P t
  hand : ∀ (cause : RateClass) {s : State} {d : RosterEntry}, d ∈ s.loader.image.roster → P s → P (handTarget cause s d)

namespace HandInvariant

variable {P : State → Prop} (I : HandInvariant P) {s : State}
include I

theorem handTargets (cause : RateClass) (h : P s) : P (handTargets cause s) := by
  have key : ∀ (l : List RosterEntry) (t : State), (∀ d ∈ l, d ∈ t.loader.image.roster) → P t →
      P (l.foldl (handTarget cause) t) := by
    intro l
    induction l with
    | nil => exact fun t _ ht => ht
    | cons d l ih =>
      intro t hl ht
      refine ih _ (fun e he => ?_) (I.hand cause (hl d List.mem_cons_self) ht)
      simpa using hl e (List.mem_cons_of_mem _ he)
  unfold Machine.handTargets; split
  · exact h
  · exact key _ s (fun _ hd => hd) h

theorem reviewDemand (h : P s) : P (reviewDemand s) := by
  unfold Machine.reviewDemand; dsimp only
  repeat' split
  · exact I.handTargets _ (I.frame (by simp [channelState]) h)
  · exact I.frame (by simp [channelState]) h
  · exact I.frame (by simp [channelState]) h
  · exact h

theorem withDemand {f : State → State} (h : P (f s)) : P (withDemand f s) := by
  unfold Machine.withDemand; dsimp only
  split
  · exact h
  · exact I.reviewDemand h

theorem plannerMark (h : P s) : P (plannerMark s) := by
  unfold Machine.plannerMark; dsimp only
  split
  · exact I.handTargets _ (I.frame (by simp [channelState]) h)
  · exact I.frame (by simp [channelState]) h

theorem duckFlagClear (h : P s) : P (duckFlagClear s) := by
  unfold Machine.duckFlagClear
  split
  · exact h
  · exact I.frame (by simp [channelState]) h
  · exact I.handTargets _ (I.frame (by simp [channelState]) h)

theorem emptyTable (h : P s) : P (emptyTable s) := by
  unfold Machine.emptyTable; dsimp only
  split
  · exact I.reviewDemand (I.frame (by simp [channelState]) h)
  · exact I.frame (by simp [channelState]) h

theorem frameHeard (h : P s) : P (frameHeard s) := by
  unfold Machine.frameHeard; dsimp only
  split
  · apply I.duckFlagClear
    split
    · exact I.emptyTable (I.frame (by simp [channelState]) h)
    · exact I.frame (by simp [channelState]) h
  · exact I.frame (by simp [channelState]) h

theorem goodFrame (h : P s) : P (goodFrame s) := I.frameHeard (I.frame (by simp [channelState]) h)

theorem giveFrame (b : FrameBody) (h : P s) : P (giveFrame b s) := I.frame (by simp [channelState]) h

theorem queueAlert (a : AlertSubject) (x : AlertState) (h : P s) : P (queueAlert a x s) := I.frame (by simp [channelState]) h

theorem unmarkFault {f : StationFault} (hf : f ≠ .railHigh) (h : P s) : P (unmarkFault f s) :=
  I.frame (by cases f <;> first | exact absurd rfl hf | rfl) h

theorem markFault {f : StationFault} (hf : f ≠ .railHigh) (h : P s) : P (markFault f s) :=
  I.frame (by cases f <;> first | exact absurd rfl hf | rfl) h

theorem sceneAppliedNotice (h : P s) : P (sceneAppliedNotice s) := I.handTargets _ (I.frame (by simp [channelState]) h)

theorem announce (h : P s) : P (announce s) := I.frame (by simp [channelState]) h

theorem reportGeneration (r : Report) (h : P s) : P (reportGeneration r s) := I.frame (by simp [channelState]) h

theorem applyStaged (h : P s) : P (applyStaged s) := by
  unfold Machine.applyStaged
  split
  · exact h
  · exact I.announce (I.sceneAppliedNotice (I.frame (by simp [channelState]) h))

theorem markEvent (o : MarkOrder) (h : P s) : P (markEvent o s) := by
  have turn (b : Bool) {f : State → State} (hf : ∀ t, P t → P (f t)) {t : State} (ht : P t) : P (inTurn b f t) := by
    unfold inTurn; split
    · exact hf t ht
    · exact ht
  have bank (t : State) (ht : P t) : P (bankMark t) := I.frame (by simp [channelState]) ht
  have planner (t : State) (ht : P t) : P (Machine.plannerMark t) := I.plannerMark ht
  have stage (t : State) (ht : P t) : P (resyncAtMark (stagePending t)) := I.frame (by simp [channelState]) ht
  exact turn _ bank (turn _ stage (turn _ bank (turn _ planner (turn _ (fun _ ht => I.applyStaged ht) (turn _ planner
    (turn _ bank h))))))

theorem takeMark (n : CycleNumber) (o : MarkOrder) (h : P s) : P (takeMark n o s) :=
  I.markEvent o (I.frame (by simp [channelState]) h)

theorem takePresence (n : Station) (f : PresenceFrame) (h : P s) : P (takePresence n f s) := by
  unfold Machine.takePresence
  split
  · exact h
  · unfold recordReport; dsimp only
    split
    · exact h
    · have asked (t : State) (ht : P t) (b : Bool) : P (if b then askGapReview t else t) := by
        split
        · exact I.frame (by simp [channelState]) ht
        · exact ht
      apply I.reportGeneration
      split
      · exact asked _ (I.frame (by simp [channelState]) h) _
      · exact I.reviewDemand (asked _ (I.frame (by simp [channelState]) h) _)

theorem peerIsLost (n : Station) (r : Report) (age : Nat) (h : P s) : P (peerIsLost n r age s) := by
  unfold Machine.peerIsLost; dsimp only
  split
  · exact I.reviewDemand (I.frame (by simp [channelState]) h)
  · exact I.frame (by simp [channelState]) h

end HandInvariant

/-! ### Properties that the closing of the rail window keeps -/

/-- The fault records where the offset condition of the named channels clears (R146, R153). -/
def clearOffsets (b : Channel → Bool) (s : State) : State :=
  { s with protection := { s.protection with
    records := .of fun n => if b n then (s.protection.records.get n).offsetClears else s.protection.records.get n } }

/-- A property of the channels that the closing of the rail window keeps too (R146). -/
structure WindowInvariant (P : State → Prop) : Prop extends HandInvariant P where
  clearHigh : ∀ {s : State}, P s → P (clearRailFault .railHigh s)
  offsets : ∀ {s : State} (b : Channel → Bool), P s → P (clearOffsets b s)

namespace WindowInvariant

variable {P : State → Prop} (I : WindowInvariant P) {s : State}
include I

theorem clearRailFault (f : StationFault) (h : P s) : P (clearRailFault f s) := by
  by_cases hf : f = .railHigh
  · subst hf; exact I.clearHigh h
  · unfold Machine.clearRailFault; dsimp only
    split
    · have hu := I.withDemand (I.unmarkFault hf h)
      split
      · exact absurd rfl hf
      all_goals exact hu
    · exact h

theorem closeWindow (h : P s) : P (closeWindow s) := by
  refine I.clearRailFault _ (I.clearRailFault _ (I.clearRailFault _ ?_))
  exact I.frame (s := clearOffsets (fun n => (s.protection.conditions.offset.get n).present) s) rfl (I.offsets _ h)

theorem releaseRail (h : P s) : P (releaseRail s) := I.closeWindow (I.frame (s := s) (by simp [channelState]) h)

theorem finish (h : P s) : P (finish s) := by
  refine I.frame (s := takeSilence s) rfl ?_
  rcases takeSilence_cases s with e | ⟨-, -, -, e⟩
  · rwa [e]
  · rw [e]; exact I.releaseRail h

end WindowInvariant

end Sys2Proof.Machine
end

section
/-! PROOFS. The rule of the channel invariants: which operations a property of the channels must be kept by, for every command but
the starts to keep it. -/

namespace Sys2Proof.Machine

/-- RAIL_HIGH becomes active, with its ALERT and its FAULT claims (R149, R156, R160). -/
def raiseHigh (s : State) : State :=
  placeAll .fault .hard (queueAlert (.station .railHigh) .active (withDemand (markFault .railHigh) s))

/-- The RAIL claim is held on every channel. -/
def railClaimed (s : State) : Prop := ∀ n, (s.ramps.get n).claims.rail.isSome = true

/-- A property of the channels that the operations below keep. Every command but the starts then keeps it, as
`ChannelInvariant.effect` has it. -/
structure ChannelInvariant (P : State → Prop) : Prop extends WindowInvariant P where
  /-- The station moves: into READY from READY alone, and out of READY under the RAIL claim (R178). -/
  move : ∀ {s : State} (c : Controller), (c.station = .ready → s.controller.station = .ready) →
    (s.controller.station = .ready → railClaimed s) → P s → P { s with controller := c }
  place : ∀ {s : State} {c : Claim} (k : SilencingKind) (n : Channel), c ≠ .fault → P s → P (placeClaim c k n s)
  remove : ∀ {s : State} {c : Claim} (n : Channel), c ≠ .fault → c ≠ .rail → P s → P (removeClaim c n s)
  ready : ∀ {s : State}, P s → P (enterReady s)
  raise : ∀ {s : State}, s.protection.active.railHigh = false → P s → P (raiseHigh s)
  step : ∀ {s : State} (n : Channel), P s → P (applyRamp n ((s.ramps.get n).step s.loader.image.duckHold) s)
  hold : ∀ {s : State} (n : Channel), P s → P (applyRamp n (s.ramps.get n).holdEnds s)
  overcurrent : ∀ {s : State} (n : Channel), P s → P (takeOvercurrent n s)
  offset : ∀ {s : State} (n : Channel) (v : Int), P s → P (judgeOffset n v s)
  clip : ∀ {s : State} (n : Channel), P s → P (reportClip n s)
  clear : ∀ {s : State} (n : Channel), P s → P (clearChannel n s)
  retry : ∀ {s : State} (n : Channel), (s.protection.records.get n).state = .retryWait → P s →
    P (releaseFaultClaim n (s.setRecord n (s.protection.records.get n).retried))
  budget : ∀ {s : State} (n : Channel), P s →
    P (s.setRecord n { s.protection.records.get n with retriesUsed := 0, budgetTimer := none })
  counts : ∀ {s : State}, P s → P (clearCounts s)

/-! ### Claims on every channel -/

/-- A property that an operation on one channel keeps is kept by the operation on every channel. -/
theorem allChannels_invariant {P : State → Prop} {f : State → Channel → State} (hf : ∀ t n, P t → P (f t n)) {s : State}
    (h : P s) : P (allChannels.foldl f s) := by
  have key : ∀ (l : List Channel) (t : State), P t → P (l.foldl f t) := by
    intro l
    induction l with
    | nil => exact fun _ ht => ht
    | cons n l ih => exact fun t ht => ih _ (hf t n ht)
  exact key _ s h

@[simp] theorem applyRamp_get (n m : Channel) (r : RampResult) (s : State) :
    (applyRamp n r s).ramps.get m = if m = n then r.record else s.ramps.get m := by
  unfold applyRamp; dsimp only
  split <;> simp [PerChannel.get_set]

/-- A claim that was placed is held, and every other claim stays as it was. -/
theorem placeClaim_claimHeld {c : Claim} {k : SilencingKind} {d : Claim} {n m : Channel} {s : State} :
    (((placeClaim c k n s).ramps.get m).claims.get d).isSome =
      (decide (m = n ∧ d = c) || ((s.ramps.get m).claims.get d).isSome) := by
  rw [placeClaim, applyRamp_get]
  by_cases hm : m = n
  · subst hm
    by_cases hd : d = c
    · subst hd; simp [place_holds]
    · simp [hd, place_get_ne _ _ _ _ _ hd]
  · simp [hm]

theorem placeAll_claims (c : Claim) (k : SilencingKind) (s : State) (n : Channel) (d : Claim) :
    (((placeAll c k s).ramps.get n).claims.get d).isSome = (decide (d = c) || ((s.ramps.get n).claims.get d).isSome) := by
  have key : ∀ (l : List Channel) (t : State),
      (((l.foldl (fun s n => placeClaim c k n s) t).ramps.get n).claims.get d).isSome =
        (decide (n ∈ l ∧ d = c) || ((t.ramps.get n).claims.get d).isSome) := by
    intro l
    induction l with
    | nil => simp
    | cons m l ih =>
      intro t
      rw [List.foldl_cons, ih, placeClaim_claimHeld]
      by_cases hn : n ∈ l <;> by_cases hm : n = m <;> by_cases hd : d = c <;> simp [hn, hm, hd]
  rw [placeAll, key]
  simp [mem_allChannels]

theorem leaveReady_railClaimed {k : SilencingKind} {s : State} (h : (leaveReady k s).controller.station = .ready) :
    railClaimed (leaveReady k s) := by
  have hs : s.controller.station = .ready := by simpa using h
  intro n
  have := placeAll_claims .rail k s n .rail
  simpa [leaveReady, hs, ClaimSet.get] using this

/-- A property that a handling keeps is kept by the handling of a CLEAR, addressed to the station or not (R176). -/
theorem ifAddressed_invariant {P : State → Prop} (target : Nat) {f : State → State} (hf : ∀ t, P t → P (f t)) (t : State) (ht : P t) :
    P (ifAddressed target f t) := by
  unfold ifAddressed; split
  · exact hf t ht
  · exact ht

namespace ChannelInvariant

variable {P : State → Prop} (I : ChannelInvariant P) {s : State}
include I

theorem placeAll {c : Claim} (k : SilencingKind) (hc : c ≠ .fault) (h : P s) : P (placeAll c k s) :=
  allChannels_invariant (fun _ n ht => I.place k n hc ht) h

theorem removeAll {c : Claim} (hf : c ≠ .fault) (hr : c ≠ .rail) (h : P s) : P (removeAll c s) :=
  allChannels_invariant (fun _ n ht => I.remove n hf hr ht) h

theorem leaveReady (k : SilencingKind) (h : P s) : P (leaveReady k s) := by
  unfold Machine.leaveReady; split
  · exact I.placeAll k (by simp) h
  · exact h

/-- The station moves to a state other than READY, with the RAIL claim placed where it leaves READY. -/
theorem leave {k : SilencingKind} {c : Controller} (hc : c.station ≠ .ready) (h : P s) :
    P { Machine.leaveReady k s with controller := c } :=
  I.move c (fun h => absurd h hc) leaveReady_railClaimed (I.leaveReady k h)

/-- A station outside READY moves to another such state. -/
theorem moveOutside {c : Controller} (hc : c.station ≠ .ready) (hs : s.controller.station ≠ .ready) (h : P s) :
    P { s with controller := c } :=
  I.move c (fun h => absurd h hc) (fun h => absurd h hs) h

/-! ### The station's changes of state -/

theorem enterStabilising (hs : s.controller.station ≠ .ready) (h : P s) : P (enterStabilising s) :=
  I.moveOutside (s := Machine.unmarkFault .railFail s) (by simp) (by simpa using hs) (I.unmarkFault (by simp) h)

theorem enterRailUp (h : P s) : P (enterRailUp s) := by
  unfold Machine.enterRailUp; dsimp only
  have hw := I.closeWindow (I.leave (k := .hard) (c := { (Machine.leaveReady .hard s).controller with
    station := .railUp, rail := .rising, stabiliseTimer := none, downTimer := none, railRetryTimer := none }) (by simp) h)
  split
  · exact I.enterStabilising (by simp) hw
  · exact I.moveOutside (by simp) (by simp) hw

theorem askShutdown (h : P s) : P (askShutdown s) := by
  unfold Machine.askShutdown
  split
  iterate 4 exact I.closeWindow (I.leave (by simp) h)
  · exact I.placeAll .hard (by simp) h
  all_goals exact h

theorem reportRecovery (h : P s) : P (reportRecovery s) := by
  unfold Machine.reportRecovery; split
  · exact I.enterRailUp h
  · exact h

theorem askRailUp (h : P s) : P (askRailUp s) := by
  unfold Machine.askRailUp; split
  iterate 2 exact I.enterRailUp h
  all_goals exact h

theorem askConflict (h : P s) : P (askConflict s) := by
  have hw := I.closeWindow (I.leave (k := .hard)
    (c := { station := .conflict, rail := .off, railGoodTimer := none, stabiliseTimer := none, downTimer := none,
            railRetryTimer := none, stop := .conflict }) (by simp) (I.placeAll (c := .conflict) .hard (by simp) h))
  unfold Machine.askConflict; split
  iterate 2 exact h
  all_goals exact I.frame (by simp [channelState]) hw

theorem enterResting (hs : s.controller.station ≠ .ready) (h : P s) : P (enterResting s) := by
  unfold Machine.enterResting; dsimp only
  have hm := I.moveOutside (c := { s.controller with station := .resting, rail := .off, stop := .rest }) (by simp) hs h
  split
  · exact I.frame (by simp [channelState]) hm
  · exact I.emptyTable (I.frame (by simp [channelState]) hm)

theorem wake (h : P s) : P (wake s) := by
  unfold Machine.wake
  split
  next hs =>
    have hr : P (Machine.removeAll .rest s) := I.removeAll (by simp) (by simp) h
    have woken : P (if (Machine.removeAll .rest s).protection.active.thermalShut then
        { Machine.removeAll .rest s with controller := { (Machine.removeAll .rest s).controller with station := .shutdown } }
        else Machine.enterRailUp (Machine.removeAll .rest s)) := by
      split
      · exact I.moveOutside (by simp) (by simp [hs]) hr
      · exact I.enterRailUp hr
    exact I.frame (by simp [channelState]) woken
  next => exact h

/-! ### Station faults -/

theorem raiseFault (f : StationFault) (h : P s) : P (raiseFault f s) := by
  unfold Machine.raiseFault
  split
  · exact h
  next ha =>
    by_cases hf : f = .railHigh
    · subst hf; exact I.raise (by simpa [PerFault.get] using ha) h
    · have hq := I.queueAlert (.station f) .active (I.withDemand (I.markFault hf h))
      cases f
      case thermalShut => exact I.askShutdown hq
      case railLow => exact I.askRailUp hq
      case railHigh => exact absurd rfl hf
      case numberConflict => exact I.askConflict hq
      all_goals exact hq

theorem clearThermalFault {f : StationFault} (hf : f ≠ .railHigh) (h : P s) : P (clearThermalFault f s) := by
  unfold Machine.clearThermalFault; dsimp only
  split
  · have hu := I.withDemand (I.unmarkFault hf h)
    split
    · exact I.reportRecovery hu
    all_goals exact hu
  · exact h

theorem reportConflict (h : P s) : P (reportConflict s) := I.raiseFault _ (I.frame (by simp [channelState]) h)

/-! ### The receipt of a frame -/

theorem received (rx : Reception) {handle : State → State} (handled : ∀ t, P t → P (handle t)) (h : P s) :
    P (received rx handle s) :=
  I.finish (receive_invariant rx handle (I.goodFrame h) (fun _ ht => I.reportConflict ht) (fun _ ht => I.wake ht) handled)

theorem receivedUnheard (n : Station) {handle : State → State} (handled : ∀ t, P t → P (handle t)) (h : P s) :
    P (Machine.finish (receiveUnheard n handle s)) :=
  I.finish (receiveUnheard_invariant n handle (I.goodFrame h) (fun _ ht => I.reportConflict ht) handled)

/-- A handling that leaves the channels keeps the property. -/
theorem receivedQuietly (rx : Reception) {handle : State → State} (quiet : ∀ t, channelState (handle t) = channelState t)
    (h : P s) : P (Machine.received rx handle s) :=
  I.received rx (fun t ht => I.frame (quiet t) ht) h

theorem leaveProvisional (a : AppliedScene) (h : P s) : P (leaveProvisional a s) :=
  I.announce (I.removeAll (by simp) (by simp) (I.sceneAppliedNotice (I.frame (by simp [channelState]) h)))

theorem takeScene (sc : Scene) (h : P s) : P (takeScene sc s) := by
  unfold Machine.takeScene; dsimp only
  have hw : P (withdrawScene sc s) := I.frame (by simp [channelState]) h
  split
  · split
    · exact I.leaveProvisional _ hw
    · exact I.frame (by simp [channelState]) hw
    · exact I.frame (by simp [channelState]) hw
  · exact h

theorem clearChannels (b : PerChannel Bool) (h : P s) : P (clearChannels b s) := by
  refine allChannels_invariant (fun t n ht => ?_) h
  split
  · exact I.clear n ht
  · exact ht

theorem handleRest (w : Bool) (h : P s) : P (handleRest w s) := by
  unfold Machine.handleRest Machine.takeRest
  split
  · exact I.frame (by simp [channelState]) h
  · split
    iterate 3 exact I.leave (by simp) (I.placeAll .soft (by simp) h)
    iterate 2
      next hs => exact I.enterResting (by simp [hs]) (I.moveOutside (by simp [hs]) (by simp [hs]) h)
    all_goals exact h

/-! ### The sense scan and the flags -/

theorem turnFault (f : StationFault) (b : Bool) {clear : State → State} (t : ConditionTurn) (hc : ∀ u, P u → P (clear u))
    (h : P s) : P (turnFault f b clear t s) := by
  unfold Machine.turnFault
  split
  · exact h
  · split
    · exact I.raiseFault f h
    · exact h
  · exact hc _ h

theorem judgeTemperature (v : Int) (h : P s) : P (judgeTemperature v s) :=
  I.turnFault _ _ _ (fun _ hu => I.clearThermalFault (by simp) hu)
    (I.turnFault _ _ _ (fun _ hu => I.clearThermalFault (by simp) hu) (I.frame (by simp [channelState]) h))

theorem judgeRail (v : Int) (h : P s) : P (judgeRail v s) :=
  I.turnFault _ _ _ (fun _ hu => I.clearRailFault _ hu) (I.turnFault _ _ _ (fun _ hu => I.clearRailFault _ hu)
    (I.turnFault _ _ _ (fun _ hu => I.clearRailFault _ hu) (I.frame (by simp [channelState]) h)))

theorem judgeSlot (slot : Fin 10) (v : Int) (h : P s) : P (judgeSlot slot v s) := by
  unfold Machine.judgeSlot
  split
  · split
    · exact I.offset _ _ h
    · exact h
  · split
    · split
      · exact I.judgeRail v h
      · exact h
    · split
      · exact I.judgeTemperature v h
      · exact h

theorem takeClip (n : Channel) (h : P s) : P (takeClip n s) := by
  unfold Machine.takeClip
  split
  · unfold limitClip; dsimp only
    have hw : P (Machine.withDemand (fun s => { s with protection := s.protection.clipped }) s) :=
      I.withDemand (I.frame (by simp [channelState]) h)
    split
    · exact I.queueAlert _ _ hw
    · exact hw
  · exact I.clip n h
  · exact h

theorem takeWakeLine (h : P s) : P (takeWakeLine s) := by
  unfold Machine.takeWakeLine
  split
  · exact I.wake h
  · exact I.enterRailUp (I.removeAll (by simp) (by simp) h)
  next hs =>
    have hu := I.unmarkFault (f := .numberConflict) (by simp) (I.removeAll (c := .conflict) (by simp) (by simp) h)
    exact I.frame (by simp [channelState, freshStart]) (I.moveOutside
      (c := { (Machine.removeAll .conflict s).controller with station := .starting }) (by simp) (by simp [hs]) hu)
  all_goals exact h

/-! ### Every command -/

theorem completedFrame {f : SendingFrame} {work : State → State} (hw : ∀ t, P t → P (work t)) (h : P s) :
    P (unlessOrphan f work s) := by
  unfold unlessOrphan; split
  · exact h
  · exact I.finish (hw _ h)

theorem effect {c : Instr} (hs : isStart c = false) (h : P s) : P (effect c s) := by
  cases c
  all_goals try cases hs
  case markReceived.refl rx n o => exact I.received rx (fun _ ht => I.takeMark n o ht) h
  case sceneReceived.refl rx sc => exact I.received rx (fun _ ht => I.takeScene sc ht) h
  case presenceReceived.refl rx f => exact I.received rx (fun _ ht => I.takePresence _ f ht) h
  case clearFaults.refl rx n b => exact I.received rx (ifAddressed_invariant n fun _ ht => I.clearChannels b ht) h
  case clearCounts.refl rx n => exact I.received rx (ifAddressed_invariant n fun _ ht => I.counts ht) h
  case restReceived.refl rx w =>
    exact I.receivedUnheard _ (fun _ ht => I.handleRest w ht) (I.frame (by simp [channelState]) h)
  case malformedFrame.refl n => exact I.receivedUnheard n (fun _ ht => ht) h
  case numberConflict.refl => exact I.receivedUnheard _ (fun _ ht => ht) h
  case ownMarkComplete.refl ack o =>
    rw [effect_ownMarkComplete]
    split
    · split
      · refine I.completedFrame (fun t ht => ?_) (I.frame (by simp [channelState]) h)
        unfold ownMark; split
        · exact ht
        · exact I.markEvent o (I.frame (by simp [channelState]) ht)
      all_goals exact h
    · exact h
  case senseSlot.refl v =>
    rw [effect_senseSlot]
    split
    · exact I.finish (I.judgeSlot _ v (I.frame (by simp [channelState]) h))
    · exact h
  case overcurrentFlag.refl n =>
    rw [effect_overcurrentFlag]
    split
    · exact I.finish (I.overcurrent n h)
    · exact h
  case clipFlag.refl n =>
    rw [effect_clipFlag]
    split
    · exact I.finish (I.takeClip n h)
    · exact h
  case stepTimerExpiry.refl n =>
    rw [effect_stepTimerExpiry]
    split
    · exact I.finish (I.step n h)
    · exact h
  case duckHoldExpiry.refl n =>
    rw [effect_duckHoldExpiry]
    split
    · exact I.finish (I.hold n h)
    · exact h
  case clipFallTimerExpiry.refl =>
    rw [effect_clipFallTimerExpiry]
    split
    · exact I.finish (I.withDemand (I.frame (by simp [channelState]) h))
    · exact h
  case retryTimerExpiry.refl n =>
    rw [effect_retryTimerExpiry]; dsimp only
    split
    next hr => exact I.finish (I.retry n hr.1 h)
    next => exact h
  case budgetTimerExpiry.refl n =>
    rw [effect_budgetTimerExpiry]; dsimp only
    split
    · exact I.budget n h
    · exact h
  case joinWindowExpiry.refl =>
    rw [effect_joinWindowExpiry]
    split
    · refine I.finish ?_
      unfold joinWindowEnds; split
      · exact I.leaveProvisional _ h
      · exact h
    · exact h
  case peerLost.refl n =>
    rw [effect_peerLost]
    split
    · split
      · exact I.finish (I.peerIsLost n _ _ h)
      · exact h
    · exact h
  case duckTimerExpiry.refl =>
    rw [effect_duckTimerExpiry]
    split
    · exact I.finish (I.handTargets _ (I.frame (by simp [channelState]) h))
    · exact h
  case railGoodArrival.refl =>
    rw [effect_railGoodArrival]; dsimp only
    have hp : P { s with pins := { s.pins with railGood := true } } := I.frame (by simp [channelState]) h
    split
    next hr => exact I.finish (I.enterStabilising (by simp [hr.1]) hp)
    next => exact hp
  case railGoodLoss.refl =>
    rw [effect_railGoodLoss]; dsimp only
    split
    · exact I.finish (I.raiseFault _ (I.frame (by simp [channelState]) h))
    · exact I.frame (by simp [channelState]) h
  case railGoodTimerExpiry.refl =>
    rw [effect_railGoodTimerExpiry]
    split
    next hr => exact I.finish (I.raiseFault _ (I.moveOutside (by simp) (by simp [hr.1]) h))
    next => exact h
  case railRetryTimerExpiry.refl =>
    rw [effect_railRetryTimerExpiry]
    split
    · exact I.finish (I.enterRailUp h)
    · exact h
  case stabiliseTimerExpiry.refl =>
    rw [effect_stabiliseTimerExpiry]
    split
    · exact I.finish (I.ready h)
    · exact h
  case downTimerExpiry.refl =>
    rw [effect_downTimerExpiry]
    split
    next hr =>
      exact I.finish (I.enterResting (by simp [hr.1]) (I.moveOutside (by simp [hr.1]) (by simp [hr.1]) h))
    next => exact h
  case wakeLineRise.refl => exact I.finish (I.takeWakeLine (I.frame (by simp [channelState]) h))
  case arbitrationLost.refl =>
    rw [effect_arbitrationLost]
    split
    · exact h
    · exact I.completedFrame (fun t ht => I.frame (by simp [channelState]) ht) (I.frame (by simp [channelState]) h)
  case ownOfferComplete.refl ack =>
    rw [effect_ownOfferComplete]
    split
    · split
      case h_1 => exact I.completedFrame (fun t ht => I.frame (by simp [channelState]) ht) (I.frame (by simp [channelState]) h)
      all_goals exact h
    · exact h
  case ownPresenceComplete.refl ack =>
    rw [effect_ownPresenceComplete]
    split
    · split
      case h_1 => exact I.completedFrame (fun t ht => I.frame (by simp [channelState]) ht) (I.frame (by simp [channelState]) h)
      all_goals exact h
    · exact h
  case lineTimeOut.refl => exact I.frame (lineTimeOut_field channelState (by simp [channelState]) s) (I.frame (by simp [channelState]) h)
  case clearSticky.refl rx n kinds =>
    exact I.received rx (ifAddressed_invariant n fun _ ht => I.frame (by simp [channelState]) ht) h
  case alertReceived.refl rx => exact I.receivedQuietly rx (by simp [channelState]) h
  case offerReceived.refl rx o => exact I.receivedQuietly rx (by simp [channelState]) h
  case speedReceived.refl rx v b => exact I.receivedQuietly _ (by simp [channelState]) h
  case fetchReceived.refl rx g => exact I.receivedQuietly rx (by simp [channelState]) h
  case answerReceived.refl rx => exact I.receivedQuietly rx (by simp [channelState]) h
  case probeStation.refl rx p w =>
    exact I.receivedQuietly rx (fun _ => by simp [channelState]) (I.frame (by simp [channelState]) h)
  case probeSceneApplied.refl | probeSceneStaged.refl | probePending.refl | probePeer.refl | probeChannel.refl
    | probeLinkCounts.refl | probeSpeed.refl | probeConfig.refl | probeUnknownItem.refl =>
    exact I.receivedQuietly _ (fun _ => by simp [channelState]) h
  all_goals refine I.frame ?_ h
  all_goals simp [channelState]
  all_goals repeat' split
  all_goals simp

end ChannelInvariant

end Sys2Proof.Machine
end

section
/-! PROOFS. Invariants of the channels that the starts keep too, and the invariants that speak of the ramps, the handed targets and the
station state alone. -/

namespace Sys2Proof.Machine

/-! ### The starts -/

/-- Every channel, its fault record and its handed target as after power-on. -/
def channelsReset (s : State) : Prop :=
  s.ramps = .all .reset ∧ s.planner.channels = Planner.reset.channels ∧ s.protection.records = .all .reset ∧
    s.protection.active.railHigh = false ∧ s.controller.station = .starting

/-- A channel invariant that the starts keep too. -/
structure StartInvariant (P : State → Prop) : Prop extends ChannelInvariant P where
  load : ∀ {s : State} (straps : Station) (read : ImageRead) (checked : Option Image), P s → P (takeImage straps read checked s)
  fresh : ∀ {s : State}, channelsReset s → P s

/-- The station leaves STARTING for one of three states. -/
theorem destination_cases (checked fresh shut : Bool) :
    destination checked fresh shut = .shutdown ∨ destination checked fresh shut = .quiet ∨
      destination checked fresh shut = .unconfigured := by
  cases checked <;> cases fresh <;> cases shut <;> decide

theorem destination_ne_ready (checked fresh shut : Bool) : destination checked fresh shut ≠ .ready := by
  rcases destination_cases checked fresh shut with h | h | h <;> simp [h]

@[simp] theorem afterCheck_controller (straps : Station) (read : ImageRead) (checked : Option Image) (s : State) :
    (afterCheck straps read checked s).controller = s.controller := by
  unfold afterCheck; split
  · unfold withDemand; dsimp only; split <;> simp [takeImage]
  all_goals simp [configBad, freshStartFailed, firstStart, takeImage]

@[simp] theorem selfTested_controller (b : Bool) (s : State) : (selfTested b s).controller = s.controller := by
  unfold selfTested; repeat' split
  all_goals simp

namespace StartInvariant

variable {P : State → Prop} (I : StartInvariant P) {s : State}
include I

theorem afterCheck (straps : Station) (read : ImageRead) (checked : Option Image) (hs : s.controller.station = .starting)
    (h : P s) : P (afterCheck straps read checked s) := by
  have hl := I.load straps read checked h
  unfold Machine.afterCheck; split
  · exact I.withDemand hl
  · exact I.fresh (by simp [channelsReset, configBad, freshStartFailed, takeImage, hs, markFault, PerFault.set, Protection.reset,
      Planner.reset, PerFault.all])
  · exact I.frame (by simp [channelState, firstStart]) hl
  · exact I.frame (by simp [channelState, configBad, firstStart, markFault, PerFault.set]) hl

theorem selfTested (b : Bool) (h : P s) : P (selfTested b s) := by
  unfold Machine.selfTested
  refine I.frame ?_ h
  repeat' split
  all_goals simp [channelState, markFault, PerFault.set]

theorem leaveStarting (d : StationState) (before : PerFault Bool) (hd : d ≠ .ready) (hs : s.controller.station = .starting)
    (h : P s) : P (leaveStarting d before s) := by
  have alert (f : StationFault) {t : State} (ht : P t) : P (alertIfNew f before t) := by
    unfold alertIfNew; split
    · exact I.queueAlert _ _ ht
    · exact ht
  have moved := I.moveOutside (c := { s.controller with station := d }) hd (by simp [hs]) h
  have timed (t : State) : channelState (startTimers t) = channelState t := by
    unfold startTimers; dsimp only; split <;> simp [channelState]
  have started : P (if d = .unconfigured then
      { s with
        controller := { s.controller with station := d }
        loader := { s.loader with freshStart := false }
        protection := { s.protection with scan := some 0 } }
      else startTimers
      { s with
        controller := { s.controller with station := d }
        loader := { s.loader with freshStart := false }
        protection := { s.protection with scan := some 0 } }) := by
    split
    · exact I.frame (by simp [channelState]) moved
    · exact I.frame (timed _) (I.frame (by simp [channelState]) moved)
  have first {t : State} (ht : P t) : P (startFirstPresence t) := I.frame (by simp [channelState]) ht
  unfold Machine.leaveStarting; dsimp only
  split
  · exact I.enterRailUp (first (alert _ (alert _ started)))
  · exact first (alert _ (alert _ started))

theorem startComplete (straps : Station) (read : ImageRead) (b : Bool) (hs : s.controller.station = .starting) (h : P s) :
    P (startComplete straps read b s) :=
  I.leaveStarting _ _ (destination_ne_ready _ _ _) (by simp [hs]) (I.selfTested b (I.afterCheck _ _ _ hs h))

theorem effect (c : Instr) (h : P s) : P (effect c s) := by
  cases hc : isStart c
  case false => exact I.toChannelInvariant.effect hc h
  case true =>
    cases c
    all_goals try cases hc
    case powerOn.refl => exact I.fresh ⟨rfl, rfl, rfl, rfl, rfl⟩
    case startComplete.refl straps read b =>
      rw [effect_startComplete]
      split
      next hs => exact I.finish (I.startComplete straps read b hs h)
      next => exact h
    case restart.refl rx n =>
      exact I.received rx (ifAddressed_invariant n fun _ _ => I.fresh ⟨rfl, rfl, rfl, rfl, rfl⟩) h

/-- The invariant is kept by every step. -/
theorem afterStep {t : State} (time : P s → P (timePasses s)) (h : P s) (ht : Machine.step s = .next t) : P t :=
  step_invariant (fun _ _ hp => I.frame (by simp [channelState]) hp) time (fun c _ _ hp => I.effect c hp) h ht

end StartInvariant

/-! ### Invariants of the ramps -/

/-- What the invariants of the ramps speak of. -/
def rampState (s : State) : PerChannel RampRecord × PerChannel PlannedChannel × Image × StationState :=
  (s.ramps, s.planner.channels, s.loader.image, s.controller.station)

/-- A property of the ramps, the handed targets, the image and the station state that the operations on a channel record keep. -/
structure RampInvariant (P : State → Prop) : Prop where
  frame : ∀ {s t : State}, rampState t = rampState s → P s → P t
  hand : ∀ (cause : RateClass) {s : State} {d : RosterEntry}, d ∈ s.loader.image.roster → P s → P (handTarget cause s d)
  place : ∀ {s : State} (c : Claim) (k : SilencingKind) (n : Channel), P s → P (placeClaim c k n s)
  remove : ∀ {s : State} {c : Claim} (n : Channel), c ≠ .rail → P s → P (removeClaim c n s)
  step : ∀ {s : State} (n : Channel), P s → P (applyRamp n ((s.ramps.get n).step s.loader.image.duckHold) s)
  hold : ∀ {s : State} (n : Channel), P s → P (applyRamp n (s.ramps.get n).holdEnds s)
  move : ∀ {s : State} (c : Controller), (c.station = .ready → s.controller.station = .ready) →
    (s.controller.station = .ready → railClaimed s) → P s → P { s with controller := c }
  ready : ∀ {s : State}, P s → P (enterReady s)

namespace RampInvariant

variable {P : State → Prop} (I : RampInvariant P) {s : State}
include I

theorem toHandInvariant : HandInvariant P where
  frame hst h := I.frame (by simp only [channelState, Prod.mk.injEq] at hst; simp [rampState, hst]) h
  hand := I.hand

theorem releaseFaultClaim (n : Channel) (h : P s) : P (releaseFaultClaim n s) := by
  unfold Machine.releaseFaultClaim; split
  · exact h
  · exact I.remove n (by simp) h

theorem clearHigh (h : P s) : P (clearRailFault .railHigh s) := by
  unfold clearRailFault; dsimp only
  split
  · exact allChannels_invariant (fun _ n ht => I.releaseFaultClaim n ht)
      (I.toHandInvariant.withDemand (I.frame (by simp [rampState]) h))
  · exact h

theorem silenceChannel (f : ChannelFault) (k : SilencingKind) (r : RecordState) (n : Channel) (h : P s) :
    P (silenceChannel f k r n s) :=
  I.place _ _ _ (I.frame (by simp [rampState]) h)

theorem takeOvercurrent (n : Channel) (h : P s) : P (takeOvercurrent n s) := by
  have hr : P (s.setRecord n (s.protection.records.get n).overloaded) := I.frame (by simp [rampState]) h
  have struck : P (overcurrentStrikes n (s.setRecord n (s.protection.records.get n).overloaded)) := by
    unfold overcurrentStrikes; dsimp only
    split
    · exact I.frame (by simp [rampState]) hr
    · exact I.silenceChannel _ _ _ _ hr
    · exact I.silenceChannel _ _ _ _ hr
    · exact hr
  unfold Machine.takeOvercurrent; dsimp only
  split
  iterate 2 exact struck
  all_goals exact hr

theorem latchOffset (k : SilencingKind) (n : Channel) (h : P s) : P (latchOffset k n s) := by
  unfold Machine.latchOffset
  split
  iterate 2 exact I.silenceChannel _ _ _ _ h
  · unfold offsetOnDip; dsimp only
    refine I.place _ _ _ ?_
    split
    all_goals exact I.frame (by simp [rampState]) h
  · exact I.place _ _ _ (I.frame (by simp [rampState]) h)
  · exact h

theorem judgeOffset (n : Channel) (v : Int) (h : P s) : P (judgeOffset n v s) := by
  have recognised {t : State} (ht : P t) : P (offsetRecognised n t) := by
    unfold offsetRecognised; dsimp only
    split
    · exact I.latchOffset _ _ (I.frame (by simp [rampState]) ht)
    · exact I.frame (by simp [rampState]) ht
    · exact ht
  unfold Machine.judgeOffset; dsimp only
  split
  · exact I.frame (by simp [rampState]) h
  · exact recognised (I.frame (by simp [rampState]) h)
  · exact I.frame (by simp [rampState]) h

theorem clearChannel (n : Channel) (h : P s) : P (clearChannel n s) := by
  unfold Machine.clearChannel; dsimp only
  split
  · exact I.releaseFaultClaim n (I.frame (by simp [rampState]) h)
  · exact h

theorem placeAll (c : Claim) (k : SilencingKind) (h : P s) : P (placeAll c k s) :=
  allChannels_invariant (fun _ n ht => I.place c k n ht) h

theorem raiseHigh (h : P s) : P (raiseHigh s) := by
  have hm : P (markFault .railHigh s) := I.frame (by simp [rampState]) h
  exact I.placeAll _ _ (I.toHandInvariant.queueAlert _ _ (I.toHandInvariant.withDemand (f := markFault .railHigh) hm))

theorem toChannelInvariant : ChannelInvariant P where
  toHandInvariant := I.toHandInvariant
  clearHigh := I.clearHigh
  offsets _ h := I.frame (by simp [rampState, clearOffsets]) h
  move := I.move
  place k n _ h := I.place _ k n h
  remove n _ hr h := I.remove n hr h
  ready := I.ready
  raise _ h := I.raiseHigh h
  step := I.step
  hold := I.hold
  overcurrent := I.takeOvercurrent
  offset := I.judgeOffset
  clip n h := I.frame (by simp [rampState]) h
  clear := I.clearChannel
  retry n _ h := I.releaseFaultClaim n (I.frame (s := _) (by simp [rampState]) h)
  budget n h := I.frame (by simp [rampState]) h
  counts h := I.frame (by simp [rampState, clearCounts]) h

end RampInvariant

end Sys2Proof.Machine
end

section
/-! PROOFS. The channels are held as their claims say: O52. -/

namespace Sys2Proof.Machine

/-! ### A property of every channel record -/

section
variable {Q : RampRecord → Prop} {s : State}

theorem applyRamp_forall {n : Channel} {r : RampResult} (hr : Q r.record) (h : ∀ m, Q (s.ramps.get m)) :
    ∀ m, Q ((applyRamp n r s).ramps.get m) := by
  intro m
  rw [applyRamp_get]; split
  · exact hr
  · exact h m

theorem removeClaim_get (c : Claim) (n m : Channel) (s : State) :
    (removeClaim c n s).ramps.get m = if m = n then (s.ramps.get n).remove c else s.ramps.get m :=
  PerChannel.get_set _ _ _ _

theorem removeClaim_forall {c : Claim} {n : Channel} (hr : Q ((s.ramps.get n).remove c)) (h : ∀ m, Q (s.ramps.get m)) :
    ∀ m, Q ((removeClaim c n s).ramps.get m) := by
  intro m
  rw [removeClaim_get]; split
  · exact hr
  · exact h m

theorem handTarget_forall (cause : RateClass) (d : RosterEntry)
    (take : ∀ hold t cls r, Q r → Q (RampRecord.take hold t cls r).record) (h : ∀ m, Q (s.ramps.get m)) :
    ∀ m, Q ((handTarget cause s d).ramps.get m) := by
  unfold handTarget; dsimp only; split
  · exact h
  · exact applyRamp_forall (take _ _ _ _ (h _)) h

end

/-! ### The channel records stay coherent -/

theorem removeAll_coherent (c : Claim) {s : State} (h : rampsCoherent s) : rampsCoherent (removeAll c s) :=
  allChannels_invariant (P := rampsCoherent)
    (fun _ n ht => removeClaim_forall (Q := RampRecord.coherent) (remove_coherent c (ht n)) ht) h

theorem rampsCoherent_rampInvariant : RampInvariant rampsCoherent where
  frame hst h := by
    have hr := congrArg (fun x => x.1) hst
    simp only [rampState] at hr
    intro n; rw [hr]; exact h n
  hand cause _ d _ h := handTarget_forall cause d (fun hold t cls _ hr => take_coherent hold t cls hr) h
  place c k n h := applyRamp_forall (place_coherent _ c k (h n)) h
  remove n _ h := removeClaim_forall (remove_coherent _ (h n)) h
  step n h := applyRamp_forall (step_coherent _ (h n)) h
  hold n h := applyRamp_forall (holdEnds_coherent (h n)) h
  move _ _ _ h := h
  ready h := removeAll_coherent .rail h

theorem reset_coherent : RampRecord.reset.coherent := by decide

theorem rampsCoherent_startInvariant : StartInvariant rampsCoherent where
  toChannelInvariant := rampsCoherent_rampInvariant.toChannelInvariant
  load _ _ _ h := h
  fresh h n := by rw [h.1, PerChannel.get_all]; exact reset_coherent

theorem timePasses_ramps (s : State) (n : Channel) : (timePasses s).ramps.get n = (s.ramps.get n).tick := by
  simp [timePasses]

theorem rampsCoherent_timePasses {s : State} (h : rampsCoherent s) : rampsCoherent (timePasses s) := by
  intro n; rw [timePasses_ramps]; exact h n

/-! ### The RAIL claim is held outside READY -/

theorem railClaimed_frame {s t : State} (h : t.ramps = s.ramps) (hs : railClaimed s) : railClaimed t := by
  intro n; rw [h]; exact hs n

theorem handTarget_railClaimed (cause : RateClass) (d : RosterEntry) {s : State} (h : railClaimed s) :
    railClaimed (handTarget cause s d) :=
  handTarget_forall (Q := fun r => r.claims.rail.isSome = true) cause d
    (fun hold t cls r hr => by rw [take_claims]; exact hr) h

theorem placeClaim_railClaimed (c : Claim) (k : SilencingKind) (n : Channel) {s : State} (h : railClaimed s) :
    railClaimed (placeClaim c k n s) := by
  intro m
  have := placeClaim_claimHeld (c := c) (k := k) (d := .rail) (n := n) (m := m) (s := s)
  simp only [ClaimSet.get] at this
  rw [this, h m, Bool.or_true]

theorem removeClaim_railClaimed {c : Claim} (n : Channel) (hc : c ≠ .rail) {s : State} (h : railClaimed s) :
    railClaimed (removeClaim c n s) :=
  removeClaim_forall (Q := fun r => r.claims.rail.isSome = true)
    (by have := remove_get c .rail (s.ramps.get n)
        simp only [ClaimSet.get, if_neg (Ne.symm hc)] at this
        rw [this]; exact h n) h

theorem railHeld_rampInvariant : RampInvariant railHeld where
  frame hst h hs := by
    simp only [rampState, Prod.mk.injEq] at hst
    exact railClaimed_frame hst.1 (h (by rwa [← hst.2.2.2]))
  hand cause _ d _ h hs := handTarget_railClaimed cause d (h (by simpa using hs))
  place c k n h hs := placeClaim_railClaimed c k n (h (by simpa using hs))
  remove n hc h hs := removeClaim_railClaimed n hc (h (by simpa using hs))
  step n h hs := applyRamp_forall (Q := fun r => r.claims.rail.isSome = true)
    (by rw [step_claims]; exact h (by simpa using hs) n) (h (by simpa using hs))
  hold n h hs := applyRamp_forall (Q := fun r => r.claims.rail.isSome = true)
    (by rw [holdEnds_claims]; exact h (by simpa using hs) n) (h (by simpa using hs))
  move {s} c _ hs h _ := by
    by_cases hr : s.controller.station = .ready
    · exact hs hr
    · exact h hr
  ready _ hs := absurd (by simp [enterReady]) hs

theorem railHeld_startInvariant : StartInvariant railHeld where
  toChannelInvariant := railHeld_rampInvariant.toChannelInvariant
  load _ _ _ h := h
  fresh h _ n := by rw [h.1, PerChannel.get_all]; rfl

theorem railHeld_timePasses {s : State} (h : railHeld s) : railHeld (timePasses s) := by
  intro hs n
  rw [timePasses_ramps]
  exact h hs n

/-! ### The rail in RAIL_DOWN -/

theorem railDownSounds_frame {s t : State} (hr : t.ramps = s.ramps) (hc : t.controller = s.controller)
    (hi : t.loader.image = s.loader.image) (h : railDownSounds s) : railDownSounds t := by
  simpa only [railDownSounds, railEnable, allSilent, hr, hc, hi] using h

/-- What follows a command releases a rail that nothing sounds on (R126, R183). -/
theorem finish_railDownSounds (s : State) : railDownSounds (finish s) := by
  refine railDownSounds_frame (s := takeSilence s) rfl rfl rfl ?_
  unfold takeSilence; split
  · intro _ he
    simp [railEnable, releaseRail] at he
  next hn =>
    intro hs he
    by_contra hall
    exact hn ⟨hs, he, by simpa using hall⟩

theorem effect_railDownSounds (c : Instr) {s : State} (h : railDownSounds s) : railDownSounds (effect c s) := by
  have ended {f : SendingFrame} {work : State → State} {t : State} (ht : railDownSounds t) :
      railDownSounds (unlessOrphan f work t) := by
    unfold unlessOrphan; split
    · exact ht
    · exact finish_railDownSounds _
  cases c
  case powerOn => intro hs; exact absurd hs (by simp [State.powerOnBlocks, Controller.resetWith])
  case lineTimeOut =>
    exact railDownSounds_frame (lineTimeOut_field (fun t => t.ramps) (by simp) s)
      (lineTimeOut_field (fun t => t.controller) (by simp) s) (lineTimeOut_field (fun t => t.loader.image) (by simp) s) h
  case arbitrationLost =>
    rw [effect_arbitrationLost]; split
    · exact h
    · exact ended h
  case ownMarkComplete =>
    rw [effect_ownMarkComplete]; repeat' split
    case h_1 => exact ended h
    all_goals exact h
  case ownOfferComplete =>
    rw [effect_ownOfferComplete]; repeat' split
    case h_1 => exact ended h
    all_goals exact h
  case ownPresenceComplete =>
    rw [effect_ownPresenceComplete]; repeat' split
    case h_1 => exact ended h
    all_goals exact h
  case checkError | frameStart | ownFrameComplete | cycleTimerExpiry | presenceTimerExpiry | fetchTimerExpiry | peerSilent
    | speedStale | fallTimerExpiry | offerSpacingExpiry | settleTimerExpiry | isolationTimerExpiry | preparationTimerExpiry
    | riseGuardExpiry | budgetTimerExpiry =>
    refine railDownSounds_frame ?_ ?_ ?_ h
    all_goals simp
    all_goals repeat' split
    all_goals simp
  case railGoodArrival | railGoodLoss =>
    simp only [effect_railGoodArrival, effect_railGoodLoss]; split
    · exact finish_railDownSounds _
    · exact h
  case startComplete | senseSlot | overcurrentFlag | clipFlag | joinWindowExpiry | duckTimerExpiry | stepTimerExpiry
    | duckHoldExpiry | clipFallTimerExpiry | retryTimerExpiry | railGoodTimerExpiry | railRetryTimerExpiry
    | stabiliseTimerExpiry | downTimerExpiry =>
    simp only [effect_startComplete, effect_senseSlot, effect_overcurrentFlag, effect_clipFlag, effect_joinWindowExpiry,
      effect_duckTimerExpiry, effect_stepTimerExpiry, effect_duckHoldExpiry, effect_clipFallTimerExpiry,
      effect_retryTimerExpiry, effect_railGoodTimerExpiry, effect_railRetryTimerExpiry, effect_stabiliseTimerExpiry,
      effect_downTimerExpiry]
    split
    · exact finish_railDownSounds _
    · exact h
  case peerLost =>
    rw [effect_peerLost]; repeat' split
    · exact finish_railDownSounds _
    all_goals exact h
  all_goals exact finish_railDownSounds _

/-- Settles O52. -/
theorem channelsHeldOutsideReady : Obligations.ChannelsHeldOutsideReady := by
  intro s t hc hr hst
  refine ⟨rampsCoherent_startInvariant.afterStep rampsCoherent_timePasses hc hst,
    railHeld_startInvariant.afterStep railHeld_timePasses hr hst, fun hd => ?_⟩
  refine step_invariant (P := railDownSounds) (fun _ _ hp => hp) (fun hp => ?_) (fun c _ _ hp => effect_railDownSounds c hp)
    hd hst
  intro hs he
  have := hp hs he
  simpa [allSilent, timePasses, RampRecord.tick] using this

end Sys2Proof.Machine
end

section
/-! PROOFS. The FAULT claim is held exactly while one of its reasons holds: O53. -/

namespace Sys2Proof.Machine

/-- The FAULT claim of channel `n` is held exactly while its record is a reason or `high` holds. -/
def faultHeldAt (high : Bool) (s : State) (n : Channel) : Prop :=
  (s.ramps.get n).claims.fault.isSome = (channelReason (s.protection.records.get n) || high)

/-- The FAULT claims are held as the channel reasons have it, with `high` in the place of RAIL_HIGH. -/
def faultHeldUnder (high : Bool) (s : State) : Prop := ∀ n, faultHeldAt high s n

theorem faultHeldUnder_iff {s : State} : faultHeldUnder s.protection.active.railHigh s ↔ faultHeld s := Iff.rfl

theorem faultHeldUnder_frame {b : Bool} {s t : State} (hr : t.ramps = s.ramps) (hp : t.protection.records = s.protection.records)
    (h : faultHeldUnder b s) : faultHeldUnder b t := by
  intro n; unfold faultHeldAt; rw [hr, hp]; exact h n

/-! ### What changes no reason and no claim -/

@[simp] theorem channelReason_silenced (m : OvercurrentMode) (r : FaultRecord) :
    channelReason (r.silenced m) = channelReason r := by
  obtain ⟨state, last, occ, used, retry, budget⟩ := r
  cases state <;> simp only [FaultRecord.silenced] <;> split <;> rfl

@[simp] theorem channelReason_offsetClears (r : FaultRecord) : channelReason r.offsetClears = channelReason r := by
  unfold FaultRecord.offsetClears; split
  next h => simp [channelReason, h.1]
  next => rfl

theorem applyRamp_records (n m : Channel) (r : RampResult) (s : State) :
    (applyRamp n r s).protection.records.get m =
      if m = n ∧ r.notice = true then (s.protection.records.get n).silenced s.loader.image.protection.overcurrentMode
      else s.protection.records.get m := by
  unfold applyRamp; dsimp only; split
  next h => simp [channelSilenced, State.setRecord, PerChannel.get_set, h]
  next h => simp [h]

/-- A ramp operation that leaves the FAULT claim of its channel leaves every channel as its reasons have it. -/
theorem applyRamp_faultHeldUnder {b : Bool} {n : Channel} {r : RampResult} {s : State}
    (hr : r.record.claims.fault = (s.ramps.get n).claims.fault) (h : faultHeldUnder b s) : faultHeldUnder b (applyRamp n r s) := by
  have reason (m : Channel) : channelReason ((applyRamp n r s).protection.records.get m) =
      channelReason (s.protection.records.get m) := by
    rw [applyRamp_records]; split
    next hm => rw [channelReason_silenced, hm.1]
    next => rfl
  intro m
  unfold faultHeldAt
  rw [reason, applyRamp_get, ← h m]
  split
  next hm => rw [hr, hm]
  next => rfl

theorem handTarget_faultHeldUnder {b : Bool} (cause : RateClass) (d : RosterEntry) {s : State} (h : faultHeldUnder b s) :
    faultHeldUnder b (handTarget cause s d) := by
  unfold handTarget; dsimp only; split
  · exact h
  · exact applyRamp_faultHeldUnder (by rw [take_claims]; simp) h

theorem handInvariant_faultHeldUnder (b : Bool) : HandInvariant (faultHeldUnder b) where
  frame hst h := by
    simp only [channelState, Prod.mk.injEq] at hst
    exact faultHeldUnder_frame hst.1 hst.2.1 h
  hand cause _ d _ h := handTarget_faultHeldUnder cause d h

theorem placeClaim_faultHeldUnder {b : Bool} {c : Claim} (k : SilencingKind) (n : Channel) (hc : c ≠ .fault) {s : State}
    (h : faultHeldUnder b s) : faultHeldUnder b (placeClaim c k n s) :=
  applyRamp_faultHeldUnder (by have := place_get_ne s.loader.image.duckHold c .fault k (s.ramps.get n) (Ne.symm hc)
                               simpa only [ClaimSet.get] using this) h

theorem removeClaim_faultHeldUnder {b : Bool} {c : Claim} (n : Channel) (hc : c ≠ .fault) {s : State}
    (h : faultHeldUnder b s) : faultHeldUnder b (removeClaim c n s) := by
  have kept : ((s.ramps.get n).remove c).claims.fault = (s.ramps.get n).claims.fault := by
    have := remove_get c .fault (s.ramps.get n)
    simpa only [ClaimSet.get, if_neg (Ne.symm hc)] using this
  intro m
  unfold faultHeldAt
  rw [removeClaim_get, show (removeClaim c n s).protection = s.protection from rfl,
    ← (h m : (s.ramps.get m).claims.fault.isSome = _)]
  split
  next hm => rw [kept, hm]
  next => rfl

/-! ### The FAULT claim placed and removed -/

/-- A FAULT claim placed on a channel whose record is a reason. -/
theorem placeFault_faultHeldUnder {b : Bool} (k : SilencingKind) {n : Channel} {s : State}
    (hn : channelReason (s.protection.records.get n) = true) (h : ∀ m, m ≠ n → faultHeldAt b s m) :
    faultHeldUnder b (placeClaim .fault k n s) := by
  intro m
  have claim := placeClaim_claimHeld (c := .fault) (k := k) (d := .fault) (n := n) (m := m) (s := s)
  simp only [ClaimSet.get, and_true] at claim
  unfold faultHeldAt
  rw [claim]
  by_cases hm : m = n
  · subst hm
    simp [placeClaim, applyRamp_records, apply_ite channelReason, hn]
  · simpa [placeClaim, applyRamp_records, hm, faultHeldAt] using h m hm

/-- Of the reasons of a channel one goes: the claim goes with the last of them (R149). -/
theorem releaseFaultClaim_self {n : Channel} {s : State}
    (h : (s.ramps.get n).claims.fault.isSome = true ∨ faultHeldAt s.protection.active.railHigh s n) :
    faultHeldAt s.protection.active.railHigh (releaseFaultClaim n s) n := by
  unfold releaseFaultClaim
  split
  next hr =>
    rcases h with h | h
    · exact h.trans hr.symm
    · exact h
  next hr =>
    have gone := remove_get .fault .fault (s.ramps.get n)
    simp only [ClaimSet.get, if_true] at gone
    simpa [faultHeldAt, removeClaim_get, gone] using hr

theorem releaseFaultClaim_at_other {b : Bool} {n m : Channel} (hm : m ≠ n) {s : State} (h : faultHeldAt b s m) :
    faultHeldAt b (releaseFaultClaim n s) m := by
  unfold releaseFaultClaim; split
  · exact h
  · simpa [faultHeldAt, PerChannel.get_set, hm] using h

/-- Claims that stand in excess on the listed channels are gone after their release (R149). -/
theorem releaseEach_faultHeldUnder (l : List Channel) {s : State} (ha : s.protection.active.railHigh = false)
    (h : ∀ n, faultHeldAt false s n ∨ (n ∈ l ∧ (s.ramps.get n).claims.fault.isSome = true)) :
    faultHeldUnder false (l.foldl (fun s n => releaseFaultClaim n s) s) := by
  induction l generalizing s with
  | nil => exact fun n => (h n).resolve_right (by simp)
  | cons m l ih =>
    refine ih (by simpa using ha) fun n => ?_
    by_cases hm : n = m
    · subst hm
      have := releaseFaultClaim_self (n := n) (s := s) (by rw [ha]; exact (h n).symm.imp_left And.right)
      exact .inl (by rwa [ha] at this)
    · rcases h n with h | ⟨hl, hc⟩
      · exact .inl (releaseFaultClaim_at_other hm h)
      · refine .inr ⟨(List.mem_cons.mp hl).resolve_left hm, ?_⟩
        show ((releaseFaultClaim m s).ramps.get n).claims.fault.isSome = true
        unfold releaseFaultClaim; split
        · exact hc
        · simpa [PerChannel.get_set, hm] using hc

/-- RAIL_HIGH becomes inactive: each channel keeps the claim that its own record has a reason for (R149, R157). -/
theorem clearHigh_faultHeld {s : State} (h : faultHeld s) : faultHeld (clearRailFault .railHigh s) := by
  unfold clearRailFault; dsimp only
  split
  next ha =>
    have hh : s.protection.active.railHigh = true := ha
    have held : faultHeldUnder true (withDemand (unmarkFault .railHigh) s) := by
      refine (handInvariant_faultHeldUnder true).withDemand ?_
      rw [← hh]; exact h
    have released := releaseEach_faultHeldUnder allChannels (s := withDemand (unmarkFault .railHigh) s) (by simp [PerFault.set])
      fun n => .inr ⟨mem_allChannels n, by simpa [faultHeldAt] using held n⟩
    have low := foldl_field (fun t => t.protection.active.railHigh)
      (g := fun s n => releaseFaultClaim n s) (fun _ _ => by simp) allChannels
      (withDemand (unmarkFault .railHigh) s)
    rw [← faultHeldUnder_iff, low]
    simpa [PerFault.set] using released
  next => exact h

/-- RAIL_HIGH becomes active: every channel takes the claim (R149, R156). -/
theorem raiseHigh_faultHeld (s : State) : faultHeld (raiseHigh s) := by
  intro n
  have claim := placeAll_claims .fault .hard (queueAlert (.station .railHigh) .active (withDemand (markFault .railHigh) s)) n .fault
  simp only [ClaimSet.get, decide_true, Bool.true_or] at claim
  simpa [raiseHigh, PerFault.set] using claim

/-! ### Changes of a fault record -/

theorem queueAlert_channelState (a : AlertSubject) (x : AlertState) (s : State) :
    channelState (queueAlert a x s) = channelState s := by simp [channelState]

section
variable {s : State} {n : Channel}

theorem setRecord_faultHeldAt {b : Bool} {r : FaultRecord} {m : Channel} (hm : m ≠ n) (h : faultHeldAt b s m) :
    faultHeldAt b (s.setRecord n r) m := by
  simpa [faultHeldAt, PerChannel.get_set, hm] using h

/-- A record that stays, or stays no, reason for the claim. -/
theorem setRecord_faultHeld {r : FaultRecord} (hr : channelReason r = channelReason (s.protection.records.get n))
    (h : faultHeld s) : faultHeld (s.setRecord n r) := by
  intro m
  by_cases hm : m = n
  · subst hm; simpa [hr] using h m
  · exact setRecord_faultHeldAt hm (h m)

theorem faultHeld_frame {s t : State} (hr : t.ramps = s.ramps) (hp : t.protection.records = s.protection.records)
    (ha : t.protection.active.railHigh = s.protection.active.railHigh) (h : faultHeld s) : faultHeld t := by
  intro n; rw [hr, hp, ha]; exact h n

/-- A record becomes a reason, and the claim is placed (R149). -/
theorem strike_faultHeld {r : FaultRecord} (k : SilencingKind) {u : State} (hr : channelReason r = true)
    (hu : channelState u = channelState (s.setRecord n r)) (h : faultHeld s) : faultHeld (placeClaim .fault k n u) := by
  simp only [channelState, Prod.mk.injEq] at hu
  obtain ⟨ramps, records, -, -, high, -⟩ := hu
  rw [← faultHeldUnder_iff, show (placeClaim .fault k n u).protection.active = u.protection.active by simp]
  refine placeFault_faultHeldUnder k (by simpa [records] using hr) fun m hm => ?_
  unfold faultHeldAt
  rw [ramps, records, high]
  exact setRecord_faultHeldAt hm (h m)

/-- A record is a reason no longer, and the claim goes with the last of the reasons (R149). -/
theorem release_faultHeld {r : FaultRecord} {u : State} (hr : channelReason r = false)
    (hu : channelState u = channelState (s.setRecord n r)) (h : faultHeld s) : faultHeld (releaseFaultClaim n u) := by
  simp only [channelState, Prod.mk.injEq] at hu
  obtain ⟨ramps, records, -, -, high, -⟩ := hu
  have at_other (m : Channel) (hm : m ≠ n) : faultHeldAt u.protection.active.railHigh u m := by
    unfold faultHeldAt
    rw [ramps, records, high]
    exact setRecord_faultHeldAt hm (h m)
  have at_self : (u.ramps.get n).claims.fault.isSome = true ∨ faultHeldAt u.protection.active.railHigh u n := by
    unfold faultHeldAt
    rw [ramps, records, high]
    have := h n
    cases hc : ((s.setRecord n r).ramps.get n).claims.fault.isSome
    · right
      simp_all
    · exact .inl rfl
  rw [← faultHeldUnder_iff, show (releaseFaultClaim n u).protection.active = u.protection.active by simp]
  intro m
  by_cases hm : m = n
  · subst hm; exact releaseFaultClaim_self at_self
  · exact releaseFaultClaim_at_other hm (at_other m hm)

theorem silenceChannel_faultHeld (f : ChannelFault) (k : SilencingKind) {d : RecordState} (hd : d = .latched ∨ d = .retryWait)
    (h : faultHeld s) : faultHeld (silenceChannel f k d n s) := by
  refine strike_faultHeld k ?_ (queueAlert_channelState _ _ _) h
  show channelReason { s.protection.records.get n with
    state := _, lastFault := _, retryTimer := _ } = true
  dsimp only
  split
  · rfl
  · rcases hd with rfl | rfl <;> rfl

theorem overcurrentDestination_cases (m : OvercurrentMode) (used : Nat) :
    overcurrentDestination m used = .latched ∨ overcurrentDestination m used = .retryWait := by
  unfold overcurrentDestination; split <;> simp

theorem reportFault_faultHeld (f : ChannelFault) (hr : channelReason (s.protection.records.get n) = false)
    (h : faultHeld s) : faultHeld (reportFault f n s) := by
  have hs : faultHeld (s.setRecord n { s.protection.records.get n with state := .reported, lastFault := some f }) :=
    setRecord_faultHeld (by rw [hr]; rfl) h
  unfold reportFault; dsimp only; split
  · exact hs
  · exact faultHeld_frame (by simp) (by simp) (by simp) hs

theorem takeOvercurrent_faultHeld (h : faultHeld s) : faultHeld (takeOvercurrent n s) := by
  have hs : faultHeld (s.setRecord n (s.protection.records.get n).overloaded) := setRecord_faultHeld rfl h
  have struck (hr : channelReason (s.protection.records.get n) = false) :
      faultHeld (overcurrentStrikes n (s.setRecord n (s.protection.records.get n).overloaded)) := by
    unfold overcurrentStrikes; dsimp only
    split
    · exact reportFault_faultHeld _ (by simpa [channelReason, FaultRecord.overloaded, FaultRecord.struck] using hr) hs
    iterate 2 exact silenceChannel_faultHeld _ _ (overcurrentDestination_cases _ _) hs
    · exact hs
  unfold takeOvercurrent; dsimp only
  split
  next hr => exact struck (by simp [channelReason, hr])
  next hr => exact struck (by simp [channelReason, hr])
  all_goals exact hs

theorem latchOffset_faultHeld (k : SilencingKind) (h : faultHeld s) : faultHeld (latchOffset k n s) := by
  unfold latchOffset
  split
  iterate 2 exact silenceChannel_faultHeld _ _ (.inl rfl) h
  next hr =>
    unfold offsetOnDip; dsimp only
    refine strike_faultHeld (r := { s.protection.records.get n with lastFault := some .dcOffset }) k
      (by simp [channelReason, hr]) ?_ h
    split <;> simp [channelState]
  · refine strike_faultHeld k ?_ (queueAlert_channelState _ _ _) h
    rfl
  · exact h

theorem judgeOffset_faultHeld (v : Int) (h : faultHeld s) : faultHeld (judgeOffset n v s) := by
  have recognised {t : State} (ht : faultHeld t) : faultHeld (offsetRecognised n t) := by
    have hs : faultHeld (t.setRecord n (t.protection.records.get n).struck) := setRecord_faultHeld rfl ht
    unfold offsetRecognised; dsimp only
    split
    · exact latchOffset_faultHeld _ hs
    · unfold reportOffset; split
      next hr => exact reportFault_faultHeld _ (by unfold channelReason; rw [hr]) hs
      next hr => exact reportFault_faultHeld _ (by unfold channelReason; rw [hr]) hs
      all_goals exact hs
    · exact ht
  have hs (c : Condition) : faultHeld (s.setOffset n c) := h
  unfold judgeOffset; dsimp only
  split
  · exact hs _
  · exact recognised (hs _)
  · exact setRecord_faultHeld (channelReason_offsetClears _) (hs _)

theorem reportClip_faultHeld (h : faultHeld s) : faultHeld (reportClip n s) := by
  have hs : faultHeld (s.setRecord n (s.protection.records.get n).struck) := setRecord_faultHeld rfl h
  unfold reportClip; dsimp only
  split
  next hr => exact reportFault_faultHeld _ (by simp [channelReason, FaultRecord.struck, hr]) hs
  all_goals exact hs

theorem clearChannel_faultHeld (h : faultHeld s) : faultHeld (clearChannel n s) := by
  unfold clearChannel; dsimp only; split
  · exact release_faultHeld (r := (s.protection.records.get n).cleared) rfl rfl h
  · exact h

end

/-! ### Every step -/

theorem faultHeld_startInvariant : StartInvariant faultHeld where
  frame hst h := by
    simp only [channelState, Prod.mk.injEq] at hst
    exact faultHeld_frame hst.1 hst.2.1 hst.2.2.2.2.1 h
  hand cause s d _ h := by
    rw [← faultHeldUnder_iff, show (handTarget cause s d).protection.active = s.protection.active by simp]
    exact handTarget_faultHeldUnder cause d h
  clearHigh := clearHigh_faultHeld
  offsets b h n := by simpa [clearOffsets, apply_ite channelReason] using h n
  move _ _ _ h := h
  place {s c} k n hc h := by
    rw [← faultHeldUnder_iff, show (placeClaim c k n s).protection.active = s.protection.active by simp]
    exact placeClaim_faultHeldUnder k n hc h
  remove n hc _ h := removeClaim_faultHeldUnder n hc h
  ready {s} h := allChannels_invariant (P := faultHeld) (fun _ n ht => removeClaim_faultHeldUnder n (by simp) ht) h
  raise _ _ := raiseHigh_faultHeld _
  step {s} n h := by
    rw [← faultHeldUnder_iff, show (applyRamp n _ s).protection.active = s.protection.active by simp]
    exact applyRamp_faultHeldUnder (by rw [step_claims]) h
  hold {s} n h := by
    rw [← faultHeldUnder_iff, show (applyRamp n _ s).protection.active = s.protection.active by simp]
    exact applyRamp_faultHeldUnder (by rw [holdEnds_claims]) h
  overcurrent _ h := takeOvercurrent_faultHeld h
  offset _ v h := judgeOffset_faultHeld v h
  clip _ h := reportClip_faultHeld h
  clear _ h := clearChannel_faultHeld h
  retry n _ h := release_faultHeld (r := (_ : FaultRecord).retried) rfl rfl h
  budget _ h := setRecord_faultHeld rfl h
  counts h n := by simpa [clearCounts, channelReason] using h n
  load _ _ _ h := h
  fresh h n := by
    obtain ⟨hr, -, hp, ha, -⟩ := h
    simp [hr, hp, ha, RampRecord.reset, ClaimSet.empty, channelReason, FaultRecord.reset]

theorem faultHeld_timePasses {s : State} (h : faultHeld s) : faultHeld (timePasses s) := by
  intro n
  have reason (r : FaultRecord) : channelReason r.tick = channelReason r := rfl
  simpa [timePasses, Protection.tick, RampRecord.tick, reason] using h n

/-- Settles O53. -/
theorem faultClaimHasItsReason : Obligations.FaultClaimHasItsReason :=
  fun _ _ h hst => faultHeld_startInvariant.afterStep faultHeld_timePasses h hst

end Sys2Proof.Machine
end

section
/-! PROOFS. Every scene held, and the record that changes it, stays within the ranges of its fields (R1). -/

namespace Sys2Proof.Machine

/-- The scenes and the pending record of the unit are within the ranges of their fields. -/
def SceneUnit.InRange (u : SceneUnit) : Prop :=
  contentInRange u.applied.content = true ∧ (∀ sc, u.staged = some sc → contentInRange sc.content = true) ∧
    entriesInRange u.pending

theorem scenesInRange_iff (s : State) :
    scenesInRange s ↔ s.scene.InRange ∧ contentInRange s.loader.image.startScene = true := by
  simp only [scenesInRange, SceneUnit.InRange, and_assoc]

theorem contentInRange_iff (c : Content) : contentInRange c = true ↔ ∀ f, inRange f (c.get f) = true := by
  simp [contentInRange, mem_allFields]

theorem emptyRecord_inRange : entriesInRange emptyRecord := by
  intro f e h
  simp [emptyRecord] at h

/-- A record within range laid over a content within range. -/
theorem layOver_inRange {p : PendingRecord} {c : Content} (hp : entriesInRange p) (hc : contentInRange c = true) :
    contentInRange (layOver p c) = true := by
  rw [contentInRange_iff] at hc ⊢
  intro f
  rw [layOver, PerField.get_of]
  split
  · exact hc f
  next e he => exact hp f e he

/-- An offer that passes its check merged into a record within range (R9, R12). -/
theorem merge_inRange {o : Offer} {n : Station} {p : PendingRecord} (ho : offerPasses o = true) (hp : entriesInRange p) :
    entriesInRange (merge o n p) := by
  have values (f : Field) (v : Int) (hv : o.values.get f = some v) : inRange f v = true := by
    simp only [offerPasses, Bool.and_eq_true, List.all_eq_true] at ho
    have := ho.2 f (mem_allFields f)
    rwa [hv] at this
  intro f e he
  rw [merge, PerField.get_of, mergeField] at he
  split at he
  · exact hp f e he
  next v hv =>
    split at he
    · cases he; exact values f v hv
    · exact hp f e he

namespace SceneUnit.InRange

variable {u : SceneUnit} (h : u.InRange)
include h

theorem apply {sc : Scene} (hs : u.staged = some sc) :
    ({ u with applied := asApplied sc, staged := none, conflict := none } : SceneUnit).InRange :=
  ⟨h.2.1 sc hs, nofun, h.2.2⟩

theorem stage {sc : Scene} (hc : contentInRange sc.content = true) (p : PendingRecord) (hp : entriesInRange p)
    (g : Option Generation) : ({ u with staged := some sc, pending := p, conflict := g } : SceneUnit).InRange :=
  ⟨h.1, by rintro sc' ⟨⟩; exact hc, hp⟩

theorem record {p : PendingRecord} (hp : entriesInRange p) : ({ u with pending := p } : SceneUnit).InRange :=
  ⟨h.1, h.2.1, hp⟩

theorem adopt {a : AppliedScene} (ha : contentInRange a.content = true) (m : UnitState) (w : Timer) :
    ({ u with unit := m, applied := a, joinWindow := w } : SceneUnit).InRange :=
  ⟨ha, h.2⟩

end SceneUnit.InRange

theorem SceneUnit.InRange.reset {c : Content} (hc : contentInRange c = true) (own : Station) :
    (SceneUnit.resetWith c own).InRange :=
  ⟨hc, nofun, emptyRecord_inRange⟩

/-! ### Every operation on the unit -/

theorem inRange_of_scene_eq {s t : State} (h : s.scene.InRange) (e : t.scene = s.scene) : t.scene.InRange := by rwa [e]

section
variable {s : State} (h : s.scene.InRange)
include h

theorem applyStaged_inRange : (applyStaged s).scene.InRange := by
  cases hs : s.scene.staged with
  | none => rwa [applyStaged_of_not_staged hs]
  | some sc => rw [applyStaged_scene_of_staged hs]; exact h.apply hs

theorem stagePending_inRange : (stagePending s).scene.InRange := by
  cases hg : s.scene.applied.generation with
  | none => simpa [stagePending, hg] using h
  | some g =>
    cases hp : recordHeld s.scene.pending with
    | false => rwa [stagePending_of_not_held hp]
    | true =>
      rw [stagePending_of_held hg hp]
      exact h.stage (layOver_inRange h.2.2 h.1) _ emptyRecord_inRange none

theorem resyncAtMark_inRange : (resyncAtMark s).scene.InRange := by
  unfold resyncAtMark; repeat' split
  all_goals exact h

theorem markEvent_inRange (o : MarkOrder) : (markEvent o s).scene.InRange := by
  have turn (b : Bool) (f : State → State) (hf : ∀ t : State, t.scene.InRange → (f t).scene.InRange) (t : State)
      (ht : t.scene.InRange) : (inTurn b f t).scene.InRange := by
    unfold inTurn; split
    · exact hf t ht
    · exact ht
  have bank (t : State) (ht : t.scene.InRange) : (bankMark t).scene.InRange := inRange_of_scene_eq ht (by simp)
  have planner (t : State) (ht : t.scene.InRange) : (plannerMark t).scene.InRange := inRange_of_scene_eq ht (by simp)
  exact turn _ _ bank _ (turn _ _ (fun _ ht => resyncAtMark_inRange (stagePending_inRange ht)) _ (turn _ _ bank _
    (turn _ _ planner _ (turn _ _ (fun _ ht => applyStaged_inRange ht) _ (turn _ _ planner _ (turn _ _ bank _ h))))))

theorem takeOffer_inRange (n : Station) (o : Offer) : (takeOffer n o s).scene.InRange := by
  unfold takeOffer
  split
  · split
    next ho =>
      split
      · unfold measureOffer
        repeat' split
        · exact h
        · exact h.record (merge_inRange ho h.2.2)
        · exact h
        · exact inRange_of_scene_eq h (by simp)
        · rw [enterResync_scene]; exact h.record emptyRecord_inRange
        · exact h
      · exact h
      · exact h
    · exact h
  · exact h

theorem takeScene_inRange (sc : Scene) : (takeScene sc s).scene.InRange := by
  unfold takeScene; dsimp only
  split
  next hp =>
    have hc : contentInRange sc.content = true := by
      simp only [Bool.and_eq_true, scenePasses] at hp
      exact hp.2.1
    have hw : (withdrawScene sc s).scene.InRange := h
    split
    · rw [leaveProvisional_scene]; exact hw.adopt (a := asApplied sc) hc _ _
    · unfold settleConflict; split
      · exact hw.stage (sc := settledScene sc) hc _ emptyRecord_inRange none
      · exact hw
    · unfold resyncStage; repeat' split
      all_goals first | exact hw | exact hw.stage hc _ hw.2.2 (withdrawScene sc s).scene.conflict
  · exact h

theorem takeReport_inRange (g : Generation) (d : Digest) : (takeReport g d s).scene.InRange := by
  unfold takeReport reportInAgreed reportInResync; dsimp only
  repeat' split
  all_goals try exact h
  all_goals simp only [enterResync_scene, fetchAfresh_scene, queueFetchOnce_keeps]
  all_goals first | exact h | exact h.record emptyRecord_inRange

theorem takePresence_inRange (n : Station) (f : PresenceFrame) : (takePresence n f s).scene.InRange := by
  unfold takePresence
  split
  · exact h
  · unfold recordReport; dsimp only
    split
    · exact h
    · unfold reportGeneration
      split
      · apply takeReport_inRange
        refine inRange_of_scene_eq h ?_
        repeat' split
        all_goals simp
      · refine inRange_of_scene_eq h ?_
        repeat' split
        all_goals simp

theorem joinWindowEnds_inRange (hi : contentInRange s.loader.image.startScene = true) :
    (joinWindowEnds s).scene.InRange := by
  unfold joinWindowEnds; split
  · rw [leaveProvisional_scene]
    exact h.adopt (a := formApplied (some 1) s.loader.image.startScene (own s)) hi _ _
  · exact h

theorem fetchTimerEnds_inRange : (fetchTimerEnds s).scene.InRange := by
  unfold fetchTimerEnds
  repeat' split
  case h_2.isTrue => simp only [queueFetch_keeps]; exact h
  all_goals exact h

end

/-! ### The start scene -/

theorem unconfiguredContent_inRange : contentInRange unconfiguredContent = true := by decide

/-- The start scene in use is within the ranges of its fields. -/
def startSceneInRange (s : State) : Prop := contentInRange s.loader.image.startScene = true

theorem checkFields_startScene {r : RawImage} {i : Image} (h : checkFields r = some i) :
    contentInRange i.startScene = true := by
  unfold checkFields at h
  split at h
  · split at h
    next hp =>
      simp only [plainFieldsInRange, Bool.and_eq_true] at hp
      cases h
      exact hp.1.1.1.1.1.1.1.1.1
    · cases h
  · cases h

/-- An image that passes its check has its start scene within range (R179). -/
theorem checkImage_startScene {straps : Station} {own : Option Station} {read : ImageRead} {i : Image}
    (h : checkImage straps own read = some i) : contentInRange i.startScene = true := by
  unfold checkImage at h
  split at h
  · cases h
  · simp only [Option.ite_none_right_eq_some] at h
    exact checkFields_startScene h.2

theorem takeImage_startScene (straps : Station) (own : Option Station) (read : ImageRead) (s : State) :
    startSceneInRange (takeImage straps read (checkImage straps own read) s) := by
  show contentInRange ((checkImage straps own read).getD Image.unconfigured).startScene = true
  cases hi : checkImage straps own read with
  | none => exact unconfiguredContent_inRange
  | some i => exact checkImage_startScene hi

theorem effect_image {c : Instr} (hs : isStart c = false) (s : State) : (effect c s).loader.image = s.loader.image := by
  by_cases hw : c = .wakeLineRise
  · subst hw
    have hw : (takeWakeLine (withWakeLine true s)).loader.image = (withWakeLine true s).loader.image := by
      unfold takeWakeLine endRest freshStart; split <;> simp
    simpa using hw
  · rw [effect_loader hs hw]

/-! ### Every command -/

theorem scenesInRange_of_eq {s t : State} (h : scenesInRange s) (hu : t.scene = s.scene)
    (hi : t.loader.image.startScene = s.loader.image.startScene) : scenesInRange t := by
  rw [scenesInRange_iff] at h ⊢
  rw [hu, hi]; exact h

theorem startComplete_scenesInRange {s : State} (h : scenesInRange s) (straps : Station) (read : ImageRead) (b : Bool) :
    scenesInRange (startComplete straps read b s) := by
  have leave (d : StationState) (p : PerFault Bool) (t : State) (ht : scenesInRange t) :
      scenesInRange (leaveStarting d p t) := by
    rw [scenesInRange_iff] at ht ⊢
    refine ⟨?_, ?_⟩
    · rw [leaveStarting_scene]
      split <;> exact ht.1
    · unfold leaveStarting startTimers; dsimp only
      repeat' split
      all_goals simpa using ht.2
  have test (t : State) (ht : scenesInRange t) : scenesInRange (selfTested b t) := by
    refine scenesInRange_of_eq ht ?_ ?_
    all_goals unfold selfTested; repeat' split
    all_goals simp
  refine leave _ _ _ (test _ ?_)
  have hi := takeImage_startScene straps (if s.loader.freshStart then some s.loader.own else none) read s
  rw [scenesInRange_iff]
  unfold afterCheck
  split
  · simpa [takeImage, startSceneInRange] using And.intro ((scenesInRange_iff s).1 h).1 hi
  · exact ⟨SceneUnit.InRange.reset unconfiguredContent_inRange _, by simpa [configBad, freshStartFailed, takeImage, startSceneInRange] using hi⟩
  · exact ⟨SceneUnit.InRange.reset hi _, by simpa [firstStart, takeImage, startSceneInRange] using hi⟩
  · exact ⟨SceneUnit.InRange.reset hi _, by simpa [configBad, firstStart, takeImage, startSceneInRange] using hi⟩

theorem effect_start_scenesInRange {c : Instr} (hc : isStart c = true) {s : State} (h : scenesInRange s) :
    scenesInRange (effect c s) := by
  have fresh (t : State) (hu : t.scene = .resetWith unconfiguredContent 0) (hl : t.loader = .reset) : scenesInRange t := by
    rw [scenesInRange_iff, hu, hl]
    exact ⟨SceneUnit.InRange.reset unconfiguredContent_inRange _, unconfiguredContent_inRange⟩
  have finished (t : State) (ht : scenesInRange t) : scenesInRange (finish t) := scenesInRange_of_eq ht (by simp) (by simp)
  cases c
  all_goals try cases hc
  case powerOn.refl => exact fresh _ rfl rfl
  case startComplete.refl straps read b =>
    simp only [effect_startComplete]
    split
    · exact finished _ (startComplete_scenesInRange h straps read b)
    · exact h
  case restart.refl rx target =>
    refine finished _ (receive_invariant rx (ifAddressed target restartBlocks) ?_ (fun t ht => ?_) (fun t ht => ?_) ?_)
    · exact scenesInRange_of_eq h (by simp) (by simp)
    · exact scenesInRange_of_eq ht (by simp) (by simp)
    · exact scenesInRange_of_eq ht (by simp) (by simp)
    · exact ifAddressed_invariant target fun _ _ => fresh _ rfl rfl

theorem finish_inRange {s : State} (h : s.scene.InRange) : (finish s).scene.InRange := inRange_of_scene_eq h (by simp)

/-- A frame received keeps the scenes within range when its handling does. -/
theorem received_inRange {s : State} (h : s.scene.InRange) (rx : Reception) {handle : State → State}
    (handled : ∀ t : State, t.scene.InRange → (handle t).scene.InRange) : (received rx handle s).scene.InRange :=
  finish_inRange (receive_invariant (P := fun t => t.scene.InRange) rx handle (inRange_of_scene_eq h (by simp))
    (fun _ ht => inRange_of_scene_eq ht (by simp)) (fun _ ht => inRange_of_scene_eq ht (by simp)) handled)

theorem effect_write_inRange {c : Instr} (hc : writesScene c = true) {s : State} (h : s.scene.InRange)
    (hi : startSceneInRange s) : (effect c s).scene.InRange := by
  cases c
  all_goals try cases hc
  case markReceived.refl rx n o =>
    exact received_inRange h rx fun t ht => markEvent_inRange (inRange_of_scene_eq ht (by simp)) o
  case offerReceived.refl rx o =>
    exact received_inRange h rx fun t ht => inRange_of_scene_eq (takeOffer_inRange ht rx.sender o) (by simp)
  case sceneReceived.refl rx sc => exact received_inRange h rx fun t ht => takeScene_inRange ht sc
  case presenceReceived.refl rx f => exact received_inRange h rx fun t ht => takePresence_inRange ht rx.sender f
  case ownMarkComplete.refl a o =>
    have hd : (completed a s).scene.InRange := inRange_of_scene_eq h (by simp)
    simp only [effect_ownMarkComplete, unlessOrphan_eq]
    repeat' split
    all_goals first | exact h | exact hd | skip
    refine finish_inRange ?_
    unfold ownMark; split
    · exact hd
    · exact markEvent_inRange (inRange_of_scene_eq hd (by simp)) o
  case ownOfferComplete.refl a =>
    have hd : (completed a s).scene.InRange := inRange_of_scene_eq h (by simp)
    simp only [effect_ownOfferComplete, unlessOrphan_eq]
    repeat' split
    all_goals first | exact h | exact hd | skip
    next o _ _ =>
      exact finish_inRange (inRange_of_scene_eq (takeOffer_inRange hd (own (completed a s)) o) (by simp))
  case joinWindowExpiry.refl =>
    simp only [effect_joinWindowExpiry]
    split
    · exact finish_inRange (joinWindowEnds_inRange h hi)
    · exact h
  case fetchTimerExpiry.refl => exact fetchTimerEnds_inRange h

theorem effect_scenesInRange (c : Instr) {s : State} (h : scenesInRange s) : scenesInRange (effect c s) := by
  cases h1 : isStart c with
  | true => exact effect_start_scenesInRange h1 h
  | false =>
    cases h2 : writesScene c with
    | true =>
      obtain ⟨hu, hi⟩ := (scenesInRange_iff s).1 h
      exact (scenesInRange_iff _).2 ⟨effect_write_inRange h2 hu hi, by rw [effect_image h1]; exact hi⟩
    | false => exact scenesInRange_of_eq h (effect_scene h1 h2 _) (by rw [effect_image h1])

theorem scenesInRange_afterStep {s t : State} (hst : step s = .next t) (h : scenesInRange s) : scenesInRange t :=
  step_invariant (P := scenesInRange) (fun _ _ hp => hp) (fun hp => hp) (fun c _ _ hp => effect_scenesInRange c hp) h hst

end Sys2Proof.Machine
end

section
/-! PROOFS. The counts and timers of the Protection Monitor, the idle bank of a station in BYPASS, and with the scenes within their
ranges O55. -/

namespace Sys2Proof.Machine

/-! ### The fault records -/

/-- A fault record and its timers within their ranges. -/
def FaultRecord.InRange (r : FaultRecord) : Prop := r.fits ∧ r.timersFit

namespace FaultRecord.InRange

variable {r : FaultRecord} (h : r.InRange)
include h

theorem retryTimer_eq_none (hs : r.state ≠ .retryWait) : r.retryTimer = none := h.1.2.2 hs

theorem silenced (m : OvercurrentMode) : (r.silenced m).InRange := by
  obtain ⟨⟨hocc, hused, hretry⟩, htimer, hbudget⟩ := h
  unfold FaultRecord.silenced
  split
  next hs =>
    split
    · exact ⟨⟨hocc, hused, fun _ => hretry (by simp [hs])⟩, htimer, hbudget⟩
    · exact ⟨⟨hocc, hused, fun e => absurd rfl e⟩, le_rfl, hbudget⟩
  next hs =>
    split
    · exact ⟨⟨hocc, hused, fun e => absurd hs e⟩, le_rfl, hbudget⟩
    · exact ⟨⟨hocc, hused, hretry⟩, htimer, hbudget⟩
  all_goals exact ⟨⟨hocc, hused, hretry⟩, htimer, hbudget⟩

/-- A record that goes to a state beside RETRY_WAIT from another such state. -/
theorem moved (hs : r.state ≠ .retryWait) (d : RecordState) (f : Option ChannelFault) :
    ({ r with state := d, lastFault := f } : FaultRecord).InRange :=
  ⟨⟨h.1.1, h.1.2.1, fun _ => h.retryTimer_eq_none hs⟩, h.2⟩

theorem offsetClears : r.offsetClears.InRange := by
  unfold FaultRecord.offsetClears; split
  next hc => exact ⟨⟨h.1.1, h.1.2.1, fun _ => h.retryTimer_eq_none (by simp [hc.1])⟩, h.2⟩
  next => exact h

theorem struck : r.struck.InRange := by
  refine ⟨⟨?_, h.1.2⟩, h.2⟩
  have := h.1.1
  show countUp 255 r.occurrences ≤ 255
  unfold countUp; split <;> omega

theorem overloaded : r.overloaded.InRange := ⟨h.struck.1, h.2.1, le_rfl⟩

theorem faultOnDip (f : Option ChannelFault) : ({ r with lastFault := f } : FaultRecord).InRange := h

theorem withoutRetry (d : RecordState) (f : Option ChannelFault) {used : Nat} (hu : used ≤ 4) :
    ({ r with state := d, lastFault := f, retryTimer := none, retriesUsed := used } : FaultRecord).InRange :=
  ⟨⟨h.1.1, hu, fun _ => rfl⟩, by simp, h.2.2⟩

theorem retried : r.retried.InRange := by
  refine h.withoutRetry .clear r.lastFault ?_
  have := h.1.2.1
  unfold countUp; split <;> omega

theorem budgetRenewed : ({ r with retriesUsed := 0, budgetTimer := none } : FaultRecord).InRange :=
  ⟨⟨h.1.1, by simp, h.1.2.2⟩, h.2.1, by simp⟩

theorem countCleared : ({ r with occurrences := 0 } : FaultRecord).InRange := ⟨⟨by simp, h.1.2⟩, h.2⟩

theorem tick : r.tick.InRange := by
  obtain ⟨⟨hocc, hused, hretry⟩, htimer, hbudget⟩ := h
  refine ⟨⟨hocc, hused, fun hs => by simp [FaultRecord.tick, Timer.tick, hretry hs]⟩, ?_, ?_⟩
  · cases ht : r.retryTimer <;> simp_all [FaultRecord.tick, Timer.tick]; omega
  · cases ht : r.budgetTimer <;> simp_all [FaultRecord.tick, Timer.tick]; omega

end FaultRecord.InRange

/-- Every fault record is within its ranges. -/
def recordsInRange (s : State) : Prop := ∀ n, (s.protection.records.get n).InRange

section
variable {s : State} (h : recordsInRange s)
include h

theorem recordsInRange_frame {t : State} (ht : t.protection.records = s.protection.records) : recordsInRange t := by
  intro n; rw [ht]; exact h n

theorem setRecord_inRange {r : FaultRecord} (n : Channel) (hr : r.InRange) : recordsInRange (s.setRecord n r) := by
  intro m
  by_cases hm : m = n
  · subst hm; simpa using hr
  · simpa [PerChannel.get_set, hm] using h m

theorem applyRamp_recordsInRange (n : Channel) (r : RampResult) : recordsInRange (applyRamp n r s) := by
  intro m
  rw [applyRamp_records]; split
  · exact (h n).silenced _
  · exact h m

theorem handTarget_recordsInRange (cause : RateClass) (d : RosterEntry) : recordsInRange (handTarget cause s d) := by
  unfold handTarget; dsimp only; split
  · exact h
  · exact applyRamp_recordsInRange (s := s.setPlanned _ _) h _ _

end

theorem recordsInRange_handInvariant : HandInvariant recordsInRange where
  frame hst h := by
    simp only [channelState, Prod.mk.injEq] at hst
    exact recordsInRange_frame h hst.2.1
  hand cause _ d _ h := handTarget_recordsInRange h cause d

section
variable {s : State} {n : Channel} (h : recordsInRange s)
include h

theorem placeClaim_recordsInRange (c : Claim) (k : SilencingKind) (n : Channel) : recordsInRange (placeClaim c k n s) :=
  applyRamp_recordsInRange h _ _

theorem releaseFaultClaim_recordsInRange (n : Channel) : recordsInRange (releaseFaultClaim n s) :=
  recordsInRange_frame h (by simp)

theorem queueAlert_recordsInRange (a : AlertSubject) (x : AlertState) : recordsInRange (queueAlert a x s) :=
  recordsInRange_frame h (by simp)

theorem clearHigh_recordsInRange : recordsInRange (clearRailFault .railHigh s) := by
  unfold clearRailFault; dsimp only; split
  · exact allChannels_invariant (P := recordsInRange) (fun _ m ht => releaseFaultClaim_recordsInRange ht m)
      (recordsInRange_handInvariant.withDemand (f := unmarkFault .railHigh) h)
  · exact h

theorem placeAll_recordsInRange (c : Claim) (k : SilencingKind) : recordsInRange (placeAll c k s) :=
  allChannels_invariant (P := recordsInRange) (fun _ m ht => placeClaim_recordsInRange ht c k m) h

theorem raiseHigh_recordsInRange : recordsInRange (raiseHigh s) :=
  placeAll_recordsInRange (queueAlert_recordsInRange (recordsInRange_handInvariant.withDemand (f := markFault .railHigh) h) _ _) _ _

omit h in
theorem startedTimer_le {p : Prop} [Decidable p] {t : Timer} (ht : t.getD 0 ≤ 800) :
    (if p then some (ms 200) else t).getD 0 ≤ 800 := by
  split
  · exact le_rfl
  · exact ht

/-- A fault that silences a channel whose record stands outside RETRY_WAIT. -/
theorem silenceChannel_recordsInRange (f : ChannelFault) (k : SilencingKind) (d : RecordState)
    (hs : (s.protection.records.get n).state ≠ .retryWait) : recordsInRange (silenceChannel f k d n s) := by
  have hr := h n
  refine placeClaim_recordsInRange (queueAlert_recordsInRange (setRecord_inRange h n ?_) _ _) _ _ _
  have hn := hr.retryTimer_eq_none hs
  refine ⟨⟨hr.1.1, hr.1.2.1, fun e => ?_⟩, ?_, hr.2.2⟩
  · exact (if_neg fun hc => e hc.1).trans hn
  · exact startedTimer_le hr.2.1

theorem reportFault_recordsInRange (f : ChannelFault) (hs : (s.protection.records.get n).state ≠ .retryWait) :
    recordsInRange (reportFault f n s) := by
  have hr := setRecord_inRange h n ((h n).moved hs .reported (some f))
  unfold reportFault; dsimp only; split
  · exact hr
  · exact queueAlert_recordsInRange hr _ _

theorem takeOvercurrent_recordsInRange : recordsInRange (takeOvercurrent n s) := by
  have hr := setRecord_inRange h n (h n).overloaded
  have struck (hs : (s.protection.records.get n).state ≠ .retryWait) :
      recordsInRange (overcurrentStrikes n (s.setRecord n (s.protection.records.get n).overloaded)) := by
    have hs' : ((s.setRecord n (s.protection.records.get n).overloaded).protection.records.get n).state ≠ .retryWait := by
      simpa [FaultRecord.overloaded, FaultRecord.struck] using hs
    unfold overcurrentStrikes; dsimp only
    split
    · exact reportFault_recordsInRange hr _ hs'
    iterate 2 exact silenceChannel_recordsInRange hr _ _ _ hs'
    · exact hr
  unfold takeOvercurrent; dsimp only
  split
  iterate 2 next hs => exact struck (by simp [hs])
  all_goals exact hr

theorem latchOffset_recordsInRange (k : SilencingKind) : recordsInRange (latchOffset k n s) := by
  unfold latchOffset
  split
  iterate 2 next hs => exact silenceChannel_recordsInRange h _ _ _ (by simp [hs])
  · unfold offsetOnDip; dsimp only
    refine placeClaim_recordsInRange ?_ _ _ _
    have hr := setRecord_inRange h n ((h n).faultOnDip (some .dcOffset))
    split
    · exact hr
    · exact queueAlert_recordsInRange hr _ _
  · exact placeClaim_recordsInRange (queueAlert_recordsInRange
      (setRecord_inRange h n ((h n).withoutRetry .latched _ (h n).1.2.1)) _ _) _ _ _
  · exact h

theorem offsetRecognised_recordsInRange : recordsInRange (offsetRecognised n s) := by
  have hr := setRecord_inRange h n (h n).struck
  unfold offsetRecognised; dsimp only
  split
  · exact latchOffset_recordsInRange hr _
  · unfold reportOffset; split
    iterate 2 next hs => exact reportFault_recordsInRange hr _ (by rw [hs]; simp)
    all_goals exact hr
  · exact h

theorem judgeOffset_recordsInRange (v : Int) : recordsInRange (judgeOffset n v s) := by
  have hs (c : Condition) : recordsInRange (s.setOffset n c) := h
  unfold judgeOffset; dsimp only
  split
  · exact hs _
  · exact offsetRecognised_recordsInRange (hs _)
  · exact setRecord_inRange (hs _) n (h n).offsetClears

theorem reportClip_recordsInRange : recordsInRange (reportClip n s) := by
  have hr := setRecord_inRange h n (h n).struck
  unfold reportClip; dsimp only
  split
  next hs => exact reportFault_recordsInRange hr _ (by simp [FaultRecord.struck, hs])
  all_goals exact hr

theorem clearChannel_recordsInRange : recordsInRange (clearChannel n s) := by
  unfold clearChannel; dsimp only; split
  · have cleared : recordsInRange (s.setRecord n (s.protection.records.get n).cleared) :=
      setRecord_inRange h n ((h n).withoutRetry .clear _ (by simp))
    exact releaseFaultClaim_recordsInRange (s := State.setOffset n _ _) (recordsInRange_frame cleared rfl) n
  · exact h

end

theorem recordsInRange_startInvariant : StartInvariant recordsInRange where
  toHandInvariant := recordsInRange_handInvariant
  clearHigh := clearHigh_recordsInRange
  offsets b h n := by
    simp only [clearOffsets, PerChannel.get_of]
    split
    · exact (h n).offsetClears
    · exact h n
  move _ _ _ h := h
  place k n _ h := placeClaim_recordsInRange h _ k n
  remove _ _ _ h := h
  ready h := recordsInRange_frame h (by simp)
  raise _ h := raiseHigh_recordsInRange h
  step n h := applyRamp_recordsInRange h n _
  hold n h := applyRamp_recordsInRange h n _
  overcurrent _ h := takeOvercurrent_recordsInRange h
  offset _ v h := judgeOffset_recordsInRange h v
  clip _ h := reportClip_recordsInRange h
  clear _ h := clearChannel_recordsInRange h
  retry n _ h := releaseFaultClaim_recordsInRange (setRecord_inRange h n (h n).retried) n
  budget n h := setRecord_inRange h n (h n).budgetRenewed
  counts h n := by simpa [clearCounts] using (h n).countCleared
  load _ _ _ h := h
  fresh h n := by
    rw [h.2.2.1, PerChannel.get_all]
    exact ⟨by decide, by decide⟩

theorem recordsInRange_timePasses {s : State} (h : recordsInRange s) : recordsInRange (timePasses s) := by
  intro n
  simpa [timePasses, Protection.tick] using (h n).tick

/-! ### The clip contribution and its timers -/

/-- The clip contribution and its timers within their ranges (R154). -/
def clipInRange (s : State) : Prop :=
  s.protection.clip ≤ 24 ∧ s.protection.riseGuard.getD 0 ≤ 400 ∧ s.protection.clipFall.getD 0 ≤ 4000

theorem clipInRange_of_eq {s t : State} (h : clipInRange s)
    (e : t.protection.clip = s.protection.clip ∧ t.protection.riseGuard = s.protection.riseGuard ∧
      t.protection.clipFall = s.protection.clipFall) : clipInRange t := by
  unfold clipInRange; rw [e.1, e.2.1, e.2.2]; exact h

theorem clipInRange_reset {s : State} (h : s.protection.clip = 0 ∧ s.protection.riseGuard = none ∧ s.protection.clipFall = none) :
    clipInRange s := by
  unfold clipInRange; rw [h.1, h.2.1, h.2.2]; decide

theorem clipped_inRange {s : State} (h : clipInRange s) : clipInRange { s with protection := s.protection.clipped } := by
  obtain ⟨hc, hg, -⟩ := h
  unfold clipInRange Protection.clipped
  split
  next hr => exact ⟨hr.2, le_rfl, le_rfl⟩
  next => exact ⟨hc, hg, le_rfl⟩

theorem clipFalls_inRange {s : State} (h : clipInRange s) : clipInRange { s with protection := s.protection.clipFalls } := by
  obtain ⟨hc, hg, -⟩ := h
  refine ⟨show s.protection.clip - 1 ≤ 24 by omega, hg, ?_⟩
  unfold Protection.clipFalls
  dsimp only; split <;> decide

theorem withDemand_clipInRange {s : State} {f : State → State} (h : clipInRange (f s)) : clipInRange (withDemand f s) :=
  clipInRange_of_eq h (by unfold withDemand; dsimp only; split <;> simp)

theorem startComplete_clipInRange {s : State} (h : clipInRange s) (straps : Station) (read : ImageRead) (b : Bool) :
    clipInRange (startComplete straps read b s) := by
  have leave (d : StationState) (p : PerFault Bool) (t : State) (ht : clipInRange t) : clipInRange (leaveStarting d p t) := by
    refine clipInRange_of_eq ht ?_
    unfold leaveStarting startTimers; dsimp only
    repeat' split
    all_goals simp
  have test (t : State) (ht : clipInRange t) : clipInRange (selfTested b t) := by
    refine clipInRange_of_eq ht ?_
    unfold selfTested; repeat' split
    all_goals simp
  refine leave _ _ _ (test _ ?_)
  unfold afterCheck; split
  · exact withDemand_clipInRange h
  · exact clipInRange_reset ⟨rfl, rfl, rfl⟩
  · exact h
  · exact h

theorem effect_clipInRange (c : Instr) {s : State} (h : clipInRange s) : clipInRange (effect c s) := by
  have ends {t : State} (ht : clipInRange t) : clipInRange (finish t) := clipInRange_of_eq ht (by simp)
  have clipped (h : clipInRange s) :
      clipInRange (withDemand (fun s => { s with protection := s.protection.clipped }) s) :=
    withDemand_clipInRange (clipped_inRange h)
  by_cases hw : isStart c = false ∧ writesClip c = false
  · exact clipInRange_of_eq h (effect_clip hw.1 hw.2 s)
  cases c
  all_goals try exact absurd ⟨rfl, rfl⟩ hw
  case powerOn => exact clipInRange_reset ⟨rfl, rfl, rfl⟩
  case startComplete straps read b =>
    rw [effect_startComplete]; split
    · exact ends (startComplete_clipInRange h straps read b)
    · exact h
  case restart rx n =>
    refine ends (receive_invariant (P := clipInRange) rx (ifAddressed n restartBlocks) ?_ (fun t ht => ?_) (fun t ht => ?_) ?_)
    · exact clipInRange_of_eq h (by simp)
    · exact clipInRange_of_eq ht (by simp)
    · exact clipInRange_of_eq ht (by simp)
    · exact ifAddressed_invariant n fun _ _ => clipInRange_reset ⟨rfl, rfl, rfl⟩
  case clipFlag n =>
    rw [effect_clipFlag]; split
    · refine ends ?_
      unfold takeClip; split
      · unfold limitClip; dsimp only; split
        · exact clipInRange_of_eq (clipped h) (by simp)
        · exact clipped h
      · exact clipInRange_of_eq h (by simp)
      · exact h
    · exact h
  case riseGuardExpiry =>
    rw [effect_riseGuardExpiry]; split
    · exact ⟨h.1, by simp, h.2.2⟩
    · exact h
  case clipFallTimerExpiry =>
    rw [effect_clipFallTimerExpiry]; split
    · exact ends (withDemand_clipInRange (clipFalls_inRange h))
    · exact h

theorem tick_le (t : Timer) {k : Nat} (h : t.getD 0 ≤ k) : (Timer.tick t).getD 0 ≤ k := by
  cases t with
  | none => exact h
  | some n => simp only [Timer.tick, Option.map_some, Option.getD_some] at h ⊢; omega

theorem protectionFits_iff (s : State) : protectionFits s ↔ recordsInRange s ∧ clipInRange s := Iff.rfl

theorem protectionFits_afterStep {s t : State} (hst : step s = .next t) (h : protectionFits s) : protectionFits t := by
  rw [protectionFits_iff] at h ⊢
  refine ⟨recordsInRange_startInvariant.afterStep recordsInRange_timePasses h.1 hst, ?_⟩
  exact step_invariant (P := clipInRange) (fun _ _ hp => hp) (fun hp => ⟨hp.1, tick_le _ hp.2.1, tick_le _ hp.2.2⟩)
    (fun c _ _ hp => effect_clipInRange c hp) h.2 hst

/-! ### The bank of a station in BYPASS -/

/-- A bank in BYPASS prepares nothing (R140). -/
def Equaliser.BypassIdle (q : Equaliser) : Prop :=
  q.bypass = true → q.state = .idle ∧ (∀ n, q.shadow.get n = none) ∧ q.swapDue = false

theorem bypassIdle_iff (s : State) : bypassIdle s ↔ s.equaliser.BypassIdle := Iff.rfl

/-- Properties of the bank that its operations keep. -/
structure BankInvariant (Q : Equaliser → Prop) : Prop where
  staged : ∀ {q : Equaliser} (i : Image) (t : Settings), Q q → Q (q.sceneStaged i t)
  applied : ∀ {q : Equaliser} (i : Image) (t : Settings), Q q → Q (q.sceneApplied i t)
  mark : ∀ {q : Equaliser} (t : Settings), Q q → Q (q.mark t)
  prepared : ∀ {q : Equaliser} (i : Image), Q q → Q (q.channelPrepared i)
  countsCleared : ∀ {q : Equaliser}, Q q → Q { q with lateSwaps := 0 }

namespace BankInvariant

variable {Q : Equaliser → Prop} (I : BankInvariant Q) {s : State}
include I

omit I in
theorem bank_of_eq {t : State} (h : Q s.equaliser) (e : t.equaliser = s.equaliser) : Q t.equaliser := by rwa [e]

theorem sceneAppliedNotice (h : Q s.equaliser) : Q (sceneAppliedNotice s).equaliser := by
  simpa [Machine.sceneAppliedNotice] using I.applied _ _ h

theorem applyStaged (h : Q s.equaliser) : Q (applyStaged s).equaliser := by
  unfold Machine.applyStaged; split
  · exact h
  next sc _ =>
    have hn := I.sceneAppliedNotice
      (s := { s with scene := { s.scene with applied := asApplied sc, staged := none, conflict := none } }) h
    exact bank_of_eq hn (by simp)

theorem stagePending (h : Q s.equaliser) : Q (stagePending s).equaliser := by
  unfold Machine.stagePending; repeat' split
  · exact h
  · exact I.staged _ _ h
  · exact h

theorem markEvent (o : MarkOrder) (h : Q s.equaliser) : Q (markEvent o s).equaliser := by
  have turn (b : Bool) (f : State → State) (hf : ∀ t : State, Q t.equaliser → Q (f t).equaliser) (t : State)
      (ht : Q t.equaliser) : Q (inTurn b f t).equaliser := by
    unfold inTurn; split
    · exact hf t ht
    · exact ht
  have bank (t : State) (ht : Q t.equaliser) : Q (bankMark t).equaliser := I.mark _ ht
  have planner (t : State) (ht : Q t.equaliser) : Q (plannerMark t).equaliser := bank_of_eq ht (by simp)
  have unit (t : State) (ht : Q t.equaliser) : Q (resyncAtMark (Machine.stagePending t)).equaliser :=
    bank_of_eq (I.stagePending ht) (by simp)
  exact turn _ _ bank _ (turn _ _ unit _ (turn _ _ bank _ (turn _ _ planner _ (turn _ _ (fun _ ht => I.applyStaged ht) _
    (turn _ _ planner _ (turn _ _ bank _ h))))))

theorem leaveProvisional (a : AppliedScene) (h : Q s.equaliser) : Q (leaveProvisional a s).equaliser := by
  have hn := I.sceneAppliedNotice (s := { s with scene := { s.scene with unit := .agreed, applied := a, joinWindow := none } }) h
  exact bank_of_eq hn (by simp [Machine.leaveProvisional])

theorem takeScene (sc : Scene) (h : Q s.equaliser) : Q (takeScene sc s).equaliser := by
  have hw : Q (withdrawScene sc s).equaliser := h
  unfold Machine.takeScene; dsimp only
  split
  · split
    · exact I.leaveProvisional _ hw
    · unfold settleConflict; split
      · exact I.staged _ _ hw
      · exact hw
    · unfold resyncStage; repeat' split
      all_goals first | exact hw | exact I.staged _ _ hw
  · exact h

theorem effect {c : Instr} (hs : isStart c = false) (h : Q s.equaliser) : Q (effect c s).equaliser := by
  have ends {t : State} (ht : Q t.equaliser) : Q (finish t).equaliser := bank_of_eq ht (by simp)
  have received (rx : Reception) {handle : State → State} (hh : ∀ t : State, Q t.equaliser → Q (handle t).equaliser) :
      Q (received rx handle s).equaliser :=
    ends (receive_invariant (P := fun t => Q t.equaliser) rx handle (bank_of_eq h (by simp))
      (fun _ ht => bank_of_eq ht (by simp)) (fun _ ht => bank_of_eq ht (by simp)) hh)
  cases hw : writesBank c
  case false => rw [effect_equaliser hs hw]; exact h
  case true =>
    cases c
    all_goals try cases hw
    case markReceived.refl rx n o => exact received rx fun t ht => I.markEvent o (bank_of_eq ht (by simp))
    case sceneReceived.refl rx sc => exact received rx fun t ht => I.takeScene sc ht
    case clearCounts.refl rx n => exact received rx (ifAddressed_invariant (P := fun t => Q t.equaliser) n fun _ ht =>
      I.countsCleared ht)
    case ownMarkComplete.refl a o =>
      have hd : Q (completed a s).equaliser := bank_of_eq h (by simp)
      rw [effect_ownMarkComplete]; repeat' split
      case h_1 =>
        unfold unlessOrphan ownMark; repeat' split
        · exact hd
        · exact ends hd
        · exact ends (I.markEvent o (bank_of_eq hd (by simp)))
      all_goals exact h
    case joinWindowExpiry.refl =>
      rw [effect_joinWindowExpiry]; split
      · refine ends ?_
        unfold joinWindowEnds; split
        · exact I.leaveProvisional _ h
        · exact h
      · exact h
    case preparationTimerExpiry.refl =>
      rw [effect_preparationTimerExpiry]; split
      · exact h
      · exact I.prepared _ h

end BankInvariant

/-! In BYPASS every operation leaves the bank; out of it there is nothing to hold, and none of them enters it. -/

@[simp] theorem prepare_bypass (i : Image) (t : Settings) (q : Equaliser) : (q.prepare i t).bypass = q.bypass := by
  unfold Equaliser.prepare; dsimp only; split <;> rfl

theorem bypassIdle_of_left {q r : Equaliser} (hb : r.bypass = q.bypass) (left : q.bypass = true → r = q)
    (h : q.BypassIdle) : r.BypassIdle := by
  intro hr
  have hq := hb ▸ hr
  rw [left hq]
  exact h hq

theorem sceneStaged_bypass (i : Image) (t : Settings) (q : Equaliser) : (q.sceneStaged i t).bypass = q.bypass := by
  unfold Equaliser.sceneStaged; repeat' split
  all_goals first | rfl | exact prepare_bypass i t q

theorem sceneApplied_bypass (i : Image) (t : Settings) (q : Equaliser) : (q.sceneApplied i t).bypass = q.bypass := by
  unfold Equaliser.sceneApplied; dsimp only; repeat' split
  all_goals first | rfl | exact prepare_bypass i t _

theorem channelPrepared_bypass (i : Image) (q : Equaliser) : (q.channelPrepared i).bypass = q.bypass := by
  unfold Equaliser.channelPrepared; dsimp only; repeat' split
  all_goals rfl

theorem mark_bypass (t : Settings) (q : Equaliser) : (q.mark t).bypass = q.bypass := by
  unfold Equaliser.mark; split <;> rfl

theorem channelPrepared_of_idle (i : Image) {q : Equaliser} (h : q.state = .idle) : q.channelPrepared i = q := by
  simp [Equaliser.channelPrepared, h]

theorem bypassIdle_bankInvariant : BankInvariant Equaliser.BypassIdle where
  staged i t h := bypassIdle_of_left (sceneStaged_bypass i t _) (fun hb => if_pos hb) h
  applied i t h := bypassIdle_of_left (sceneApplied_bypass i t _) (fun hb => if_pos hb) h
  mark t h := bypassIdle_of_left (mark_bypass t _) (fun hb => if_neg fun hc => hc.1 hb) h
  prepared i h := bypassIdle_of_left (channelPrepared_bypass i _) (fun hb => channelPrepared_of_idle i (h hb).1) h
  countsCleared h := h

theorem abandoned_bypassIdle (q : Equaliser) (a : PerChannel Bank) (b : Bool) (t : Option Settings) :
    ({ q.abandon with active := a, bypass := b, activeSettings := t, swapDue := false } : Equaliser).BypassIdle :=
  fun _ => ⟨rfl, fun n => PerChannel.get_all _ n, rfl⟩

theorem reset_bypassIdle (k : Nat) : ({ Equaliser.reset with lateSwaps := k } : Equaliser).BypassIdle := nofun

theorem startComplete_bypassIdle {s : State} (h : s.equaliser.BypassIdle) (straps : Station) (read : ImageRead) (b : Bool) :
    (startComplete straps read b s).equaliser.BypassIdle := by
  have leave (d : StationState) (p : PerFault Bool) (t : State) (ht : t.equaliser.BypassIdle) :
      (leaveStarting d p t).equaliser.BypassIdle := by
    refine BankInvariant.bank_of_eq ht ?_
    unfold leaveStarting startTimers; dsimp only
    repeat' split
    all_goals simp
  have test (t : State) (ht : t.equaliser.BypassIdle) : (selfTested b t).equaliser.BypassIdle := by
    unfold selfTested; repeat' split
    · exact ht
    all_goals exact abandoned_bypassIdle t.equaliser _ _ _
  refine leave _ _ _ (test _ ?_)
  unfold afterCheck; split
  · exact BankInvariant.bank_of_eq h (by simp only [withDemand_keeps]; rfl)
  · exact reset_bypassIdle _
  · exact h
  · exact h

theorem effect_bypassIdle (c : Instr) {s : State} (h : s.equaliser.BypassIdle) : (effect c s).equaliser.BypassIdle := by
  cases hs : isStart c
  case false => exact bypassIdle_bankInvariant.effect hs h
  case true =>
    cases c
    all_goals try cases hs
    case powerOn.refl => exact reset_bypassIdle 0
    case startComplete.refl straps read b =>
      rw [effect_startComplete]; split
      · exact BankInvariant.bank_of_eq (startComplete_bypassIdle h straps read b) (by simp)
      · exact h
    case restart.refl rx n =>
      have received := receive_invariant (P := fun t => t.equaliser.BypassIdle) rx (ifAddressed n restartBlocks) (s := s)
        (BankInvariant.bank_of_eq h (by simp)) (fun _ ht => BankInvariant.bank_of_eq ht (by simp))
        (fun _ ht => BankInvariant.bank_of_eq ht (by simp)) (ifAddressed_invariant n fun _ _ => reset_bypassIdle 0)
      exact BankInvariant.bank_of_eq received (by simp)

theorem bypassIdle_afterStep {s t : State} (hst : step s = .next t) (h : bypassIdle s) : bypassIdle t :=
  step_invariant (P := fun u => u.equaliser.BypassIdle) (fun _ _ hp => hp) (fun hp => hp)
    (fun c _ _ hp => effect_bypassIdle c hp) h hst

/-- Settles O55. -/
theorem scenesAndCountsStayInRange : Obligations.ScenesAndCountsStayInRange :=
  fun _ _ hst => ⟨scenesInRange_afterStep hst, protectionFits_afterStep hst, bypassIdle_afterStep hst⟩

end Sys2Proof.Machine
end

section
/-! PROOFS. No handed target and no current gain exceeds its channel's ceiling: O56. -/

namespace Sys2Proof.Machine

/-! ### One channel record under a ceiling -/

theorem atOrBelow_clampTarget (c : Int) (g : Gain) : atOrBelow c (clampTarget c g) = true := by
  cases g with
  | silent => rfl
  | level g =>
    unfold clampTarget; dsimp only
    by_cases hf : min g c < floorLevel
    · rw [if_pos hf]; rfl
    · rw [if_neg hf]; simp [atOrBelow]

/-- Target and current gain of a channel record stand at or below a ceiling of 0 dB or more. -/
def RampRecord.Under (c : Int) (r : RampRecord) : Prop :=
  0 ≤ c ∧ atOrBelow c r.target = true ∧ atOrBelow c r.currentGain = true

namespace RampRecord.Under

variable {c : Int} {r : RampRecord} (h : r.Under c)
include h

theorem of_gains {q : RampRecord} (ht : q.target = r.target) (hg : q.currentGain = r.currentGain ∨ q.currentGain = .silent) :
    q.Under c := by
  refine ⟨h.1, by rw [ht]; exact h.2.1, ?_⟩
  rcases hg with hg | hg <;> rw [hg]
  · exact h.2.2
  · rfl

theorem fallSilent : r.fallSilent.Under c := h.of_gains rfl (.inr rfl)

theorem startFade : r.startFade.Under c := by
  unfold RampRecord.startFade; split
  · exact h.fallSilent
  · exact h.of_gains rfl (.inl rfl)

theorem startDip (hold : Nat) : (r.startDip hold).Under c := by
  unfold RampRecord.startDip; dsimp only; split <;> exact h.of_gains rfl (.inl rfl)

theorem engage (hold : Nat) (k : SilencingKind) : (r.engage hold k).Under c := by
  unfold RampRecord.engage; split
  case h_4 =>
    split
    · exact h.fallSilent
    · exact h.startDip hold
  all_goals first | exact h | exact h.fallSilent | exact h.startFade

theorem place (hold : Nat) (d : Claim) (k : SilencingKind) : (r.place hold d k).record.Under c := by
  unfold RampRecord.place; split
  · exact engage (h.of_gains (q := { r with claims := r.claims.set d (some k) }) rfl (.inl rfl)) hold k
  · exact h

/-- The return from silence starts at the floor, below every ceiling (R123). -/
theorem atFloor {q : RampRecord} (ht : atOrBelow c q.target = true) (hg : q.currentGain = .level floorLevel) : q.Under c := by
  refine ⟨h.1, ht, ?_⟩
  rw [hg, atOrBelow, decide_eq_true_eq]
  have := h.1
  exact le_trans (by decide) this

theorem leaveSilence : r.leaveSilence.Under c := by
  unfold RampRecord.leaveSilence; dsimp only; split
  · exact h.of_gains rfl (.inr rfl)
  · exact h.atFloor h.2.1 rfl
  · split
    · exact h.of_gains rfl (.inr rfl)
    · exact h.of_gains rfl (.inl rfl)
  · split <;> exact h.of_gains rfl (.inl rfl)

theorem remove (d : Claim) : (r.remove d).Under c := by
  unfold RampRecord.remove; dsimp only; repeat' split
  · exact h
  · exact h.leaveSilence
  · exact h.of_gains rfl (.inl rfl)

theorem reachDuckLevel (hold : Nat) : (r.reachDuckLevel hold).Under c := by
  unfold RampRecord.reachDuckLevel; split
  · exact h.fallSilent
  · exact h.of_gains rfl (.inl rfl)

/-- Another target at or below the ceiling. -/
theorem retarget {t : Gain} (ht : atOrBelow c t = true) (cls : RateClass) (timer : Timer) :
    ({ r with target := t, rateClass := cls, stepTimer := timer } : RampRecord).Under c := ⟨h.1, ht, h.2.2⟩

theorem takeOpen {t : Gain} (ht : atOrBelow c t = true) (cls : RateClass) : (r.takeOpen t cls).Under c := by
  unfold RampRecord.takeOpen; split
  · exact h
  · exact h.atFloor ht rfl
  · split
    · exact ⟨h.1, ht, rfl⟩
    · exact h.retarget ht _ _
  · split <;> exact h.retarget ht _ _

theorem moveDuckLevel (hold : Nat) (t : Gain) : (r.moveDuckLevel hold t).Under c := by
  unfold RampRecord.moveDuckLevel; dsimp only; split
  · split
    · exact reachDuckLevel (h.of_gains (q := { r with duckLevel := some (duckLevelFor t) }) rfl (.inl rfl)) hold
    · exact h.of_gains rfl (.inl rfl)
  · exact h.of_gains rfl (.inl rfl)

theorem take (hold : Nat) {t : Gain} (ht : atOrBelow c t = true) (cls : RateClass) : (r.take hold t cls).record.Under c := by
  unfold RampRecord.take; split
  · exact h.takeOpen ht cls
  · exact h.retarget ht cls _
  · exact h.retarget ht cls _
  · exact moveDuckLevel (h.retarget ht cls _) hold t
  · exact moveDuckLevel (h.retarget ht cls _) hold t

/-- A step of an OPEN channel comes no nearer to the ceiling than its target (R112). -/
theorem stepOpen : r.stepOpen.Under c := by
  obtain ⟨h0, ht, hg⟩ := h
  unfold RampRecord.stepOpen; dsimp only; split
  · exact ⟨h0, ht, hg⟩
  next g e _ =>
    rw [e] at hg
    simp only [atOrBelow, decide_eq_true_eq] at hg
    split
    · exact ⟨h0, ht, rfl⟩
    · exact ⟨h0, ht, by simp only [atOrBelow, decide_eq_true_eq]; omega⟩
  next g t e et =>
    refine ⟨h0, ht, ?_⟩
    rw [e] at hg; rw [et] at ht
    simp only [atOrBelow, decide_eq_true_eq] at hg ht ⊢
    split
    · omega
    · split <;> omega

theorem stepDown (level : Int) (reached : RampRecord → RampRecord) (hr : ∀ q : RampRecord, q.Under c → (reached q).Under c) :
    (r.stepDown level reached).Under c := by
  obtain ⟨h0, ht, hg⟩ := h
  unfold RampRecord.stepDown; split
  · exact ⟨h0, ht, hg⟩
  next g e =>
    have below : atOrBelow c (.level (g - 1)) = true := by
      rw [e] at hg
      simp only [atOrBelow, decide_eq_true_eq] at hg ⊢
      omega
    split
    · exact hr _ ⟨h0, ht, below⟩
    · exact ⟨h0, ht, below⟩

theorem step (hold : Nat) : (r.step hold).record.Under c := by
  unfold RampRecord.step; split
  · exact h
  · split
    · exact h.stepOpen
    · exact h.stepDown _ _ fun _ hq => hq.fallSilent
    · exact h.stepDown _ _ fun _ hq => hq.reachDuckLevel hold
    · exact h.stepDown _ _ fun _ hq => hq
    · exact h.of_gains rfl (.inl rfl)

theorem holdEnds : r.holdEnds.record.Under c := by
  unfold RampRecord.holdEnds; split
  · exact h.fallSilent
  · exact h

end RampRecord.Under

/-! ### Every roster channel -/

theorem allDistinct_iff {α : Type} [DecidableEq α] (l : List α) : allDistinct l = true ↔ l.Nodup := by
  induction l with
  | nil => simp [allDistinct]
  | cons a l ih => simp [allDistinct, ih]

/-- In a roster of different channels an entry is known by its channel. -/
theorem roster_entry_unique {roster : List RosterEntry} (hd : allDistinct (roster.map RosterEntry.channel) = true)
    {d e : RosterEntry} (hm : d ∈ roster) (he : e ∈ roster) (hc : d.channel = e.channel) : d = e :=
  List.inj_on_of_nodup_map ((allDistinct_iff _).1 hd) hm he hc

theorem underCeilings_iff (s : State) :
    underCeilings s ↔ allDistinct (s.loader.image.roster.map RosterEntry.channel) = true ∧
      ∀ d ∈ s.loader.image.roster, (s.ramps.get d.channel).Under d.ceiling ∧
        atOrBelow d.ceiling (s.planner.channels.get d.channel).handedTarget = true := by
  refine and_congr_right fun _ => forall₂_congr fun d _ => ?_
  unfold RampRecord.Under
  tauto

theorem applyRamp_underCeilings {s : State} {n : Channel} {r : RampResult} (h : underCeilings s)
    (hr : ∀ c, (s.ramps.get n).Under c → r.record.Under c) : underCeilings (applyRamp n r s) := by
  rw [underCeilings_iff] at h ⊢
  simp only [applyRamp_keeps, applyRamp_get]
  refine ⟨h.1, fun d hd => ⟨?_, (h.2 d hd).2⟩⟩
  split
  next hn => exact hr _ (hn ▸ (h.2 d hd).1)
  next => exact (h.2 d hd).1

theorem removeClaim_underCeilings {s : State} (c : Claim) (n : Channel) (h : underCeilings s) :
    underCeilings (removeClaim c n s) := by
  rw [underCeilings_iff] at h ⊢
  refine ⟨h.1, fun d hd => ⟨?_, (h.2 d hd).2⟩⟩
  rw [removeClaim_get]; split
  next hn => exact (hn ▸ (h.2 d hd).1).remove c
  next => exact (h.2 d hd).1

/-- What handing a target writes: the planner's record of its channel, and the channel's own record when the target is another
one (R104, R105). -/
theorem handTarget_underCeilings {s : State} (cause : RateClass) {d : RosterEntry} (hd : d ∈ s.loader.image.roster)
    (h : underCeilings s) : underCeilings (handTarget cause s d) := by
  rw [underCeilings_iff] at h ⊢
  obtain ⟨hdis, hall⟩ := h
  have unique {e : RosterEntry} (he : e ∈ s.loader.image.roster) (hc : e.channel = d.channel) : e = d :=
    roster_entry_unique hdis he hd hc
  unfold handTarget; dsimp only; split
  next heq =>
    refine ⟨hdis, fun e he => ⟨(hall e he).1, ?_⟩⟩
    simp only [setPlanned_writes, PerChannel.get_set]
    split
    next hc => obtain rfl := unique he hc; exact (hall e he).2
    next => exact (hall e he).2
  next =>
    simp only [applyRamp_keeps, setPlanned_writes, applyRamp_get, PerChannel.get_set]
    refine ⟨hdis, fun e he => ?_⟩
    by_cases hc : e.channel = d.channel
    · obtain rfl := unique he hc
      simp only [if_true]
      exact ⟨(hall e he).1.take _ (atOrBelow_clampTarget _ _) _, atOrBelow_clampTarget _ _⟩
    · simp only [hc, if_false]
      exact hall e he

theorem underCeilings_rampInvariant : RampInvariant underCeilings where
  frame hst h := by
    simp only [rampState, Prod.mk.injEq] at hst
    obtain ⟨hr, hp, hi, -⟩ := hst
    simpa only [underCeilings, hr, hp, hi] using h
  hand cause _ _ hd h := handTarget_underCeilings cause hd h
  place c k n h := applyRamp_underCeilings h fun _ hn => hn.place _ c k
  remove n _ h := removeClaim_underCeilings _ n h
  step n h := applyRamp_underCeilings h fun _ hn => hn.step _
  hold n h := applyRamp_underCeilings h fun _ hn => hn.holdEnds
  move _ _ _ h := h
  ready {s} h := allChannels_invariant (P := underCeilings)
    (s := { s with controller := { s.controller with station := .ready, stabiliseTimer := none } })
    (fun _ n ht => removeClaim_underCeilings _ n ht) h

/-- A station without a roster has no ceiling to keep. -/
theorem underCeilings_of_no_roster {s : State} (h : s.loader.image.roster = []) : underCeilings s := by
  simp [underCeilings, h, allDistinct]

theorem effect_underCeilings {c : Instr} (hc : ∀ straps read b, c ≠ .startComplete straps read b) {s : State}
    (h : underCeilings s) : underCeilings (effect c s) := by
  have I := underCeilings_rampInvariant.toChannelInvariant
  cases hs : isStart c
  case false => exact I.effect hs h
  case true =>
    cases c
    all_goals try cases hs
    case powerOn.refl => exact underCeilings_of_no_roster rfl
    case startComplete.refl straps read b => exact absurd rfl (hc straps read b)
    case restart.refl rx n =>
      exact I.received rx (ifAddressed_invariant n fun _ _ => underCeilings_of_no_roster rfl) h

/-- Settles O56. -/
theorem gainsStayUnderTheirCeilings : Obligations.GainsStayUnderTheirCeilings := by
  intro s t hn h hst
  refine step_invariant (P := underCeilings) (fun _ _ hp => hp) (fun hp => ?_) (fun c rest hc hp => ?_) h hst
  · rw [underCeilings_iff] at hp ⊢
    refine ⟨hp.1, fun d hd => ⟨?_, (hp.2 d hd).2⟩⟩
    rw [timePasses_ramps]
    exact (hp.2 d hd).1
  · exact effect_underCeilings (fun straps read b e => hn straps read b rest (e ▸ hc)) hp

end Sys2Proof.Machine
end

section
/-! PROOFS. What a frame given for queueing can do to the queue (R167, R168, R170), and the rule of the properties of the queue: a
property that the operations on the queue keep is kept by every command. -/

namespace Sys2Proof.Machine

/-! ### A frame given for queueing -/

/-- What giving a frame can do (R167, R168, R170). -/
inductive GiveOutcome (b : FrameBody) (l : Link) : Link × Option FrameBody → Prop
  /-- Not admitted, or dropped from a full queue: the frame has ended. -/
  | ended (k : LinkCounters) : GiveOutcome b l ({ l with counters := k }, some b)
  /-- Equal in generation to a SCENE on the line. -/
  | onTheLine (k : LinkCounters) : GiveOutcome b l ({ l with counters := k }, none)
  | replaces (w : List QueuedFrame) : replaceIn b l.waiting = some w → GiveOutcome b l ({ l with waiting := w }, none)
  | takesPlace : replaceIn b l.waiting = none → sceneInTransmission b l = none → l.placesHeld < 8 →
      GiveOutcome b l (l.insert b, none)
  | displaces (g : QueuedFrame) : replaceIn b l.waiting = none → sceneInTransmission b l = none →
      g ∈ l.waiting → b.rank < g.body.rank → ¬l.placesHeld < 8 →
      GiveOutcome b l (({ l with waiting := l.waiting.erase g }).countDrop.insert b, some g.body)

theorem sceneInTransmission_eq_none {b : FrameBody} {l : Link}
    (h : ∀ a c, b = .scene a → ¬sceneInTransmission b l = some c) : sceneInTransmission b l = none := by
  cases hc : sceneInTransmission b l with
  | none => rfl
  | some c =>
    cases b with
    | scene a => exact absurd hc (h a c rfl)
    | _ => cases hc

theorem give_outcome (admits : Bool) (b : FrameBody) (l : Link) : GiveOutcome b l (l.give admits b) := by
  unfold Link.give
  split
  · exact .ended l.counters
  · split
    next w hw => exact .replaces w hw
    next hr =>
      split
      next a c hs =>
        split
        · exact .onTheLine l.counters
        · exact .onTheLine _
      next hs =>
        have hn := sceneInTransmission_eq_none hs
        split
        next hp => exact .takesPlace hr hn hp
        next hp =>
          split
          next g hg => exact .displaces g hr hn (youngestAbove_spec hg).1 (youngestAbove_spec hg).2 hp
          next => exact .ended _

theorem timerNotice_link (b : FrameBody) (s : State) : (timerNotice b s).link = s.link := by simp

theorem placeClaim_link (c : Claim) (k : SilencingKind) (n : Channel) (s : State) : (placeClaim c k n s).link = s.link := by
  simp only [placeClaim_keeps]

theorem enterRailUp_link (s : State) : (enterRailUp s).link = s.link := by simp

theorem duckFlagClear_link (s : State) : (duckFlagClear s).link = s.link := by simp

/-! ### Properties of the queue -/

/-- The refresh of a waiting PRESENCE with the report `r` (R55). -/
def Link.refreshed (r : Report) (l : Link) : Link :=
  { l with waiting := l.waiting.map fun f => if f.body.isPresence then { f with body := .presence r } else f }

/-- The frame that was on the line waits again (R163). -/
def Link.requeued (f : QueuedFrame) (l : Link) : Link :=
  { l with sending := none, waiting := insertFrame { f with lostArbitration := true } l.waiting }

/-- A property of the queue that the operations on it keep. -/
structure QueueInvariant (Q : Link → Prop) : Prop where
  fewer : ∀ {l m : Link}, (m.waiting.map QueuedFrame.body).Sublist (l.waiting.map QueuedFrame.body) →
    m.sendingBody = l.sendingBody ∨ m.sendingBody = none → Q l → Q m
  give : ∀ {l : Link} (admits : Bool) {b : FrameBody}, (b.kind = .answer → l.answersHeld < 4) → Q l →
    Q (l.give admits b).1
  refresh : ∀ {l : Link} (r : Report), Q l → Q (l.refreshed r)
  start : ∀ {l : Link}, l.sending = none → Q l → Q l.start
  again : ∀ {l : Link} {f : SendingFrame}, l.sending = some f → l.waits f.frame.body.sharesPlace = false → Q l →
    Q (l.requeued f.frame)

namespace QueueInvariant

variable {Q : Link → Prop} (I : QueueInvariant Q) {s : State}
include I

/-- Nothing of the bodies held changes. -/
theorem same {l m : Link} (hw : m.waiting.map QueuedFrame.body = l.waiting.map QueuedFrame.body)
    (hs : m.sendingBody = l.sendingBody) (h : Q l) : Q m :=
  I.fewer (by rw [hw]) (.inl hs) h

/-- Counters, timers and flags do not matter. -/
theorem sameFrames {l m : Link} (h : Q l) (hw : m.waiting = l.waiting) (hs : m.sending = l.sending) : Q m :=
  I.same (l := l) (by rw [hw]) (by simp only [Link.sendingBody, hs]) h

theorem lineFrameEnded {l : Link} (h : Q l) : Q l.lineFrameEnded :=
  I.same (l := l) (by simp [Link.lineFrameEnded, Function.comp_def]) rfl h

theorem withdraw {l : Link} (fits : FrameBody → Bool) (h : Q l) : Q (l.withdraw fits) :=
  I.fewer (List.eraseP_sublist.map _) (.inl rfl) h

omit I in
theorem of_link {t : State} (e : t.link = s.link) (h : Q s.link) : Q t.link := by rwa [e]

/-! #### Frames given by the blocks -/

theorem queueSpeedOffer (o : Offer) (h : Q s.link) : Q (queueSpeedOffer o s).link := by
  unfold Machine.queueSpeedOffer; dsimp only
  have hg := I.give (admitsFrames s) (b := .offer o) nofun h
  split
  · exact hg
  · split
    · exact hg
    · exact of_link (timerNotice_link _ _) hg

theorem offerCheck (h : Q s.link) : Q (offerCheck s).link := by
  unfold Machine.offerCheck; repeat' split
  · exact I.queueSpeedOffer _ h
  · exact h
  · exact h

theorem offerEnds (h : Q s.link) : Q (offerEnds s).link := I.offerCheck h

theorem frameEnds (b : FrameBody) (h : Q s.link) : Q (frameEnds b s).link := by
  unfold Machine.frameEnds; split
  · exact I.offerEnds h
  · exact of_link (by simp) h

theorem giveFrame {b : FrameBody} (hb : b.kind = .answer → s.link.answersHeld < 4) (h : Q s.link) :
    Q (giveFrame b s).link := by
  unfold Machine.giveFrame; dsimp only
  have hg := I.give (admitsFrames s) hb h
  split
  · exact hg
  · exact I.frameEnds _ hg

theorem queueAlert (a : AlertSubject) (x : AlertState) (h : Q s.link) : Q (queueAlert a x s).link := I.giveFrame nofun h

theorem presenceRunsOut (h : Q s.link) : Q (presenceRunsOut s).link := I.giveFrame nofun h

theorem startFirstPresence (h : Q s.link) : Q (startFirstPresence s).link := by
  unfold Machine.startFirstPresence; split
  · exact I.presenceRunsOut h
  · exact h

theorem dropWaiting (h : Q s.link) : Q (dropWaiting s).link :=
  I.fewer (l := s.link) (List.nil_sublist _) (.inl rfl) h

theorem queueApplied (h : Q s.link) : Q (queueApplied s).link := by
  unfold Machine.queueApplied; split
  · exact I.giveFrame nofun h
  · exact h

theorem queueFetch (g : Generation) (h : Q s.link) : Q (queueFetch g s).link := I.giveFrame nofun h

theorem queueFetchOnce (g : Generation) (h : Q s.link) : Q (queueFetchOnce g s).link := by
  unfold Machine.queueFetchOnce; split
  · exact h
  · exact I.queueFetch g h

theorem announce (h : Q s.link) : Q (announce s).link := by
  unfold Machine.announce; split
  · exact h
  · exact I.queueApplied h

theorem enterResync (g : Generation) (h : Q s.link) : Q (enterResync g s).link := I.queueFetch g h

theorem checkIfChanged (d : Nat) (h : Q s.link) : Q (checkIfChanged d s).link := by
  unfold Machine.checkIfChanged; split
  · exact h
  · exact I.offerCheck h

/-! #### Station faults and the station's changes of state -/

theorem askConflict (h : Q s.link) : Q (askConflict s).link := by
  have dropped (t : State) (ht : t.link = s.link) : Q (Machine.dropWaiting t).link := I.dropWaiting (of_link ht h)
  unfold Machine.askConflict; split
  iterate 2 exact h
  all_goals exact dropped _ (by simp)

theorem raiseFault (f : StationFault) (h : Q s.link) : Q (raiseFault f s).link := by
  unfold Machine.raiseFault; dsimp only
  split
  · exact h
  · have hq := I.queueAlert (.station f) .active (s := withDemand (markFault f) s) (of_link (by simp) h)
    split
    · exact of_link (by simp) hq
    · exact of_link (by simp) hq
    · exact of_link (by simp) hq
    · exact I.askConflict hq
    all_goals exact hq

theorem reportConflict (h : Q s.link) : Q (reportConflict s).link := I.raiseFault _ (I.sameFrames h rfl rfl)

theorem enterResting (h : Q s.link) : Q (enterResting s).link := by
  unfold Machine.enterResting; dsimp only
  have hd : Q (Machine.dropWaiting
    { s with controller := { s.controller with station := .resting, rail := .off, stop := .rest } }).link := I.dropWaiting h
  split
  · exact hd
  · exact of_link (by simp) hd

theorem wake (h : Q s.link) : Q (wake s).link := by
  unfold Machine.wake; dsimp only
  split
  · refine I.startFirstPresence (of_link ?_ h)
    split <;> simp
  · exact h

theorem goodFrame (h : Q s.link) : Q (goodFrame s).link := by
  have hl := I.lineFrameEnded h
  unfold Machine.goodFrame frameHeard; dsimp only
  split
  · refine I.sameFrames hl ?_ ?_
    all_goals rw [duckFlagClear_link]
    all_goals split <;> simp
  · exact I.sameFrames hl rfl rfl

theorem finish (h : Q s.link) : Q (finish s).link := by
  have hs : Q (takeSilence s).link := of_link (by simp) h
  exact I.refresh _ hs

theorem received (rx : Reception) {handle : State → State} (handled : ∀ t : State, Q t.link → Q (handle t).link)
    (h : Q s.link) : Q (received rx handle s).link :=
  I.finish (receive_invariant (P := fun t => Q t.link) rx handle (I.goodFrame h) (fun _ ht => I.reportConflict ht)
    (fun _ ht => I.wake ht) handled)

theorem receivedUnheard (n : Station) {handle : State → State} (handled : ∀ t : State, Q t.link → Q (handle t).link)
    (h : Q s.link) : Q (Machine.finish (receiveUnheard n handle s)).link :=
  I.finish (receiveUnheard_invariant (P := fun t => Q t.link) n handle (I.goodFrame h) (fun _ ht => I.reportConflict ht)
    handled)

/-! #### The Scene Agreement Unit -/

theorem applyStaged (h : Q s.link) : Q (applyStaged s).link := by
  unfold Machine.applyStaged; split
  · exact h
  · exact I.announce (of_link (by simp) h)

theorem markEvent (o : MarkOrder) (h : Q s.link) : Q (markEvent o s).link := by
  have turn (b : Bool) (f : State → State) (hf : ∀ t : State, Q t.link → Q (f t).link) (t : State)
      (ht : Q t.link) : Q (inTurn b f t).link := by
    unfold inTurn; split
    · exact hf t ht
    · exact ht
  have bank (t : State) (ht : Q t.link) : Q (bankMark t).link := ht
  have planner (t : State) (ht : Q t.link) : Q (plannerMark t).link := of_link (by simp) ht
  have unit (t : State) (ht : Q t.link) : Q (resyncAtMark (stagePending t)).link := of_link (by simp) ht
  exact turn _ _ bank _ (turn _ _ unit _ (turn _ _ bank _ (turn _ _ planner _ (turn _ _ (fun _ ht => I.applyStaged ht) _
    (turn _ _ planner _ (turn _ _ bank _ h))))))

theorem takeMark (n : CycleNumber) (o : MarkOrder) (h : Q s.link) : Q (takeMark n o s).link :=
  I.markEvent o (of_link (s := { s with link := s.link.withdraw FrameBody.isMark }) (by simp) (I.withdraw _ h))

theorem takeOffer (n : Station) (o : Offer) (h : Q s.link) : Q (takeOffer n o s).link := by
  unfold Machine.takeOffer measureOffer
  repeat' split
  all_goals first | exact h | skip
  · exact I.sameFrames h rfl rfl
  · exact I.queueApplied (I.sameFrames h rfl rfl)
  · exact I.enterResync _ h
  all_goals exact I.sameFrames h rfl rfl

theorem watchOffer (o : Offer) (h : Q s.link) : Q (watchOffer o s).link := by
  unfold Machine.watchOffer; split
  · exact I.offerEnds (I.withdraw _ h)
  · exact h

theorem leaveProvisional (a : AppliedScene) (h : Q s.link) : Q (leaveProvisional a s).link :=
  I.announce (of_link (by simp) h)

theorem takeScene (sc : Scene) (h : Q s.link) : Q (takeScene sc s).link := by
  unfold Machine.takeScene; dsimp only
  have hw : Q (withdrawScene sc s).link := I.withdraw _ h
  split
  · split
    · exact I.leaveProvisional _ hw
    · exact of_link (by simp) hw
    · exact of_link (by simp) hw
  · exact h

theorem takeFetch (g : Option Generation) (h : Q s.link) : Q (takeFetch g s).link := by
  unfold Machine.takeFetch; repeat' split
  all_goals first | exact h | exact I.queueApplied h | exact I.giveFrame nofun h

theorem takeReport (g : Generation) (d : Digest) (h : Q s.link) : Q (takeReport g d s).link := by
  unfold Machine.takeReport reportInAgreed reportInResync; dsimp only
  repeat' split
  all_goals first
    | exact h | exact I.queueFetchOnce _ h | exact I.enterResync _ h | exact I.queueFetch _ h

theorem takePresence (n : Station) (f : PresenceFrame) (h : Q s.link) : Q (takePresence n f s).link := by
  unfold Machine.takePresence; split
  · exact h
  · unfold recordReport; dsimp only
    split
    · exact h
    · unfold reportGeneration
      split
      · refine I.takeReport _ _ (of_link ?_ h)
        repeat' split
        all_goals simp
      · refine of_link ?_ h
        repeat' split
        all_goals simp

theorem takeSpeed (n : Station) (v : Nat) (b : Bool) (h : Q s.link) : Q (takeSpeed n v b s).link := by
  unfold Machine.takeSpeed; split
  · exact I.offerCheck h
  · exact h

theorem respond (n : Station) (p : Probe) (i : ItemSelector) (c : State → AnswerContents) (h : Q s.link) :
    Q (respond n p i c s).link := by
  unfold Machine.respond; repeat' split
  · exact I.sameFrames h rfl rfl
  next hlt => exact I.giveFrame (fun _ => by omega) h
  · exact h

theorem handleRest (w : Bool) (h : Q s.link) : Q (handleRest w s).link := by
  unfold Machine.handleRest takeRest
  split
  · exact I.sameFrames h rfl rfl
  · split
    iterate 3 exact of_link (by simp) h
    iterate 2 exact I.enterResting h
    all_goals exact h

/-! #### The monitor -/

theorem silenceChannel (f : ChannelFault) (k : SilencingKind) (d : RecordState) (n : Channel) (h : Q s.link) :
    Q (silenceChannel f k d n s).link :=
  of_link (placeClaim_link _ _ _ _) (I.queueAlert (s := s.setRecord n _) _ _ h)

theorem reportFault (f : ChannelFault) (n : Channel) (h : Q s.link) : Q (reportFault f n s).link := by
  unfold Machine.reportFault; dsimp only; split
  · exact h
  · exact I.queueAlert _ _ h

theorem takeOvercurrent (n : Channel) (h : Q s.link) : Q (takeOvercurrent n s).link := by
  unfold Machine.takeOvercurrent overcurrentStrikes; dsimp only
  repeat' split
  all_goals first | exact h | exact I.silenceChannel _ _ _ _ h | exact I.reportFault _ _ h

theorem judgeOffset (n : Channel) (v : Int) (h : Q s.link) : Q (judgeOffset n v s).link := by
  have onDip {t : State} (ht : Q t.link) (k : SilencingKind) : Q (offsetOnDip k n t).link := by
    unfold offsetOnDip; dsimp only
    refine of_link (placeClaim_link _ _ _ _) ?_
    split
    · exact ht
    · exact I.queueAlert _ _ ht
  have onWait {t : State} (ht : Q t.link) (k : SilencingKind) : Q (offsetOnWait k n t).link :=
    of_link (placeClaim_link _ _ _ _) (I.queueAlert _ _ ht)
  have latched {t : State} (ht : Q t.link) (k : SilencingKind) : Q (latchOffset k n t).link := by
    unfold latchOffset; split
    · exact I.silenceChannel _ _ _ _ ht
    · exact I.silenceChannel _ _ _ _ ht
    · exact onDip ht k
    · exact onWait ht k
    · exact ht
  have reported {t : State} (ht : Q t.link) : Q (reportOffset n t).link := by
    unfold reportOffset; split
    iterate 2 exact I.reportFault _ _ ht
    all_goals exact ht
  have recognised {t : State} (ht : Q t.link) : Q (offsetRecognised n t).link := by
    unfold offsetRecognised; dsimp only; split
    · exact latched (t := t.setRecord n _) ht _
    · exact reported (t := t.setRecord n _) ht
    · exact ht
  unfold Machine.judgeOffset; dsimp only; split
  · exact h
  · exact recognised h
  · exact h

theorem turnFault (f : StationFault) (b : Bool) {clear : State → State} (t : ConditionTurn)
    (hc : ∀ u : State, (clear u).link = u.link) (h : Q s.link) : Q (turnFault f b clear t s).link := by
  unfold Machine.turnFault; repeat' split
  · exact h
  · exact I.raiseFault f h
  · exact h
  · exact of_link (hc s) h

theorem judgeSlot (slot : Fin 10) (v : Int) (h : Q s.link) : Q (judgeSlot slot v s).link := by
  unfold Machine.judgeSlot judgeRail judgeTemperature; dsimp only
  repeat' split
  · exact I.judgeOffset _ _ h
  · exact h
  · exact I.turnFault _ _ _ (by simp) (I.turnFault _ _ _ (by simp) (I.turnFault _ _ _ (by simp) h))
  · exact h
  · exact I.turnFault _ _ _ (by simp) (I.turnFault _ _ _ (by simp) h)
  · exact h

theorem takeClip (n : Channel) (h : Q s.link) : Q (takeClip n s).link := by
  unfold Machine.takeClip limitClip reportClip; dsimp only
  repeat' split
  · exact I.queueAlert _ _ (of_link (by simp) h)
  · exact of_link (by simp) h
  · exact I.reportFault _ _ h
  all_goals exact h

theorem takeWakeLine (h : Q s.link) : Q (takeWakeLine s).link := by
  unfold Machine.takeWakeLine; split
  · exact I.wake h
  · exact of_link (by simp [endRest]) h
  · exact I.sameFrames h (by simp [freshStart]) (by simp [freshStart])
  all_goals exact h

/-! #### The own frames on the line -/

/-- The own frame leaves the line; it has ended. -/
theorem off {l m : Link} (h : Q l) (hw : m.waiting.map QueuedFrame.body = l.waiting.map QueuedFrame.body)
    (hs : m.sending = none) : Q m :=
  I.fewer (l := l) (by rw [hw]) (.inr (by simp [Link.sendingBody, hs])) h

theorem completed (a : Bool) (h : Q s.link) : Q (completed a s).link :=
  I.off h (by simp [Machine.completed, Link.lineFrameEnded, Function.comp_def]) rfl

theorem ended {f : SendingFrame} {work : State → State} (hw : ∀ t : State, Q t.link → Q (work t).link) (h : Q s.link) :
    Q (unlessOrphan f work s).link := by
  unfold unlessOrphan; split
  · exact h
  · exact I.finish (hw _ h)

theorem arbitrationLost (h : Q s.link) : Q (effect .arbitrationLost s).link := by
  rw [effect_arbitrationLost]
  split
  · exact h
  next f hf =>
    have dropped : Q (droppedOut s).link := I.off h rfl rfl
    unfold unlessOrphan waitAgain
    split
    · exact dropped
    · refine I.finish ?_
      split
      · split
        · exact dropped
        next hw => exact I.sameFrames (I.again hf (by simpa [Link.waits] using hw) h) rfl rfl
      · exact I.frameEnds _ dropped

theorem lineTimeOut (h : Q s.link) : Q (effect .lineTimeOut s).link := by
  have timed : Q s.link.timedOut := I.fewer (l := s.link) (List.filter_sublist.map _) (.inr rfl) h
  have key : ∀ (l : List FrameBody) (t : State), Q t.link → Q (l.foldl (fun s b => Machine.frameEnds b s) t).link := by
    intro l
    induction l with
    | nil => exact fun _ ht => ht
    | cons b l ih => exact fun t ht => ih _ (I.frameEnds b ht)
  exact key _ _ timed

/-! #### Every command -/

theorem startComplete (straps : Station) (read : ImageRead) (b : Bool) (h : Q s.link) :
    Q (startComplete straps read b s).link := by
  have alert (f : StationFault) (p : PerFault Bool) {t : State} (ht : Q t.link) : Q (alertIfNew f p t).link := by
    unfold alertIfNew; split
    · exact I.queueAlert _ _ ht
    · exact ht
  have leave (d : StationState) (p : PerFault Bool) {t : State} (ht : Q t.link) : Q (leaveStarting d p t).link := by
    have timed (u : State) : (startTimers u).link = u.link := by unfold startTimers; dsimp only; split <;> rfl
    have first {u : State} (hu : u.link = t.link) :
        Q (Machine.startFirstPresence (alertIfNew .eqMemory p (alertIfNew .configBad p u))).link :=
      I.startFirstPresence (alert _ _ (alert _ _ (of_link hu ht)))
    unfold leaveStarting; dsimp only
    split
    · refine of_link (enterRailUp_link _) (first ?_)
      split
      · rfl
      · rw [timed]
    · refine first ?_
      split
      · rfl
      · rw [timed]
  refine leave _ _ (of_link ?_ h)
  unfold selfTested afterCheck
  repeat' split
  all_goals simp [takeImage, configBad, freshStartFailed, firstStart]

theorem clearCounts (h : Q s.link) : Q (clearCounts s).link := I.sameFrames h rfl rfl

theorem effect {c : Instr} (hc : c ≠ .powerOn) (hr : ∀ rx n, c ≠ .restart rx n) (h : Q s.link) : Q (effect c s).link := by
  have quiet (rx : Reception) {handle : State → State} (hh : ∀ t : State, (handle t).link = t.link) :
      Q (Machine.received rx handle s).link := I.received rx (fun t ht => of_link (hh t) ht) h
  have probe (rx : Reception) (p : Probe) (i : ItemSelector) (k : State → AnswerContents) :
      Q (Machine.received rx (Machine.respond rx.sender p i k) s).link :=
    I.received rx (fun _ ht => I.respond _ _ _ _ ht) h
  cases c
  case powerOn => exact absurd rfl hc
  case restart rx n => exact absurd rfl (hr rx n)
  case startComplete =>
    rw [effect_startComplete]; split
    · exact I.finish (I.startComplete _ _ _ h)
    · exact h
  case markReceived => exact I.received _ (fun _ ht => I.takeMark _ _ ht) h
  case alertReceived => exact I.received _ (fun _ ht => I.sameFrames ht rfl rfl) h
  case offerReceived => exact I.received _ (fun _ ht => I.watchOffer _ (I.takeOffer _ _ ht)) h
  case sceneReceived => exact I.received _ (fun _ ht => I.takeScene _ ht) h
  case speedReceived => exact I.received _ (fun _ ht => I.takeSpeed _ _ _ ht) h
  case fetchReceived => exact I.received _ (fun _ ht => I.takeFetch _ ht) h
  case presenceReceived => exact I.received _ (fun _ ht => I.takePresence _ _ ht) h
  case clearFaults rx n k =>
    exact I.received _ (ifAddressed_invariant (P := fun t => Q t.link) n fun _ ht => of_link (by simp) ht) h
  case clearSticky rx n k => exact I.received _ (ifAddressed_invariant (P := fun t => Q t.link) n fun _ ht => ht) h
  case clearCounts rx n =>
    exact I.received _ (ifAddressed_invariant (P := fun t => Q t.link) n fun _ ht => I.clearCounts ht) h
  case restReceived => exact I.receivedUnheard (s := withWakeLine _ s) _ (fun _ ht => I.handleRest _ ht) h
  case probeStation rx p w =>
    exact I.received (s := withWakeLine w s) rx (fun _ ht => I.respond _ _ _ _ ht) h
  case probeSceneApplied | probeSceneStaged | probePending | probePeer | probeChannel | probeLinkCounts | probeSpeed
    | probeConfig | probeUnknownItem => exact probe _ _ _ _
  case answerReceived => exact quiet _ fun _ => rfl
  case checkError => exact I.sameFrames (I.lineFrameEnded h) rfl rfl
  case malformedFrame => exact I.receivedUnheard _ (fun _ ht => ht) h
  case numberConflict => exact I.receivedUnheard _ (fun _ ht => ht) h
  case frameStart =>
    rw [effect_frameStart]; split
    next hs => exact I.start hs.2 (I.lineFrameEnded h)
    next => exact h
  case arbitrationLost => exact I.arbitrationLost h
  case ownMarkComplete =>
    rw [effect_ownMarkComplete]; repeat' split
    case h_1 =>
      refine I.ended (fun t ht => ?_) (I.completed _ h)
      unfold ownMark; split
      · exact ht
      · exact I.markEvent _ (of_link (by simp) ht)
    all_goals exact h
  case ownOfferComplete =>
    rw [effect_ownOfferComplete]; repeat' split
    case h_1 => exact I.ended (fun t ht => I.offerEnds (I.takeOffer _ _ ht)) (I.completed _ h)
    all_goals exact h
  case ownPresenceComplete =>
    rw [effect_ownPresenceComplete]; repeat' split
    case h_1 => exact I.ended (fun t ht => of_link (by simp) ht) (I.completed _ h)
    all_goals exact h
  case ownFrameComplete =>
    rw [effect_ownFrameComplete]; repeat' split
    all_goals first | exact h | exact I.completed _ h
  case lineTimeOut => exact I.lineTimeOut h
  case cycleTimerExpiry =>
    rw [effect_cycleTimerExpiry]; split
    · exact I.giveFrame nofun h
    all_goals exact h
  case presenceTimerExpiry =>
    rw [effect_presenceTimerExpiry]; split
    · exact I.presenceRunsOut h
    all_goals exact h
  case joinWindowExpiry =>
    rw [effect_joinWindowExpiry]; split
    · refine I.finish ?_
      unfold joinWindowEnds; split
      · exact I.leaveProvisional _ h
      · exact h
    · exact h
  case fetchTimerExpiry =>
    rw [effect_fetchTimerExpiry]
    unfold fetchTimerEnds; repeat' split
    · exact h
    · exact I.queueFetch _ h
    · exact I.sameFrames h rfl rfl
    · exact h
  case speedStale =>
    rw [effect_speedStale]; split
    · exact I.checkIfChanged _ h
    · exact h
  case fallTimerExpiry =>
    rw [effect_fallTimerExpiry]; split
    · exact I.checkIfChanged _ h
    · exact h
  case offerSpacingExpiry =>
    rw [effect_offerSpacingExpiry]; split
    · exact I.offerCheck h
    · exact h
  case isolationTimerExpiry =>
    rw [effect_isolationTimerExpiry]; split
    · exact I.sameFrames h (by simp) (by simp)
    · exact h
  case senseSlot =>
    rw [effect_senseSlot]; split
    · exact I.finish (I.judgeSlot (s := slotRead _ _ s) _ _ h)
    · exact h
  case overcurrentFlag =>
    rw [effect_overcurrentFlag]; split
    · exact I.finish (I.takeOvercurrent _ h)
    · exact h
  case clipFlag =>
    rw [effect_clipFlag]; split
    · exact I.finish (I.takeClip _ h)
    · exact h
  case railGoodLoss =>
    rw [effect_railGoodLoss]; split
    · exact I.finish (I.raiseFault _ h)
    · exact h
  case railGoodTimerExpiry =>
    rw [effect_railGoodTimerExpiry]; split
    · exact I.finish (I.raiseFault _ h)
    · exact h
  case downTimerExpiry =>
    rw [effect_downTimerExpiry]; split
    · exact I.finish (I.enterResting h)
    · exact h
  case wakeLineRise => exact I.finish (I.takeWakeLine h)
  case peerSilent | settleTimerExpiry | preparationTimerExpiry | riseGuardExpiry | budgetTimerExpiry =>
    refine of_link ?_ h
    simp only [effect_peerSilent, effect_settleTimerExpiry, effect_preparationTimerExpiry, effect_riseGuardExpiry,
      effect_budgetTimerExpiry]
    repeat' split
    all_goals rfl
  case peerLost =>
    rw [effect_peerLost]; repeat' split
    · exact I.finish (of_link (by simp) h)
    all_goals exact h
  case railGoodArrival =>
    rw [effect_railGoodArrival]; dsimp only; split
    · exact I.finish (of_link (by simp) h)
    · exact h
  case duckTimerExpiry | stepTimerExpiry | duckHoldExpiry | clipFallTimerExpiry | retryTimerExpiry | railRetryTimerExpiry
    | stabiliseTimerExpiry =>
    simp only [effect_duckTimerExpiry, effect_stepTimerExpiry, effect_duckHoldExpiry, effect_clipFallTimerExpiry,
      effect_retryTimerExpiry, effect_railRetryTimerExpiry, effect_stabiliseTimerExpiry]
    split
    · exact I.finish (of_link (by simp) h)
    · exact h

end QueueInvariant

end Sys2Proof.Machine
end

section
/-! PROOFS. The queue keeps its limits (R167, R168): O57. -/

namespace Sys2Proof.Machine

/-! ### What the limits count -/

/-- The generation a SCENE carries. -/
def FrameBody.generation : FrameBody → Option Generation
  | .scene sc => some sc.generation
  | .mark _ | .alert _ | .offer _ | .fetch _ | .presence _ | .answer _ => none

/-- What the limits of the queue see of a frame: its kind, and the generation of a SCENE. -/
def FrameBody.summary (b : FrameBody) : FrameKind × Option Generation := (b.kind, b.generation)

/-- The waiting frames as the limits see them. -/
def Link.places (l : Link) : List (FrameKind × Option Generation) := l.waiting.map fun f => f.body.summary

/-- The frame on the line as the limits see it. -/
def Link.onLine (l : Link) : Option (FrameKind × Option Generation) := l.sendingBody.map FrameBody.summary

/-- How many of the places are of a kind. -/
def countKind (k : FrameKind) (w : List (FrameKind × Option Generation)) : Nat := w.countP fun x => decide (x.1 = k)

/-- The generations of the SCENEs among the places. -/
def generations (w : List (FrameKind × Option Generation)) : List Generation := w.filterMap Prod.snd

theorem placesHeld_eq (l : Link) : l.placesHeld = (l.onLine.toList ++ l.places).length := by
  unfold Link.placesHeld Link.places Link.onLine Link.sendingBody
  cases l.sending <;> simp

theorem answersHeld_eq (l : Link) : l.answersHeld = countKind .answer (l.onLine.toList ++ l.places) := by
  unfold Link.answersHeld Link.places Link.onLine countKind
  have waiting : (l.waiting.filter fun f => decide (f.body.kind = .answer)).length =
      (l.waiting.map fun f => f.body.summary).countP fun x => decide (x.1 = .answer) := by
    rw [List.countP_map, List.countP_eq_length_filter]; rfl
  rw [waiting, List.countP_append, Nat.add_comm]
  cases l.sendingBody with
  | none => simp
  | some b => simp [List.countP_cons, FrameBody.summary]

theorem marksWaiting_eq (l : Link) : (l.waiting.filter fun f => f.body.isMark).length = countKind .mark l.places := by
  have kind (f : QueuedFrame) : f.body.isMark = decide (f.body.summary.1 = .mark) := by cases f.body <;> rfl
  unfold countKind Link.places
  rw [List.countP_map, List.countP_eq_length_filter]
  simp only [kind, Function.comp_def]

theorem presencesWaiting_eq (l : Link) :
    (l.waiting.filter fun f => f.body.isPresence).length = countKind .presence l.places := by
  have kind (f : QueuedFrame) : f.body.isPresence = decide (f.body.summary.1 = .presence) := by cases f.body <;> rfl
  unfold countKind Link.places
  rw [List.countP_map, List.countP_eq_length_filter]
  simp only [kind, Function.comp_def]

theorem sceneGenerations_eq (l : Link) : l.sceneGenerations = generations (l.onLine.toList ++ l.places) := by
  have gen : (fun b : FrameBody => match b with
      | .scene sc => some sc.generation
      | .mark _ | .alert _ | .offer _ | .fetch _ | .presence _ | .answer _ => none) = FrameBody.generation := by
    funext b; cases b <;> rfl
  unfold Link.sceneGenerations generations Link.onLine Link.places
  rw [List.filterMap_append, List.filterMap_append, List.filterMap_map, List.filterMap_map]
  congr 1
  cases l.sendingBody with
  | none => rfl
  | some b => cases b <;> rfl

/-! ### What the operations on the queue do to the places -/

theorem summary_of_replacedBy {new old : FrameBody} (h : replacedBy new old = true) : new.summary = old.summary := by
  cases new <;> cases old <;> simp_all [replacedBy, FrameBody.summary, FrameBody.kind, FrameBody.generation]

theorem replaceIn_places {new : FrameBody} {l l' : List QueuedFrame} (h : replaceIn new l = some l') :
    l'.map (fun f => f.body.summary) = l.map fun f => f.body.summary := by
  induction l generalizing l' with
  | nil => cases h
  | cons f rest ih =>
    unfold replaceIn at h
    split at h
    next hr => cases h; simp [summary_of_replacedBy hr]
    next =>
      split at h
      · cases h
      next rest' hr => cases h; simp [ih hr]

/-- A frame that replaces none: no waiting one gives it its place. -/
theorem replacedBy_eq_false {new : FrameBody} {l : List QueuedFrame} (h : replaceIn new l = none) {f : QueuedFrame}
    (hf : f ∈ l) : replacedBy new f.body = false := by
  induction l with
  | nil => cases hf
  | cons g rest ih =>
    unfold replaceIn at h
    split at h
    · cases h
    next hg =>
      split at h
      next hr =>
        rcases List.mem_cons.1 hf with rfl | hm
        · simpa using hg
        · exact ih hr hm
      · cases h

theorem insert_places (b : FrameBody) (l : Link) : (l.insert b).places.Perm (b.summary :: l.places) :=
  (insertFrame_perm _ _).map fun f : QueuedFrame => f.body.summary

theorem refreshed_places (r : Report) (l : Link) : (l.refreshed r).places = l.places := by
  unfold Link.refreshed Link.places
  rw [List.map_map]
  refine List.map_congr_left fun f _ => ?_
  cases hb : f.body <;> simp [hb, FrameBody.isPresence, FrameBody.summary, FrameBody.kind, FrameBody.generation]

/-! ### Properties of the places -/

/-- A property of the places that the operations on the queue keep. -/
structure PlaceInvariant (R : List (FrameKind × Option Generation) → Option (FrameKind × Option Generation) → Prop) : Prop where
  fewer : ∀ {w v : List (FrameKind × Option Generation)} {x y : Option (FrameKind × Option Generation)},
    v.Sublist w → y = x ∨ y = none → R w x → R v y
  perm : ∀ {w v : List (FrameKind × Option Generation)} {x : Option (FrameKind × Option Generation)}, v.Perm w → R w x → R v x
  /-- A frame that replaces none takes a place, free or another's. -/
  takes : ∀ {l : Link} {b : FrameBody} {v : List (FrameKind × Option Generation)}, (b.kind = .answer → l.answersHeld < 4) →
    replaceIn b l.waiting = none → sceneInTransmission b l = none → v.Sublist l.places →
    (v.length < l.places.length ∨ l.placesHeld < 8) → R l.places l.onLine → R (b.summary :: v) l.onLine
  start : ∀ {w : List (FrameKind × Option Generation)} {x : FrameKind × Option Generation}, R (x :: w) none → R w (some x)
  again : ∀ {l : Link} {b : FrameBody}, l.waits b.sharesPlace = false → R l.places (some b.summary) →
    R (b.summary :: l.places) none

theorem PlaceInvariant.toQueueInvariant
    {R : List (FrameKind × Option Generation) → Option (FrameKind × Option Generation) → Prop} (I : PlaceInvariant R) :
    QueueInvariant fun l => R l.places l.onLine where
  fewer {l m} hw hs h := by
    refine I.fewer ?_ ?_ h
    · simpa [Link.places, Function.comp_def] using hw.map FrameBody.summary
    · rcases hs with hs | hs <;> simp [Link.onLine, hs]
  give {l} admits b hb h := by
    have out := give_outcome admits b l
    generalize l.give admits b = g at out
    cases out with
    | ended k => exact h
    | onTheLine k => exact h
    | replaces w hw =>
      have hp : ({ l with waiting := w } : Link).places = l.places := replaceIn_places hw
      rw [hp]; exact h
    | takesPlace hr hs hp => exact I.perm (insert_places b l) (I.takes (l := l) hb hr hs (List.Sublist.refl _) (.inr hp) h)
    | displaces g hr hs hm _ _ =>
      have taken := I.takes (v := (l.waiting.erase g).map fun f => f.body.summary) hb hr hs (List.erase_sublist.map _)
        (.inl (by simp [Link.places, List.length_erase_of_mem hm]; exact List.length_pos_of_mem hm)) h
      exact I.perm (insert_places b _) taken
  refresh r h := by rw [refreshed_places]; exact h
  start {l} hs h := by
    have hx : l.onLine = none := by simp [Link.onLine, Link.sendingBody, hs]
    rw [hx] at h
    unfold Link.start
    split
    · rw [hx]; exact h
    next f rest hw =>
      have hp : l.places = f.body.summary :: rest.map fun f => f.body.summary := by simp [Link.places, hw]
      rw [hp] at h
      exact I.start h
  again {l f} hs hw h := by
    have hx : l.onLine = some f.frame.body.summary := by simp [Link.onLine, Link.sendingBody, hs]
    rw [hx] at h
    have hp : (l.requeued f.frame).places.Perm (f.frame.body.summary :: l.places) :=
      (insertFrame_perm _ _).map fun f : QueuedFrame => f.body.summary
    exact I.perm hp (I.again hw h)

/-! ### The limits of 8 places and 4 ANSWERs -/

theorem queueFits_placeInvariant : PlaceInvariant fun w x =>
    (x.toList ++ w).length ≤ 8 ∧ countKind .answer (x.toList ++ w) ≤ 4 where
  fewer {w v x y} hw hx h := by
    have hs : (y.toList ++ v).Sublist (x.toList ++ w) := by
      rcases hx with rfl | rfl
      · exact (List.Sublist.refl _).append hw
      · exact (List.nil_sublist _).append hw
    exact ⟨hs.length_le.trans h.1, (hs.countP_le).trans h.2⟩
  perm {w v x} hp h := by
    have hq := (List.Perm.refl x.toList).append hp
    unfold countKind
    rw [hq.length_eq, hq.countP_eq]; exact h
  takes {l b v} hb _ _ hv hl h := by
    rw [placesHeld_eq] at hl
    rw [answersHeld_eq] at hb
    have hc : countKind .answer (l.onLine.toList ++ v) ≤ countKind .answer (l.onLine.toList ++ l.places) :=
      ((List.Sublist.refl _).append hv).countP_le
    have hlen := hv.length_le
    simp only [countKind, List.length_append, List.length_cons, List.countP_append, List.countP_cons] at *
    refine ⟨by omega, ?_⟩
    by_cases hk : b.kind = .answer
    · have := hb hk
      split <;> omega
    · have : b.summary.1 ≠ .answer := hk
      simp only [this, decide_false]
      simp
      omega
  start h := h
  again _ h := h

/-! ### One MARK, one PRESENCE, and one SCENE of a generation -/

theorem countKind_eq_zero {k : FrameKind} {l : Link} (h : ∀ f ∈ l.waiting, f.body.kind ≠ k) : countKind k l.places = 0 := by
  simpa [countKind, Link.places, FrameBody.summary] using h

/-- A frame of a kind of which one alone may wait takes a place where no other of it waits. -/
theorem countKind_cons_le {k : FrameKind} {b : FrameBody} {l : Link} {v : List (FrameKind × Option Generation)}
    (hb : b.kind = k → ∀ f ∈ l.waiting, f.body.kind ≠ k) (hv : v.Sublist l.places) (h : countKind k l.places ≤ 1) :
    countKind k (b.summary :: v) ≤ 1 := by
  have hc : countKind k v ≤ countKind k l.places := hv.countP_le
  by_cases hk : b.kind = k
  · have hz := countKind_eq_zero (hb hk)
    unfold countKind at *
    rw [List.countP_cons]
    split <;> omega
  · have : b.summary.1 ≠ k := hk
    unfold countKind at *
    rw [List.countP_cons, if_neg (by simpa using this)]
    omega

theorem mark_replaces_mark {a b : FrameBody} (ha : a.kind = .mark) (hb : b.kind = .mark) : replacedBy a b = true := by
  cases a <;> cases ha; cases b <;> cases hb; rfl

theorem presence_replaces_presence {a b : FrameBody} (ha : a.kind = .presence) (hb : b.kind = .presence) :
    replacedBy a b = true := by
  cases a <;> cases ha; cases b <;> cases hb; rfl

theorem mark_shares_mark {a b : FrameBody} (ha : a.kind = .mark) (hb : b.kind = .mark) : a.sharesPlace b = true := by
  cases a <;> cases ha; cases b <;> cases hb; rfl

theorem presence_shares_presence {a b : FrameBody} (ha : a.kind = .presence) (hb : b.kind = .presence) :
    a.sharesPlace b = true := by
  cases a <;> cases ha; cases b <;> cases hb; rfl

theorem not_waits {l : Link} {fits : FrameBody → Bool} (h : l.waits fits = false) {f : QueuedFrame} (hf : f ∈ l.waiting) :
    fits f.body = false := by
  simp only [Link.waits, List.any_eq_false] at h
  simpa using h f hf

/-- A SCENE that replaces none and is not on the line is of a generation that the queue does not hold. -/
theorem scene_generation_new {l : Link} {b : FrameBody} (hr : replaceIn b l.waiting = none)
    (hs : sceneInTransmission b l = none) {g : Generation} (hg : b.generation = some g) :
    g ∉ generations (l.onLine.toList ++ l.places) := by
  cases b with
  | scene sc =>
    cases hg
    rw [generations, List.filterMap_append, List.mem_append, not_or]
    constructor
    · unfold Link.onLine
      cases hb : l.sendingBody with
      | none => simp
      | some c =>
        cases c with
        | scene sd =>
          have hne : sc.generation ≠ sd.generation := fun e => by
            simp [sceneInTransmission, hb, e] at hs
          simpa [FrameBody.summary, FrameBody.generation] using hne
        | _ => simp [FrameBody.summary, FrameBody.generation]
    · simp only [Link.places, List.filterMap_map, List.mem_filterMap, Function.comp, FrameBody.summary, not_exists, not_and]
      intro f hf hfg
      have hn := replacedBy_eq_false hr hf
      cases hfb : f.body with
      | scene sd =>
        rw [hfb] at hfg hn
        simp only [FrameBody.generation, Option.some.injEq] at hfg
        simp [replacedBy, hfg] at hn
      | _ => rw [hfb] at hfg; cases hfg
  | _ => cases hg

theorem generations_cons (x : FrameKind × Option Generation) (w : List (FrameKind × Option Generation)) :
    generations (x :: w) = x.2.toList ++ generations w := by
  cases hx : x.2 <;> simp [generations, hx]

/-- One more SCENE of a new generation. -/
theorem generations_nodup_cons {l : Link} {b : FrameBody} {v : List (FrameKind × Option Generation)}
    (hr : replaceIn b l.waiting = none) (hs : sceneInTransmission b l = none) (hv : v.Sublist l.places)
    (h : (generations (l.onLine.toList ++ l.places)).Nodup) : (generations (l.onLine.toList ++ b.summary :: v)).Nodup := by
  have sub : (generations (l.onLine.toList ++ v)).Sublist (generations (l.onLine.toList ++ l.places)) :=
    ((List.Sublist.refl _).append hv).filterMap _
  have perm : (generations (l.onLine.toList ++ b.summary :: v)).Perm (generations (b.summary :: (l.onLine.toList ++ v))) :=
    List.perm_middle.filterMap _
  rw [perm.nodup_iff, generations_cons]
  cases hg : b.generation with
  | none => simpa [FrameBody.summary, hg] using h.sublist sub
  | some g =>
    simp only [FrameBody.summary, hg, Option.toList_some, List.singleton_append, List.nodup_cons]
    exact ⟨fun hm => scene_generation_new hr hs hg (sub.subset hm), h.sublist sub⟩

theorem queueSingle_placeInvariant : PlaceInvariant fun w x =>
    countKind .mark w ≤ 1 ∧ countKind .presence w ≤ 1 ∧ (generations (x.toList ++ w)).Nodup where
  fewer {w v x y} hw hx h := by
    have hs : (y.toList ++ v).Sublist (x.toList ++ w) := by
      rcases hx with rfl | rfl
      · exact (List.Sublist.refl _).append hw
      · exact (List.nil_sublist _).append hw
    exact ⟨(hw.countP_le).trans h.1, (hw.countP_le).trans h.2.1, h.2.2.sublist (hs.filterMap _)⟩
  perm {w v x} hp h := by
    have hq := ((List.Perm.refl x.toList).append hp).filterMap Prod.snd
    refine ⟨?_, ?_, hq.nodup_iff.2 h.2.2⟩
    all_goals unfold countKind; rw [hp.countP_eq]
    · exact h.1
    · exact h.2.1
  takes {l b v} _ hr hs hv _ h := by
    have free {k : FrameKind} (hk : ∀ {a c : FrameBody}, a.kind = k → c.kind = k → replacedBy a c = true) (hb : b.kind = k)
        (f : QueuedFrame) (hf : f ∈ l.waiting) : f.body.kind ≠ k := fun hfk => by
      have := replacedBy_eq_false hr hf
      rw [hk hb hfk] at this; cases this
    exact ⟨countKind_cons_le (free mark_replaces_mark) hv h.1,
      countKind_cons_le (free presence_replaces_presence) hv h.2.1, generations_nodup_cons hr hs hv h.2.2⟩
  start {w x} h := by
    have hc (k : FrameKind) : countKind k w ≤ countKind k (x :: w) := (List.sublist_cons_self x w).countP_le
    exact ⟨(hc _).trans h.1, (hc _).trans h.2.1, h.2.2⟩
  again {l b} hw h := by
    have free {k : FrameKind} (hk : ∀ {a c : FrameBody}, a.kind = k → c.kind = k → a.sharesPlace c = true) (hb : b.kind = k)
        (f : QueuedFrame) (hf : f ∈ l.waiting) : f.body.kind ≠ k := fun hfk => by
      have := not_waits hw hf
      rw [hk hb hfk] at this; cases this
    exact ⟨countKind_cons_le (free mark_shares_mark) (List.Sublist.refl _) h.1,
      countKind_cons_le (free presence_shares_presence) (List.Sublist.refl _) h.2.1, h.2.2⟩

theorem queueFits_iff (s : State) : queueFits s ↔
    (s.link.onLine.toList ++ s.link.places).length ≤ 8 ∧ countKind .answer (s.link.onLine.toList ++ s.link.places) ≤ 4 := by
  unfold queueFits
  rw [placesHeld_eq, answersHeld_eq]

theorem queueSingle_iff (s : State) : queueSingle s ↔ countKind .mark s.link.places ≤ 1 ∧
    countKind .presence s.link.places ≤ 1 ∧ (generations (s.link.onLine.toList ++ s.link.places)).Nodup := by
  unfold queueSingle
  rw [marksWaiting_eq, presencesWaiting_eq, sceneGenerations_eq, allDistinct_iff]

/-- A property of the places is kept by every step, when an empty queue with any frame on the line has it. -/
theorem PlaceInvariant.afterStep {R : List (FrameKind × Option Generation) → Option (FrameKind × Option Generation) → Prop}
    (I : PlaceInvariant R) (empty : ∀ x, R [] x) {s t : State} (hst : step s = .next t) (h : R s.link.places s.link.onLine) :
    R t.link.places t.link.onLine := by
  have J := I.toQueueInvariant
  refine step_invariant (P := fun u => R u.link.places u.link.onLine) (fun _ _ hp => hp) (fun hp => hp) (fun c _ _ hp => ?_)
    h hst
  by_cases hc : c = .powerOn
  · subst hc; exact empty _
  by_cases hr : ∃ rx n, c = .restart rx n
  · obtain ⟨rx, n, rfl⟩ := hr
    exact J.received rx (ifAddressed_invariant (P := fun u => R u.link.places u.link.onLine) n fun u _ => empty _) hp
  · exact J.effect hc (fun rx n e => hr ⟨rx, n, e⟩) hp

end Sys2Proof.Machine
end

section
/-! PROOFS. Which contents can wait after a command, and that a waiting PRESENCE carries the values of the moment (R54, R55): O57. -/

namespace Sys2Proof.Machine

/-! ### The contents that wait -/

/-- The contents of the waiting frames. -/
def Link.bodies (l : Link) : List FrameBody := l.waiting.map QueuedFrame.body

theorem mem_bodies {l : Link} {b : FrameBody} : b ∈ l.bodies ↔ ∃ f ∈ l.waiting, f.body = b := List.mem_map

theorem mem_bodies_replaceIn {new c : FrameBody} {l l' : List QueuedFrame} (h : replaceIn new l = some l')
    (hc : c ∈ l'.map QueuedFrame.body) : c = new ∨ c ∈ l.map QueuedFrame.body := by
  induction l generalizing l' with
  | nil => cases h
  | cons f rest ih =>
    unfold replaceIn at h
    split at h
    next =>
      cases h
      rcases List.mem_cons.1 hc with hc | hc
      · exact .inl hc
      · exact .inr (List.mem_cons_of_mem _ hc)
    next =>
      split at h
      · cases h
      next rest' hr =>
        cases h
        rcases List.mem_cons.1 hc with hc | hc
        · exact .inr (hc ▸ List.mem_cons_self)
        · exact (ih hr hc).imp_right (List.mem_cons_of_mem _)

theorem mem_bodies_insert {b c : FrameBody} {l : Link} : c ∈ (l.insert b).bodies ↔ c = b ∨ c ∈ l.bodies := by
  have hp := (insertFrame_perm ⟨b, l.nextStamp, false⟩ l.waiting).map QueuedFrame.body
  rw [show (l.insert b).bodies = _ from rfl, Link.insert, Link.bodies, hp.mem_iff, List.map_cons, List.mem_cons, Link.bodies]

/-- After a frame has been given, what waits is its content or waited before (R167, R168). -/
theorem mem_bodies_give {admits : Bool} {b c : FrameBody} {l : Link} (h : c ∈ (l.give admits b).1.bodies) :
    c = b ∨ c ∈ l.bodies := by
  have out := give_outcome admits b l
  generalize l.give admits b = g at out h
  cases out with
  | ended k => exact .inr h
  | onTheLine k => exact .inr h
  | replaces w hw => exact mem_bodies_replaceIn hw h
  | takesPlace => exact mem_bodies_insert.1 h
  | displaces g =>
    refine (mem_bodies_insert.1 h).imp_right fun hc => ?_
    exact (List.erase_sublist.map QueuedFrame.body).subset hc

theorem mem_bodies_offerCheck {c : FrameBody} {s : State} (h : c ∈ (offerCheck s).link.bodies) :
    c.isOffer = true ∨ c ∈ s.link.bodies := by
  have queued (o : Offer) (ho : c ∈ (queueSpeedOffer o s).link.bodies) : c.isOffer = true ∨ c ∈ s.link.bodies := by
    have hl : (queueSpeedOffer o s).link = (s.link.give (admitsFrames s) (.offer o)).1 := by
      unfold queueSpeedOffer; dsimp only; repeat' split
      all_goals first | rfl | exact timerNotice_link _ _
    rw [hl] at ho
    exact (mem_bodies_give ho).imp_left fun e => by rw [e]; rfl
  unfold offerCheck at h
  split at h
  · split at h
    · exact queued _ h
    · exact .inr h
  · exact .inr h

theorem mem_bodies_frameEnds {b c : FrameBody} {s : State} (h : c ∈ (frameEnds b s).link.bodies) :
    c.isOffer = true ∨ c ∈ s.link.bodies := by
  unfold frameEnds at h; split at h
  · exact mem_bodies_offerCheck (s := { s with speed := { s.speed with offerWaiting := false } }) h
  · rw [timerNotice_link] at h; exact .inr h

theorem mem_bodies_giveFrame {b c : FrameBody} {s : State} (h : c ∈ (giveFrame b s).link.bodies) :
    c = b ∨ c.isOffer = true ∨ c ∈ s.link.bodies := by
  unfold giveFrame at h; dsimp only at h; split at h
  · exact (mem_bodies_give h).imp_right .inr
  · rcases mem_bodies_frameEnds h with ho | hm
    · exact .inr (.inl ho)
    · exact (mem_bodies_give hm).imp_right .inr

theorem mem_bodies_fetchTimerEnds {c : FrameBody} {s : State} (h : c ∈ (fetchTimerEnds s).link.bodies) :
    (∃ g, c = .fetch (some g)) ∨ c.isOffer = true ∨ c ∈ s.link.bodies := by
  unfold fetchTimerEnds at h
  split at h
  · split at h
    · exact .inr (.inr h)
    · split at h
      · exact (mem_bodies_giveFrame h).imp_left fun e => ⟨_, e⟩
      · exact .inr (.inr h)
  · exact .inr (.inr h)

theorem mem_bodies_checkIfChanged {c : FrameBody} {d : Nat} {s : State} (h : c ∈ (checkIfChanged d s).link.bodies) :
    c.isOffer = true ∨ c ∈ s.link.bodies := by
  unfold checkIfChanged at h; split at h
  · exact .inr h
  · exact mem_bodies_offerCheck h

/-! ### The values of a PRESENCE -/

/-- What a PRESENCE shows of the state (R54). -/
def presenceState (s : State) : StationState × SceneUnit × Protection × Image :=
  (s.controller.station, s.scene, s.protection, s.loader.image)

theorem ownReport_of_presenceState {s t : State} (h : presenceState t = presenceState s) : ownReport t = ownReport s := by
  simp only [presenceState, Prod.mk.injEq] at h
  obtain ⟨hc, hs, hp, hi⟩ := h
  simp only [ownReport, ownDemand, thermalContribution, sagContribution, hc, hs, hp, hi]

/-- Every PRESENCE among the contents shows the report. -/
def showsReport (r : Report) (l : Link) : Prop := ∀ q, .presence q ∈ l.bodies → q = r

theorem presenceFresh_iff (s : State) : presenceFresh s ↔ showsReport (ownReport s) s.link := by
  constructor
  · intro h q hq
    obtain ⟨f, hf, hb⟩ := mem_bodies.1 hq
    exact h f hf q hb
  · intro h f hf q hb
    exact h q (mem_bodies.2 ⟨f, hf, hb⟩)

/-- What waits after a step that changes nothing a PRESENCE shows: an OFFER, a FETCH, a MARK, a PRESENCE of the moment, or what waited
before. -/
theorem presenceFresh_of_bodies {s t : State} (h : presenceFresh s) (hr : ownReport t = ownReport s)
    (hb : ∀ q, .presence q ∈ t.link.bodies → q = ownReport s ∨ .presence q ∈ s.link.bodies) : presenceFresh t := by
  rw [presenceFresh_iff] at h ⊢
  intro q hq
  rw [hr]
  exact (hb q hq).elim id (h q)

theorem presenceFresh_of_sublist {s t : State} (h : presenceFresh s) (hp : presenceState t = presenceState s)
    (hw : t.link.bodies.Sublist s.link.bodies) : presenceFresh t :=
  presenceFresh_of_bodies h (ownReport_of_presenceState hp) fun _ hq => .inr (hw.subset hq)

@[simp] theorem lineFrameEnded_bodies (l : Link) : l.lineFrameEnded.bodies = l.bodies := by
  simp [Link.lineFrameEnded, Link.bodies, Function.comp_def]

theorem completed_presenceFresh {s : State} (a : Bool) (h : presenceFresh s) : presenceFresh (completed a s) :=
  presenceFresh_of_sublist h rfl (by rw [← lineFrameEnded_bodies s.link]; exact List.Sublist.refl _)

theorem unlessOrphan_presenceFresh {f : SendingFrame} {work : State → State} {s : State} (h : presenceFresh s) :
    presenceFresh (unlessOrphan f work s) := by
  unfold unlessOrphan; split
  · exact h
  · exact finish_fresh _

theorem lineTimeOut_presenceFresh {s : State} (h : presenceFresh s) : presenceFresh (effect .lineTimeOut s) := by
  have timed : presenceFresh { s with link := s.link.timedOut } :=
    presenceFresh_of_sublist h rfl (List.filter_sublist.map _)
  have key : ∀ (l : List FrameBody) (t : State), presenceFresh t → presenceFresh (l.foldl (fun s b => frameEnds b s) t) := by
    intro l
    induction l with
    | nil => exact fun _ ht => ht
    | cons b l ih =>
      refine fun t ht => ih _ (presenceFresh_of_bodies ht (ownReport_of_presenceState (by simp [presenceState])) fun q hq => ?_)
      exact .inr ((mem_bodies_frameEnds hq).resolve_left (by simp [FrameBody.isOffer]))
  exact key _ _ timed

theorem budgetTimerExpiry_ownReport (n : Channel) (s : State) : ownReport (effect (.budgetTimerExpiry n) s) = ownReport s := by
  rw [effect_budgetTimerExpiry]; dsimp only
  split
  · have states : ((s.setRecord n { s.protection.records.get n with retriesUsed := 0, budgetTimer := none }).protection.records.map
        FaultRecord.state) = s.protection.records.map FaultRecord.state := by
      refine PerChannel.ext_get fun m => ?_
      by_cases hm : m = n
      · subst hm; simp
      · simp [PerChannel.get_set, hm]
    simp only [ownReport, states]
    rfl
  · rfl

theorem effect_presenceFresh (c : Instr) {s : State} (h : presenceFresh s) : presenceFresh (effect c s) := by
  have notOffer (q : Report) : ¬(FrameBody.presence q).isOffer = true := nofun
  have still {t : State} (hl : t.link = s.link) (hp : presenceState t = presenceState s) : presenceFresh t :=
    presenceFresh_of_sublist h hp (by rw [hl])
  cases c
  case powerOn => exact fun f hf => absurd hf (by simp [State.powerOnBlocks, Link.reset])
  case checkError => exact presenceFresh_of_sublist h rfl (by rw [← lineFrameEnded_bodies s.link]; exact List.Sublist.refl _)
  case frameStart =>
    rw [effect_frameStart]; split
    · refine presenceFresh_of_sublist h rfl ?_
      rw [← lineFrameEnded_bodies s.link]
      refine List.Sublist.map _ ?_
      unfold Link.start; split
      · exact List.Sublist.refl _
      next f rest hw => rw [hw]; exact List.sublist_cons_self _ _
    · exact h
  case arbitrationLost =>
    rw [effect_arbitrationLost]; split
    · exact h
    · exact unlessOrphan_presenceFresh (s := droppedOut s) h
  case ownMarkComplete =>
    rw [effect_ownMarkComplete]; repeat' split
    case h_1 => exact unlessOrphan_presenceFresh (completed_presenceFresh _ h)
    all_goals exact h
  case ownOfferComplete =>
    rw [effect_ownOfferComplete]; repeat' split
    case h_1 => exact unlessOrphan_presenceFresh (completed_presenceFresh _ h)
    all_goals exact h
  case ownPresenceComplete =>
    rw [effect_ownPresenceComplete]; repeat' split
    case h_1 => exact unlessOrphan_presenceFresh (completed_presenceFresh _ h)
    all_goals exact h
  case ownFrameComplete =>
    rw [effect_ownFrameComplete]; repeat' split
    all_goals first | exact h | exact completed_presenceFresh _ h
  case lineTimeOut => exact lineTimeOut_presenceFresh h
  case cycleTimerExpiry =>
    rw [effect_cycleTimerExpiry]; split
    · refine presenceFresh_of_bodies h (ownReport_of_presenceState (by simp [presenceState])) fun q hq => .inr ?_
      exact ((mem_bodies_giveFrame hq).resolve_left nofun).resolve_left (notOffer q)
    all_goals exact h
  case presenceTimerExpiry =>
    rw [effect_presenceTimerExpiry]; split
    · refine presenceFresh_of_bodies h (ownReport_of_presenceState (by simp [presenceState])) fun q hq => ?_
      rcases mem_bodies_giveFrame hq with hq | hq
      · exact .inl (FrameBody.presence.inj hq)
      · exact .inr (hq.resolve_left (notOffer q))
    all_goals exact h
  case fetchTimerExpiry =>
    have keeps : (fetchTimerEnds s).controller = s.controller ∧ (fetchTimerEnds s).protection = s.protection ∧
        (fetchTimerEnds s).loader = s.loader ∧ (fetchTimerEnds s).scene.applied = s.scene.applied ∧
        (fetchTimerEnds s).scene.staged = s.scene.staged := by
      unfold fetchTimerEnds; repeat' split
      all_goals simp
    obtain ⟨hc, hp, hl, ha, hs⟩ := keeps
    refine presenceFresh_of_bodies h ?_ fun q hq => .inr ?_
    · simp only [effect_fetchTimerExpiry, ownReport, ownDemand, thermalContribution, sagContribution, hc, hp, hl, ha, hs]
    · exact ((mem_bodies_fetchTimerEnds hq).resolve_left nofun).resolve_left (notOffer q)
  case speedStale =>
    rw [effect_speedStale]; split
    · refine presenceFresh_of_bodies h (ownReport_of_presenceState (by simp [presenceState])) fun q hq => .inr ?_
      exact (mem_bodies_checkIfChanged hq).resolve_left (notOffer q)
    · exact h
  case fallTimerExpiry =>
    rw [effect_fallTimerExpiry]; split
    · refine presenceFresh_of_bodies h (ownReport_of_presenceState (by simp [presenceState])) fun q hq => .inr ?_
      exact (mem_bodies_checkIfChanged hq).resolve_left (notOffer q)
    · exact h
  case offerSpacingExpiry =>
    rw [effect_offerSpacingExpiry]; split
    · refine presenceFresh_of_bodies h (ownReport_of_presenceState (by simp [presenceState])) fun q hq => .inr ?_
      exact (mem_bodies_offerCheck hq).resolve_left (notOffer q)
    · exact h
  case isolationTimerExpiry =>
    rw [effect_isolationTimerExpiry]; split
    · refine presenceFresh_of_sublist h (by simp [presenceState]) ?_
      simp only [duckFlagSet_keeps]
      exact List.Sublist.refl _
    · exact h
  case riseGuardExpiry =>
    rw [effect_riseGuardExpiry]; split
    · exact h
    · exact h
  case budgetTimerExpiry n =>
    refine presenceFresh_of_bodies h (budgetTimerExpiry_ownReport n s) fun q hq => .inr ?_
    rw [effect_budgetTimerExpiry] at hq; dsimp only at hq; split at hq <;> exact hq
  case peerSilent | settleTimerExpiry | preparationTimerExpiry =>
    refine still ?_ ?_
    all_goals simp only [effect_peerSilent, effect_settleTimerExpiry, effect_preparationTimerExpiry]
    all_goals repeat' split
    all_goals rfl
  case peerLost =>
    rw [effect_peerLost]; repeat' split
    · exact finish_fresh _
    all_goals exact h
  case railGoodArrival | railGoodLoss =>
    simp only [effect_railGoodArrival, effect_railGoodLoss]; split
    · exact finish_fresh _
    · exact h
  case startComplete | senseSlot | overcurrentFlag | clipFlag | joinWindowExpiry | duckTimerExpiry | stepTimerExpiry
    | duckHoldExpiry | clipFallTimerExpiry | retryTimerExpiry | railGoodTimerExpiry | railRetryTimerExpiry
    | stabiliseTimerExpiry | downTimerExpiry =>
    simp only [effect_startComplete, effect_senseSlot, effect_overcurrentFlag, effect_clipFlag, effect_joinWindowExpiry,
      effect_duckTimerExpiry, effect_stepTimerExpiry, effect_duckHoldExpiry, effect_clipFallTimerExpiry,
      effect_retryTimerExpiry, effect_railGoodTimerExpiry, effect_railRetryTimerExpiry, effect_stabiliseTimerExpiry,
      effect_downTimerExpiry]
    split
    · exact finish_fresh _
    · exact h
  all_goals exact finish_fresh _

theorem timePasses_ownReport (s : State) : ownReport (timePasses s) = ownReport s := by
  have states : s.protection.tick.records.map FaultRecord.state = s.protection.records.map FaultRecord.state :=
    PerChannel.ext_get fun m => by simp [Protection.tick, FaultRecord.tick]
  simp only [ownReport, timePasses, states]
  rfl

/-- Settles O57. -/
theorem queueKeepsItsLimitsAndPresenceFresh : Obligations.QueueKeepsItsLimitsAndPresenceFresh := by
  intro s t hst
  refine ⟨fun h => ?_, fun h => ?_, fun h => ?_⟩
  · rw [queueFits_iff] at h ⊢
    exact queueFits_placeInvariant.afterStep (fun x => by cases x <;> simp [countKind, List.countP_cons]; split <;> omega) hst h
  · rw [queueSingle_iff] at h ⊢
    refine queueSingle_placeInvariant.afterStep (fun x => ⟨by simp [countKind], by simp [countKind], ?_⟩) hst h
    cases x with
    | none => simp [generations]
    | some x => rw [Option.toList_some, List.append_nil, generations_cons]; cases x.2 <;> simp [generations]
  · refine step_invariant (P := presenceFresh) (fun _ _ hp => hp) (fun hp => ?_) (fun c _ _ hp => effect_presenceFresh c hp) h hst
    intro f hf r hb
    rw [timePasses_ownReport]
    exact hp f hf r hb

end Sys2Proof.Machine
end

section
/-! PROOFS. Power-on and restart: O4, O7, and that reset meets the invariants, O58. -/

namespace Sys2Proof.Machine

/-! ### Reset -/

theorem reset_channelsReset : channelsReset .reset := ⟨rfl, rfl, rfl, rfl, rfl⟩

/-- Settles O58. -/
theorem resetMeetsTheInvariants : Obligations.ResetMeetsTheInvariants := by
  have scenes : scenesInRange .reset :=
    (scenesInRange_iff _).2 ⟨SceneUnit.InRange.reset unconfiguredContent_inRange 0, unconfiguredContent_inRange⟩
  have protection : protectionFits .reset :=
    (protectionFits_iff _).2 ⟨recordsInRange_startInvariant.fresh reset_channelsReset, clipInRange_reset ⟨rfl, rfl, rfl⟩⟩
  have railDown : railDownSounds .reset := fun h => absurd h (by decide)
  have bypass : bypassIdle .reset := fun h => absurd h (by decide)
  have fresh : presenceFresh .reset := fun _ hf => absurd hf List.not_mem_nil
  have scene : sceneCoherent .reset := (sceneCoherent_iff _).2 (SceneUnit.Coherent.reset unconfiguredContent 0)
  exact ⟨rampsCoherent_startInvariant.fresh reset_channelsReset, railHeld_startInvariant.fresh reset_channelsReset,
    faultHeld_startInvariant.fresh reset_channelsReset, scene, scenes, railDown, by decide, by decide, protection, bypass,
    underCeilings_of_no_roster rfl, fresh⟩

/-! ### Power-on -/

/-- Settles O4: each block takes its reset record. -/
theorem powerOnValues : Obligations.PowerOnValues := by
  intro s
  refine ⟨_, exec_effect .powerOn s, ?_⟩
  rw [effect_powerOn]
  simp [State.powerOnBlocks, Controller.resetWith, Link.reset, CycleUnit.reset, PeerTable.reset, SceneUnit.resetWith, formApplied,
    SpeedUnit.reset, Planner.reset, Equaliser.reset, passBank, Protection.reset, RampRecord.reset, FaultRecord.reset,
    Condition.normal, ClaimSet.empty, ms]

/-! ### Restart -/

theorem receive_of_routed {rx : Reception} {s : State} (h : routed rx s) (handle : State → State) :
    receive rx handle s = if rx.wakeFirst then handle (wake (goodFrame s)) else wake (handle (goodFrame s)) := by
  unfold receive; dsimp only
  rw [if_neg (by simpa using h.1), if_neg (by simpa [own] using h.2)]

theorem wake_of_not_resting {s : State} (h : s.controller.station ≠ .resting) : wake s = s := by simp [wake, h]

/-- A frame with a good check is acknowledged, except in CONFLICT (R164). -/
theorem goodFrame_acknowledging (s : State) :
    (goodFrame s).link.acknowledging = decide (s.controller.station ≠ .conflict) := by
  unfold goodFrame frameHeard; dsimp only
  split
  · rw [duckFlagClear_link]; split <;> simp
  · rfl

/-- Settles O7: after the blocks are restarted nothing more happens, in either order with the wake. -/
theorem restartValues : Obligations.RestartValues := by
  intro rx target s hr ht
  have hit : ∀ t : State, t.loader = s.loader → ifAddressed target restartBlocks t = restartBlocks t := fun t hl => by
    unfold ifAddressed
    rw [if_pos (by simpa [addressed, own, hl] using ht)]
  have blocks (t : State) (hsend : t.link.sending = s.link.sending) (hp : t.pending = s.pending) (hpins : t.pins = s.pins)
      (hd : t.draws = s.draws) (hack : t.link.acknowledging = decide (s.controller.station ≠ .conflict)) :
      restartBlocks t = { s with
        loader := .reset
        link := { Link.reset with
          sending := s.link.sending.map fun f => { f with orphan := true }
          acknowledging := decide (s.controller.station ≠ .conflict) }
        cycle := .reset, peers := .reset, scene := .resetWith unconfiguredContent 0, speed := .reset
        planner := .reset, ramps := .all .reset, equaliser := .reset, protection := .reset
        controller := ⟨.starting, .off, none, none, none, none, .restart⟩ } := by
    simp [restartBlocks, State.powerOnBlocks, hsend, hp, hpins, hd, hack, Controller.resetWith]
    rfl
  have last (t : State) : finish (restartBlocks t) = restartBlocks t := by
    rw [finish_outside_railDown (by simp [restartBlocks, Controller.resetWith])]
    simp [restartBlocks, State.powerOnBlocks, Link.reset]
  have ack : (goodFrame s).link.acknowledging = decide (s.controller.station ≠ .conflict) := goodFrame_acknowledging s
  rw [exec_effect, effect_restart, receive_of_routed hr]
  split
  · rw [hit _ (by simp), last]
    exact congrArg _ (blocks _ (by simp) (by simp) (by simp) (by simp) (by simp [ack]))
  · rw [hit _ (by simp), wake_of_not_resting (by simp [restartBlocks, Controller.resetWith]), last]
    exact congrArg _ (blocks _ (by simp) (by simp) (by simp) (by simp) (by simp [ack]))

end Sys2Proof.Machine
end

section
/-! PROOFS. The Gain Planner's operations: which targets are current after them, at which class new ones are handed, and how the
cabin cut follows the greatest demand (R99, R100, R104, R105). -/

namespace Sys2Proof.Machine

/-! ### One target handed -/

/-- The target a channel would be handed depends on the image, the planner's gap set, cut and duck, and the applied content. -/
theorem targetNow_congr {s t : State} (hi : t.loader.image = s.loader.image) (hg : t.planner.gapSet = s.planner.gapSet)
    (hc : t.planner.cut = s.planner.cut) (hd : t.planner.duck = s.planner.duck) (hs : t.scene = s.scene) (d : RosterEntry) :
    targetNow t d = targetNow s d := by
  simp only [targetNow, componentsFor, hi, hg, hc, hd, hs]

@[simp] theorem handTarget_targetNow (cause : RateClass) (s : State) (d e : RosterEntry) :
    targetNow (handTarget cause s d) e = targetNow s e := targetNow_congr (by simp) (by simp) (by simp) (by simp) (by simp) e

theorem handTarget_channels_other {cause : RateClass} {s : State} {d : RosterEntry} {n : Channel} (h : n ≠ d.channel) :
    (handTarget cause s d).planner.channels.get n = s.planner.channels.get n ∧
      (handTarget cause s d).ramps.get n = s.ramps.get n := by
  unfold handTarget; dsimp only; split
  · simp [PerChannel.get_set, h]
  · simp [PerChannel.get_set, h]

/-- A target that stands has its components recorded afresh, and is not handed (R104; log entry 11). -/
theorem handTarget_of_eq {cause : RateClass} {s : State} {d : RosterEntry}
    (h : targetNow s d = (s.planner.channels.get d.channel).handedTarget) :
    handTarget cause s d = s.setPlanned d.channel
      { s.planner.channels.get d.channel with
        components := some (componentsFor s.loader.image s.planner s.scene.applied.content d) } := if_pos h

/-- Another target is handed, at the class of R105. -/
theorem handTarget_of_ne {cause : RateClass} {s : State} {d : RosterEntry}
    (h : targetNow s d ≠ (s.planner.channels.get d.channel).handedTarget) :
    handTarget cause s d = applyRamp d.channel
      ((s.ramps.get d.channel).take s.loader.image.duckHold (targetNow s d)
        (classHanded cause (s.ramps.get d.channel) (s.planner.channels.get d.channel)))
      (s.setPlanned d.channel ⟨targetNow s d,
        some (classHanded cause (s.ramps.get d.channel) (s.planner.channels.get d.channel)),
        some (componentsFor s.loader.image s.planner s.scene.applied.content d)⟩) := if_neg h

/-- A target other than silence that is taken stands in the channel's record (R113, R121). -/
theorem take_target (hold : Nat) {t : Gain} (ht : t ≠ .silent) (cls : RateClass) (r : RampRecord) :
    (r.take hold t cls).record.target = t := by
  have moved (q : RampRecord) : (q.moveDuckLevel hold t).target = q.target := by
    unfold RampRecord.moveDuckLevel RampRecord.reachDuckLevel; dsimp only; repeat' split
    all_goals rfl
  have opened : (r.takeOpen t cls).target = t := by
    unfold RampRecord.takeOpen; repeat' split
    all_goals first | rfl | exact absurd rfl ht
  unfold RampRecord.take; split
  · exact opened
  · rfl
  · rfl
  · exact moved _
  · exact moved _

/-- `t` holds for a roster channel the target its terms give in `s`; another than in `s` with the class of R105, and in the Ramp
Engine unless it is silence. -/
def handedFrom (cause : RateClass) (s t : State) (d : RosterEntry) : Prop :=
  (t.planner.channels.get d.channel).handedTarget = targetNow s d ∧
  ((t.planner.channels.get d.channel).handedTarget ≠ (s.planner.channels.get d.channel).handedTarget →
    (t.planner.channels.get d.channel).handedClass =
      some (classHanded cause (s.ramps.get d.channel) (s.planner.channels.get d.channel)) ∧
    ((t.planner.channels.get d.channel).handedTarget ≠ .silent →
      (t.ramps.get d.channel).target = (t.planner.channels.get d.channel).handedTarget))

theorem handTarget_handedFrom (cause : RateClass) (s : State) (d : RosterEntry) :
    handedFrom cause s (handTarget cause s d) d := by
  by_cases h : targetNow s d = (s.planner.channels.get d.channel).handedTarget
  · rw [handTarget_of_eq h]
    refine ⟨by simp [h], fun hne => absurd ?_ hne⟩
    simp
  · rw [handTarget_of_ne h]
    refine ⟨by simp, fun _ => ⟨by simp, fun hs => ?_⟩⟩
    have hs' : targetNow s d ≠ .silent := by simpa using hs
    simp [take_target _ hs']

/-! ### Every roster channel -/

/-- The channels of a state agree at channel `n`. -/
def agreeAt (n : Channel) (s t : State) : Prop :=
  t.planner.channels.get n = s.planner.channels.get n ∧ t.ramps.get n = s.ramps.get n

theorem handedFrom_congr {cause : RateClass} {s s' t t' : State} {d : RosterEntry} (hn : targetNow s' d = targetNow s d)
    (hs : agreeAt d.channel s s') (ht : agreeAt d.channel t t') (h : handedFrom cause s t d) : handedFrom cause s' t' d := by
  unfold handedFrom
  rw [hn, hs.1, hs.2, ht.1, ht.2]
  exact h

theorem foldl_handTarget_other (cause : RateClass) (l : List RosterEntry) {n : Channel} (hn : n ∉ l.map RosterEntry.channel)
    (s : State) : agreeAt n s (l.foldl (handTarget cause) s) := by
  induction l generalizing s with
  | nil => exact ⟨rfl, rfl⟩
  | cons e l ih =>
    rw [List.map_cons, List.mem_cons, not_or] at hn
    have h := ih hn.2 (handTarget cause s e)
    have ho := handTarget_channels_other (cause := cause) (s := s) hn.1
    exact ⟨h.1.trans ho.1, h.2.trans ho.2⟩

theorem foldl_handTarget_handedFrom (cause : RateClass) {l : List RosterEntry} (hl : (l.map RosterEntry.channel).Nodup)
    (s : State) {d : RosterEntry} (hd : d ∈ l) : handedFrom cause s (l.foldl (handTarget cause) s) d := by
  induction l generalizing s with
  | nil => cases hd
  | cons e l ih =>
    rw [List.map_cons, List.nodup_cons] at hl
    rw [List.foldl_cons]
    rcases List.mem_cons.1 hd with rfl | hm
    · exact handedFrom_congr rfl ⟨rfl, rfl⟩ (foldl_handTarget_other cause l hl.1 _) (handTarget_handedFrom cause s d)
    · have hne : d.channel ≠ e.channel := fun h => hl.1 (h ▸ List.mem_map_of_mem hm)
      have before := handTarget_channels_other (cause := cause) (s := s) hne
      exact handedFrom_congr (handTarget_targetNow cause s e d).symm ⟨before.1.symm, before.2.symm⟩ ⟨rfl, rfl⟩
        (ih hl.2 (handTarget cause s e) hm)

/-- Every roster channel is handed the target its terms give. -/
def handsTargets (cause : RateClass) (s t : State) : Prop := ∀ d ∈ s.loader.image.roster, handedFrom cause s t d

theorem handTargets_of_generation {cause : RateClass} {s : State} (hg : s.scene.applied.generation ≠ none)
    (hd : allDistinct (s.loader.image.roster.map RosterEntry.channel) = true) :
    handsTargets cause s (handTargets cause s) := by
  unfold handTargets
  split
  next h => exact absurd h hg
  next => exact fun d hm => foldl_handTarget_handedFrom cause ((allDistinct_iff _).1 hd) s hm

@[simp] theorem handTargets_targetNow (cause : RateClass) (s : State) (e : RosterEntry) :
    targetNow (handTargets cause s) e = targetNow s e := targetNow_congr (by simp) (by simp) (by simp) (by simp) (by simp) e

theorem handTargets_no_generation {cause : RateClass} {s : State} (hg : s.scene.applied.generation = none) :
    handTargets cause s = s := by simp [handTargets, hg]

/-- Where no ramp is in flight a new target is handed at the class of its cause (R105). -/
theorem classHanded_of_still {cause : RateClass} {r : RampRecord} {p : PlannedChannel}
    (h : r.claims ≠ .empty ∨ r.currentGain = p.handedTarget) : classHanded cause r p = cause := by
  have hf : inFlight r p.handedTarget = false := by
    unfold inFlight
    rcases h with h | h <;> simp [h]
  simp [classHanded, hf]

/-- The targets that `t` holds are those worked out in `s`, which is `s₀` with other terms. -/
theorem targetsCurrent_of_hands {cause : RateClass} {s t : State} (h : handsTargets cause s t)
    (hr : t.loader.image.roster = s.loader.image.roster) (hn : ∀ d, targetNow t d = targetNow s d) : targetsCurrent t := by
  intro d hd
  rw [hn d]
  exact (h d (hr ▸ hd)).1

theorem newTargets_of_hands {cause : RateClass} {s₀ s t : State} (h : handsTargets cause s t)
    (hr : t.loader.image.roster = s.loader.image.roster) (hc : s.planner.channels = s₀.planner.channels)
    (hp : s.ramps = s₀.ramps) (hi : s₀.loader.image.roster = s.loader.image.roster) (hf : noneInFlight s₀) :
    newTargetsHandedAt cause s₀ t := by
  intro d hd hne
  rw [hr] at hd
  have hd0 := h d hd
  unfold handedFrom at hd0
  rw [hc, hp, classHanded_of_still (hf d (hi ▸ hd))] at hd0
  exact hd0.2 hne

/-! ### The cabin cut and the greatest demand -/

theorem greatestDemand_congr {s t : State} (ho : ownDemand t = ownDemand s) (hm : cutMode t = cutMode s)
    (hp : t.peers = s.peers) : greatestDemand t = greatestDemand s := by
  simp only [greatestDemand, ho, hm, hp]

/-- The comparison leaves the cut as R99 and R100 have it. -/
theorem reviewDemand_cutFollows {s₀ s : State} (hc : s.planner.cut = s₀.planner.cut)
    (ht : s.planner.settleTimer = s₀.planner.settleTimer) (hf : s.planner.fallReady = s₀.planner.fallReady) :
    cutFollows s₀ (reviewDemand s) := by
  have hg : greatestDemand (reviewDemand s) = greatestDemand s := (reviewDemand_demands s).2.2
  refine ⟨fun hlt => ?_, fun he => ?_, fun hlt => ?_⟩
  · rw [hg, ← hc] at hlt
    rw [hg]; exact reviewDemand_rises hlt.le
  · rw [hg, ← hc] at he
    obtain ⟨h1, h2, h3⟩ := reviewDemand_rises (s := s) he.ge
    exact ⟨by rw [h1, he, hc], h2, h3⟩
  · rw [hg, ← hc] at hlt
    rw [reviewDemand_settles hlt]
    exact ⟨hc, hf, by rw [ht, hf]⟩

theorem cutFollows_congr {s t u : State} (hp : u.planner.cut = t.planner.cut) (hs : u.planner.settleTimer = t.planner.settleTimer)
    (hf : u.planner.fallReady = t.planner.fallReady) (hg : greatestDemand u = greatestDemand t) (h : cutFollows s t) :
    cutFollows s u := by
  simpa only [cutFollows, hp, hs, hf, hg] using h

end Sys2Proof.Machine
end

section
/-! PROOFS. The ages of the peers (O29), and the settle, isolation and duck timers (O31). -/

namespace Sys2Proof.Machine

/-! ### The end of a command while the rail is not released -/

/-- What follows a command leaves the greatest demand while the rail is not released. -/
theorem refreshPresence_greatestDemand (s : State) : greatestDemand (refreshPresence s) = greatestDemand s := rfl

theorem finish_cutFollows {s u : State} (hc : u.controller = s.controller) (hk : railKept s (finish u)) (h : cutFollows s u) :
    cutFollows s (finish u) := by
  rw [finish_of_railKept hc hk]; exact h

theorem finish_targetsCurrent {s u : State} (hc : u.controller = s.controller) (hk : railKept s (finish u))
    (h : targetsCurrent u) : targetsCurrent (finish u) := by
  rw [finish_of_railKept hc hk]; exact h

theorem finish_newTargets {cls : RateClass} {s₀ s u : State} (hc : u.controller = s.controller) (hk : railKept s (finish u))
    (h : newTargetsHandedAt cls s₀ u) : newTargetsHandedAt cls s₀ (finish u) := by
  rw [finish_of_railKept hc hk]; exact h

/-! ### The ages of the peers -/

theorem peerSilent_of_active {n : Station} {s : State} {r : Report} {age : Nat} (hi : s.link.isolated = false)
    (he : s.peers.entries.get n = .known .active r age) :
    effect (.peerSilent n) s = if 1200 ≤ age then s.setPeer n (.known .silent r age) else s := by
  rw [effect_peerSilent, hi, he]; rfl

theorem peerLost_of_silent {n : Station} {s : State} {r : Report} {age : Nat} (hi : s.link.isolated = false)
    (he : s.peers.entries.get n = .known .silent r age) :
    effect (.peerLost n) s = if 4000 ≤ age then finish (peerIsLost n r age s) else s := by
  rw [effect_peerLost, hi, he]; rfl

/-- Settles O29. -/
theorem peerAges : Obligations.PeerAges := by
  intro n s r age
  refine ⟨fun hi he => ⟨fun ha => ?_, fun ha => ?_⟩, fun hi he => ⟨fun ha => ?_, fun ha => ?_⟩, fun hi => ⟨?_, ?_⟩⟩
  · rw [exec_effect, peerSilent_of_active hi he, if_pos ha]; rfl
  · rw [exec_effect, peerSilent_of_active hi he, if_neg (by omega)]
  · refine ⟨_, exec_effect _ s, ?_⟩
    rw [peerLost_of_silent hi he, if_pos ha]
    refine ⟨?_, ?_, fun hk => ?_⟩
    · simp [peerIsLost_writes]; split <;> simp
    · simp [peerIsLost_writes]; split <;> simp
    · have hc : (peerIsLost n r age s).controller = s.controller := by rw [peerIsLost_writes]; split <;> simp
      constructor
      · intro hz
        refine finish_cutFollows hc hk ?_
        rw [peerIsLost_writes, if_pos hz]
        exact reviewDemand_cutFollows rfl rfl rfl
      · intro hz
        rw [finish_of_railKept hc hk, peerIsLost_writes, if_neg hz]
        rfl
  · rw [exec_effect, peerLost_of_silent hi he, if_neg (by omega)]
  · rw [exec_effect, effect_peerSilent, hi]
  · rw [exec_effect, effect_peerLost, hi]

/-! ### The settle, isolation and duck timers -/

/-- Settles O31. -/
theorem settleIsolationAndDuckTimers : Obligations.SettleIsolationAndDuckTimers := by
  intro s
  refine ⟨fun k hk => ?_, fun k hk hd => ?_, fun k hd hk => ?_⟩
  · rw [exec_effect, effect_settleTimerExpiry, if_pos (by simp [hk])]
  · rw [exec_effect, effect_isolationTimerExpiry, if_pos (by simp [hk])]
    simp [duckFlagSet, hd, ms]
  · refine ⟨_, exec_effect _ s, ?_⟩
    rw [effect_duckTimerExpiry, if_pos ⟨hd, by simp [hk]⟩]
    refine ⟨by simp, by simp, by simp, fun hr hg hdist => ?_⟩
    have hc : (handTargets .scene { s with planner := { s.planner with duck := .on, duckTimer := none } }).controller =
        s.controller := by simp
    have hands := handTargets_of_generation (cause := .scene)
      (s := { s with planner := { s.planner with duck := .on, duckTimer := none } }) hg hdist
    have current := targetsCurrent_of_hands hands (by simp) (handTargets_targetNow _ _)
    refine ⟨?_, by simp, finish_targetsCurrent hc hr current, fun hf => ?_⟩
    · rw [finish_of_railKept hc hr]; simp
    · exact finish_newTargets hc hr (newTargets_of_hands hands (by simp) rfl rfl rfl hf)

end Sys2Proof.Machine
end

section
/-! PROOFS. The idle step and what is due (O2). -/

namespace Sys2Proof.Machine

/-! ### What is due -/

theorem mem_dueIf {c d : Instr} {b : Bool} : c ∈ dueIf d b ↔ c = d ∧ b = true := by
  unfold dueIf; split <;> simp [*]

theorem Timer.over_iff {t : Sys2Proof.Timer} : Timer.over t = true ↔ t = some 0 := by simp [Timer.over]

theorem inStart_eq_false {s : State} : inStart s = false ↔ s.controller.station ≠ .starting := by simp [inStart]

theorem mem_dueOfPeer {c : Instr} {s : State} {n : Station} :
    c ∈ dueOfPeer s n ↔ s.link.isolated = false ∧
      ((c = .peerSilent n ∧ ∃ r age, s.peers.entries.get n = .known .active r age ∧ 1200 ≤ age) ∨
        (c = .peerLost n ∧ ∃ r age, s.peers.entries.get n = .known .silent r age ∧ 4000 ≤ age)) := by
  unfold dueOfPeer
  cases hi : s.link.isolated with
  | true => simp
  | false =>
    cases he : s.peers.entries.get n with
    | absent => simp
    | self => simp
    | known life r age =>
      have le (k : Nat) : decide (ms k ≤ age) = true ↔ 4 * k ≤ age := decide_eq_true_iff
      cases life <;> simp [mem_dueIf, le]

theorem mem_dueOfChannel {c : Instr} {s : State} {n : Channel} :
    c ∈ dueOfChannel s n ↔
      (c = .stepTimerExpiry n ∧ (s.ramps.get n).stepTimer = some 0) ∨
      (c = .duckHoldExpiry n ∧ (s.ramps.get n).holdTimer = some 0 ∧ (s.ramps.get n).phase = .holding) ∨
      (c = .retryTimerExpiry n ∧ (s.protection.records.get n).retryTimer = some 0 ∧
        (s.protection.records.get n).state = .retryWait) ∨
      (c = .budgetTimerExpiry n ∧ (s.protection.records.get n).budgetTimer = some 0) := by
  simp [dueOfChannel, mem_dueIf, Timer.over_iff]

theorem mem_due {c : Instr} {s : State} :
    c ∈ due s ↔ c ∈ dueOfStation s ∨ (∃ n, c ∈ dueOfPeer s n) ∨ ∃ n, c ∈ dueOfChannel s n := by
  simp [due, mem_allStations, mem_allChannels]

theorem isTimed_of_due {c : Instr} {s : State} (h : c ∈ due s) : isTimed c = true := by
  rcases mem_due.1 h with hs | ⟨n, hp⟩ | ⟨n, hc⟩
  · simp only [dueOfStation, List.mem_append, mem_dueIf] at hs
    casesm* _ ∨ _, _ ∧ _
    all_goals subst_vars; rfl
  · obtain ⟨-, ⟨rfl, -⟩ | ⟨rfl, -⟩⟩ := mem_dueOfPeer.1 hp <;> rfl
  · obtain ⟨rfl, -⟩ | ⟨rfl, -⟩ | ⟨rfl, -⟩ | ⟨rfl, -⟩ := mem_dueOfChannel.1 hc <;> rfl

/-! ### The idle step -/

/-- Settles O2. -/
theorem idleStepQueuesFirstDueOrPassesTime : Obligations.IdleStepQueuesFirstDueOrPassesTime := by
  refine ⟨fun s hs => ⟨fun c rest hd => ?_, fun hd => ?_⟩, fun s => ⟨fun c hc => isTimed_of_due hc, ?_⟩⟩
  · rw [step_nil hs, idle, hd]
  · refine ⟨timePasses s, by rw [step_nil hs, idle, hd], hs, rfl, rfl, rfl, rfl, rfl, ?_⟩
    refine ⟨fun k hk => ?_, fun hk => ?_, fun k hk => ?_, fun hk => ?_, ?_, fun hi => ?_, fun n life r age hi he => ?_,
      fun n he => ?_, rfl, rfl, rfl, fun n => ?_, rfl, fun n => ?_, rfl, rfl⟩
    · simp [timePasses, hk, CycleTimerState.tick]
    · cases hc : s.cycle.cycle with
      | running k => exact absurd hc (hk k)
      | stopped => simp [timePasses, hc, CycleTimerState.tick]
      | markQueued => simp [timePasses, hc, CycleTimerState.tick]
    · simp [timePasses, hk, PresenceTimerState.tick]
    · cases hc : s.cycle.presence with
      | running k => exact absurd hc (hk k)
      | stopped => simp [timePasses, hc, PresenceTimerState.tick]
      | presenceQueued => simp [timePasses, hc, PresenceTimerState.tick]
    · simp only [timePasses, peersTick]; split <;> rfl
    · simp [timePasses, peersTick, hi]
    · simp [timePasses, peersTick, hi, he, entryTick, ageTick, ms]
    · simp only [timePasses, peersTick]
      split
      · rfl
      · rcases he with he | he <;> simp [he, entryTick]
    · simp [timePasses, RampRecord.tick, Timer.tick, oneLess]
    · simp [timePasses, Protection.tick, FaultRecord.tick, Timer.tick, oneLess]
  · simp [mem_due, mem_dueOfPeer, mem_dueOfChannel, dueOfStation, mem_dueIf, Timer.over_iff, inStart_eq_false,
      SpeedUnit.isOld_iff, Option.isSome_iff_ne_none, and_assoc]
    exact ⟨fun ⟨r, hr, hf, ha⟩ => ⟨hf, r, hr, ha⟩, fun ⟨hf, r, hr, ha⟩ => ⟨r, hr, hf, ha⟩⟩

end Sys2Proof.Machine
end

section
/-! PROOFS. What the release of the rail in RAIL_DOWN leaves, and the timers of the channels, the banks and the protection
(O32, O33, O34). -/

namespace Sys2Proof.Machine

/-! ### The closing of the rail window -/

theorem PerFault.set_get_self {α : Type} (p : PerFault α) (f : StationFault) : p.set f (p.get f) = p := by cases f <;> rfl

theorem clearRailFault_active (f : StationFault) (s : State) :
    (clearRailFault f s).protection.active = s.protection.active.set f false := by
  unfold clearRailFault; split
  · have hu : (withDemand (unmarkFault f) s).protection.active = s.protection.active.set f false := by simp
    have fold := foldl_field (fun t => t.protection.active) (g := fun s n => releaseFaultClaim n s) (fun _ _ => by simp)
      allChannels (withDemand (unmarkFault f) s)
    dsimp only
    cases f
    case railHigh => exact fold.trans hu
    all_goals exact hu
  next h => rw [← PerFault.set_get_self s.protection.active f, Bool.eq_false_of_not_eq_true h]; cases f <;> rfl

theorem closeWindow_active (s : State) :
    (closeWindow s).protection.active =
      ((s.protection.active.set .railSag false).set .railLow false).set .railHigh false := by
  simp [closeWindow, clearRailFault_active]

theorem closeWindow_conditions (s : State) :
    (closeWindow s).protection.conditions = { s.protection.conditions with
      railSag := .normal, railLow := .normal, railHigh := .normal, offset := .all .normal } := by
  simp [closeWindow]

theorem releaseRail_released {s : State} (h : s.controller.station = .railDown) : railReleased (releaseRail s) := by
  unfold releaseRail railReleased
  rw [closeWindow_active, closeWindow_conditions]
  simp [PerFault.set, h, ms, Condition.normal]

/-- A command that ends in RAIL_DOWN with the rail driven and every roster channel silent releases the rail (R183). -/
theorem finish_released {s : State} (hd : s.controller.station = .railDown) (he : railDriven s) (ha : allSilent s = true) :
    railReleased (finish s) := by
  have hr : takeSilence s = releaseRail s := if_pos ⟨hd, by simpa [railEnable] using he, ha⟩
  have h := releaseRail_released hd
  simpa [finish, hr] using h

theorem allSilent_eq_false_of_sounds {s : State} {d : RosterEntry} (hd : d ∈ s.loader.image.roster)
    (h : (s.ramps.get d.channel).currentGain ≠ .silent) : allSilent s = false :=
  Bool.eq_false_of_not_eq_true fun ha => h (by simpa using List.all_eq_true.1 ha d hd)

/-! ### One channel through the closing of the window -/

/-- A property of one ramp record that targets and the end of the FAULT claim keep outlasts the release of the rail. -/
theorem rampAt_windowInvariant (n : Channel) {Q : RampRecord → Prop}
    (take : ∀ hold t cls {r}, Q r → Q (RampRecord.take hold t cls r).record) (unfault : ∀ {r}, Q r → Q (RampRecord.remove .fault r)) :
    WindowInvariant fun s => Q (s.ramps.get n) := by
  have hand : HandInvariant fun s => Q (s.ramps.get n) :=
    { frame := fun hst h => by
        simp only [channelState, Prod.mk.injEq] at hst
        rwa [hst.1]
      hand := fun cause s d _ h => by
        unfold handTarget; dsimp only; split
        · exact h
        · rw [applyRamp_get]; split
          next hn => subst hn; exact take _ _ _ h
          next => exact h }
  refine { hand with clearHigh := fun {s} h => ?_, offsets := fun b h => h }
  unfold clearRailFault; dsimp only
  split
  · refine foldl_invariant (P := fun t : State => Q (t.ramps.get n)) ?_ (fun t m ht => ?_) allChannels
    · exact hand.withDemand (f := unmarkFault .railHigh) h
    · unfold releaseFaultClaim; split
      · exact ht
      · rw [removeClaim_get]; split
        next hn => subst hn; exact unfault ht
        next => exact ht
  · exact h

/-- A fault record that neither a channel silent notice nor the end of an offset condition moves outlasts the release of the
rail. -/
theorem recordAt_windowInvariant (n : Channel) {r : FaultRecord} (hs : ∀ m, r.silenced m = r) (ho : r.offsetClears = r) :
    WindowInvariant fun s => s.protection.records.get n = r := by
  have hand : HandInvariant fun s => s.protection.records.get n = r :=
    { frame := fun hst h => by
        simp only [channelState, Prod.mk.injEq] at hst
        rwa [hst.2.1]
      hand := fun cause s d _ h => by
        unfold handTarget; dsimp only; split
        · exact h
        · rw [applyRamp_records]; split
          next hn => simp [← hn.1, h, hs]
          next => exact h }
  refine { hand with clearHigh := fun {s} h => ?_, offsets := fun {s} b h => ?_ }
  · unfold clearRailFault; dsimp only
    split
    · rw [foldl_field (fun t => t.protection.records) (g := fun s n => releaseFaultClaim n s) (fun _ _ => by simp)]
      exact hand.withDemand (f := unmarkFault .railHigh) h
    · exact h
  · simp only [clearOffsets, PerChannel.get_of]
    split
    · rw [h, ho]
    · exact h

/-- A silent channel that holds the RAIL claim. -/
def RampRecord.RestsUnderRail (r : RampRecord) : Prop :=
  r.currentGain = .silent ∧ r.phase = .silent ∧ r.claims.rail.isSome = true

theorem RampRecord.RestsUnderRail.take {r : RampRecord} (h : r.RestsUnderRail) (hold : Nat) (t : Gain) (cls : RateClass) :
    (r.take hold t cls).record.RestsUnderRail := by
  obtain ⟨hg, hp, hc⟩ := h
  unfold RampRecord.take
  rw [hp]
  exact ⟨hg, rfl, hc⟩

theorem RampRecord.RestsUnderRail.unfault {r : RampRecord} (h : r.RestsUnderRail) : (r.remove .fault).RestsUnderRail := by
  unfold RampRecord.remove
  obtain ⟨hg, hp, hc⟩ := h
  have held : r.claims.set .fault none ≠ .empty := fun e => by
    have : (r.claims.set .fault none).rail = none := by rw [e]; rfl
    rw [show (r.claims.set .fault none).rail = r.claims.rail from rfl] at this
    simp [this] at hc
  split
  · exact ⟨hg, hp, hc⟩
  · dsimp only
    rw [if_neg held]
    exact ⟨hg, hp, hc⟩

theorem finish_restsUnderRail {n : Channel} {s : State} (h : (s.ramps.get n).RestsUnderRail) :
    ((finish s).ramps.get n).RestsUnderRail :=
  (rampAt_windowInvariant n (Q := RampRecord.RestsUnderRail) (fun hold t cls _ h => h.take hold t cls) fun h => h.unfault).finish h

/-! ### An operation on one channel -/

section
variable {n : Channel} {s : State} (r : RampResult)

/-- While another roster channel sounds, an operation on one channel leaves the controller. -/
theorem finish_applyRamp_beside (h : anotherSounds n s) : (finish (applyRamp n r s)).controller = s.controller := by
  obtain ⟨d, hd, hn, hg⟩ := h
  rw [finish_while_sounding (allSilent_eq_false_of_sounds (d := d) (by simpa using hd) (by rwa [applyRamp_get, if_neg hn]))]
  simp

theorem finish_applyRamp_kept (h : railKept s (finish (applyRamp n r s))) (m : Channel) :
    (finish (applyRamp n r s)).ramps.get m = if m = n then r.record else s.ramps.get m := by
  rw [finish_of_railKept (s := s) (by simp) h, (refreshPresence_keeps _).2.2.2.2.2.2.2.2.2.2.2.2.2.2.2.1, applyRamp_get]

/-- The operation that silences the last roster channel in RAIL_DOWN releases the rail (R126, R183). -/
theorem finish_applyRamp_released {r : RampResult} (hd : s.controller.station = .railDown) (he : railDriven s)
    (ho : othersSilent n s) (hr : r.record.RestsUnderRail) :
    railReleased (finish (applyRamp n r s)) ∧ ((finish (applyRamp n r s)).ramps.get n).currentGain = .silent ∧
      ((finish (applyRamp n r s)).ramps.get n).phase = .silent := by
  have rests : ((applyRamp n r s).ramps.get n).RestsUnderRail := by rw [applyRamp_get, if_pos rfl]; exact hr
  have silent : allSilent (applyRamp n r s) = true := by
    refine List.all_eq_true.2 fun d hd => decide_eq_true ?_
    rw [applyRamp_get]; split
    · exact hr.1
    next hn => exact ho d (by simpa using hd) hn
  obtain ⟨hg, hp, -⟩ := finish_restsUnderRail rests
  exact ⟨finish_released (by simpa using hd) (by simpa [railDriven] using he) silent, hg, hp⟩

end

/-! ### One step of a channel -/

section
variable {r : RampRecord} {k : Nat} {g : Int} (ht : r.stepTimer = some k) (hg : r.currentGain = .level g) (hold : Nat)
include ht

theorem step_of_open (hp : r.phase = .open) : (r.step hold).record = r.stepOpen := by
  unfold RampRecord.step; rw [ht, hp]; rfl

theorem step_of_fading (hp : r.phase = .fading) : (r.step hold).record = r.stepDown floorLevel RampRecord.fallSilent := by
  unfold RampRecord.step; rw [ht, hp]; rfl

theorem step_of_dipping (hp : r.phase = .dipping) :
    (r.step hold).record = r.stepDown (r.duckLevel.getD floorLevel) (RampRecord.reachDuckLevel hold) := by
  unfold RampRecord.step; rw [ht, hp]; rfl

omit ht
include hg

theorem stepDown_reaches {level : Int} (reached : RampRecord → RampRecord) (h : g - 1 ≤ level) :
    r.stepDown level reached = reached { r with currentGain := .level (g - 1), stepTimer := none } := by
  unfold RampRecord.stepDown; rw [hg]; exact if_pos h

theorem stepDown_goes_on {level : Int} (reached : RampRecord → RampRecord) (h : level < g - 1) :
    r.stepDown level reached = { r with currentGain := .level (g - 1), stepTimer := some (stepInterval .protect) } := by
  unfold RampRecord.stepDown; rw [hg]; exact if_neg (by omega)

theorem stepOpen_toward {l : Int} (hl : r.target = .level l) :
    r.stepOpen = { r with
      currentGain := .level (if g < l then g + 1 else if l < g then g - 1 else g)
      stepTimer := if (if g < l then g + 1 else if l < g then g - 1 else g) = l then none
        else some (stepInterval r.rateClass) } := by
  unfold RampRecord.stepOpen; rw [hg, hl]

theorem stepOpen_toward_silent (hl : r.target = .silent) :
    r.stepOpen.currentGain = if g - 1 ≤ -120 then .silent else .level (g - 1) := by
  unfold RampRecord.stepOpen; rw [hg, hl]
  by_cases h : g - 1 ≤ -120 <;> simp [h, floorLevel]

end

/-- Settles O32. -/
theorem stepTimerMovesOneStep : Obligations.StepTimerMovesOneStep := by
  intro n s k g ht hg
  refine ⟨_, exec_effect _ s, ?_⟩
  rw [effect_stepTimerExpiry, if_pos (by simp [ht])]
  refine ⟨finish_applyRamp_beside _, fun hk => ?_, fun hd he ho hp hl hc => ?_⟩
  · have at_n := (finish_applyRamp_kept _ hk n).trans (if_pos rfl)
    refine ⟨fun m hm => (finish_applyRamp_kept _ hk m).trans (if_neg hm), by rw [at_n, step_claims], fun hp => ?_, fun hp => ?_,
      fun hp level hlev => ?_⟩
    · rw [at_n, step_of_open ht _ hp]
      refine ⟨fun l hl hne => ?_, fun hl => stepOpen_toward_silent hg hl⟩
      rw [stepOpen_toward hg hl]
      refine ⟨?_, fun e => if_pos (by simpa using e), fun e => if_neg (by simpa using e)⟩
      rcases lt_or_gt_of_ne hne with h | h
      · rw [if_pos h, if_pos h]
      · rw [if_neg (not_lt_of_gt h), if_neg (not_lt_of_gt h), if_pos h]
    · rw [at_n, step_of_fading ht _ hp]
      refine ⟨fun hl => ?_, fun hl => ?_⟩
      · rw [stepDown_reaches hg _ (by simpa [floorLevel] using hl)]
        exact ⟨rfl, rfl, rfl⟩
      · rw [stepDown_goes_on hg _ (by simpa [floorLevel] using hl)]
        exact ⟨rfl, hp, rfl⟩
    · rw [at_n, step_of_dipping ht _ hp, hlev, Option.getD_some]
      refine ⟨fun hl => ?_, fun hl hh => ?_⟩
      · rw [stepDown_goes_on hg _ hl]
        exact ⟨rfl, rfl⟩
      · rw [stepDown_reaches hg _ hl, RampRecord.reachDuckLevel, if_neg (by omega)]
        exact ⟨rfl, rfl⟩
  · refine finish_applyRamp_released hd he ho ?_
    rw [step_of_fading ht _ hp, stepDown_reaches hg _ (by simpa [floorLevel] using hl)]
    exact ⟨rfl, rfl, hc⟩

/-! ### The end of a hold, and the preparation timer -/

theorem holdEnds_of_holding {r : RampRecord} {k : Nat} (hp : r.phase = .holding) (ht : r.holdTimer = some k) :
    r.holdEnds.record = r.fallSilent := by
  unfold RampRecord.holdEnds; rw [hp, ht]; rfl

theorem channelPrepared_of_preparing (i : Image) {q : Equaliser} {k : Nat} {n : Channel} {t : Settings}
    (hs : q.state = .preparing) (ht : q.timer = some k) (hn : q.position = some n) (hp : q.prepared = some t) :
    q.channelPrepared i = match q.list.find? fun m => decide (n < m) with
      | some m => { q with shadow := q.shadow.set n (some (bankFor i t n)), position := some m, timer := some (ms 2) }
      | none =>
        { q with shadow := q.shadow.set n (some (bankFor i t n)), position := none, timer := none, state := .complete } := by
  simp only [Equaliser.channelPrepared, hs, ht, hn, hp] <;> rfl

/-- Settles O33. -/
theorem duckHoldAndPreparationTimers : Obligations.DuckHoldAndPreparationTimers := by
  intro s
  refine ⟨fun n k hp ht => ?_, fun n k t hst hs ht hn hp => ?_⟩
  · refine ⟨_, exec_effect _ s, ?_⟩
    rw [effect_duckHoldExpiry, if_pos (by simp [ht])]
    refine ⟨finish_applyRamp_beside _, fun hk => ?_, fun hd he ho hc => ?_⟩
    · rw [(finish_applyRamp_kept _ hk n).trans (if_pos rfl), holdEnds_of_holding hp ht]
      exact ⟨rfl, rfl, rfl, rfl⟩
    · refine finish_applyRamp_released hd he ho ?_
      rw [holdEnds_of_holding hp ht]
      exact ⟨rfl, rfl, hc⟩
  · refine ⟨_, exec_effect _ s, ?_⟩
    rw [effect_preparationTimerExpiry, if_neg hst]
    dsimp only
    rw [channelPrepared_of_preparing _ hs ht hn hp]
    refine ⟨by split <;> simp, by split <;> rfl, fun h => ?_, fun m rest h => ?_⟩
    · rw [List.find?_eq_none.2 (by simpa using h)]
      exact ⟨rfl, rfl, rfl⟩
    · rw [← List.head?_filter, h]
      exact ⟨rfl, rfl, hs⟩

/-! ### The timers of the protection -/

/-- A changed own demand is compared with the cabin cut at once (R155). -/
theorem withDemand_cutFollows {f : State → State} {s : State} (hp : (f s).planner = s.planner)
    (h : ownDemand (f s) ≠ ownDemand s) : cutFollows s (withDemand f s) := by
  rw [withDemand, if_neg h]
  exact reviewDemand_cutFollows (by rw [hp]) (by rw [hp]) (by rw [hp])

theorem take_leaves_fault {hold : Nat} {t : Gain} {cls : RateClass} {r : RampRecord} (h : r.claims.fault = none) :
    (r.take hold t cls).record.claims.fault = none := by rw [take_claims, h]

theorem remove_leaves_fault (c : Claim) {r : RampRecord} (h : r.claims.fault = none) : (r.remove c).claims.fault = none := by
  have e := remove_get c .fault r
  simp only [ClaimSet.get] at e
  rw [e]; split
  · rfl
  · exact h

theorem remove_fault_claim (r : RampRecord) : (r.remove .fault).claims.fault = none := by
  have e := remove_get .fault .fault r
  simpa [ClaimSet.get] using e

/-- A retry clears the record, which the release of the rail then leaves as it is (R152, R183). -/
theorem finish_retried (n : Channel) (s : State) :
    (finish (releaseFaultClaim n (s.setRecord n (s.protection.records.get n).retried))).protection.records.get n =
      (s.protection.records.get n).retried := by
  refine (recordAt_windowInvariant n (r := (s.protection.records.get n).retried) (fun m => rfl) rfl).finish ?_
  simp

/-- Settles O34. -/
theorem protectionTimers : Obligations.ProtectionTimers := by
  intro s
  refine ⟨fun k hk => ?_, fun k hk => ?_, fun n k hs hk => ?_, fun n k hk => ?_⟩
  · rw [exec_effect, effect_riseGuardExpiry, if_pos (by simp [hk])]
  · refine ⟨_, exec_effect _ s, ?_⟩
    rw [effect_clipFallTimerExpiry, if_pos (by simp [hk])]
    refine ⟨by simp [Protection.clipFalls], by simp [Protection.clipFalls, ms], by simp [Protection.clipFalls],
      fun hc hr => finish_cutFollows (by simp) hr (withDemand_cutFollows rfl ?_)⟩
    show s.protection.clip - 1 + thermalContribution s + sagContribution s ≠
      s.protection.clip + thermalContribution s + sagContribution s
    omega
  · refine ⟨_, exec_effect _ s, ?_⟩
    rw [effect_retryTimerExpiry, if_pos ⟨hs, by simp [hk]⟩]
    refine ⟨finish_retried n s, fun hh => ?_, fun hh hr => ?_⟩
    · refine (rampAt_windowInvariant n (Q := fun r => r.claims.fault = none) (fun _ _ _ _ h => take_leaves_fault h)
        fun h => remove_leaves_fault _ h).finish ?_
      have reason : channelReason (s.protection.records.get n).retried = false := rfl
      simp [releaseFaultClaim, reason, hh, remove_fault_claim]
    · rw [finish_of_railKept (s := s) (by simp) hr]
      simp [releaseFaultClaim, hh]
  · rw [exec_effect, effect_budgetTimerExpiry, if_pos (by simp [hk])]
    rfl

end Sys2Proof.Machine
end

section
/-! PROOFS. How an engaged claim moves a channel (O47). -/

namespace Sys2Proof.Machine

namespace RampRecord

variable (hold : Nat) (k : SilencingKind) {r : RampRecord}

/-! ### The two slow engagements -/

theorem fallSilent_fallSilent (r : RampRecord) : r.fallSilent.fallSilent = r.fallSilent := rfl

theorem startFade_of_low (h : atOrBelow floorLevel r.currentGain = true) : r.startFade = r.fallSilent := if_pos h

theorem startFade_of_high (h : ¬atOrBelow floorLevel r.currentGain = true) : r.startFade = { r with
    phase := .fading, duckLevel := none, holdTimer := none,
    stepTimer := match r.phase with
      | .open => some (stepInterval .protect)
      | _ => some (r.stepTimer.getD (stepInterval .protect)) } := if_neg h

theorem startFade_phase (r : RampRecord) : r.startFade.phase = .silent ∨ r.startFade.phase = .fading := by
  by_cases h : atOrBelow floorLevel r.currentGain = true
  · rw [startFade_of_low h]; exact .inl rfl
  · rw [startFade_of_high h]; exact .inr rfl

theorem fallSilent_startFade (r : RampRecord) : r.startFade.fallSilent = r.fallSilent := by
  by_cases h : atOrBelow floorLevel r.currentGain = true
  · rw [startFade_of_low h, fallSilent_fallSilent]
  · rw [startFade_of_high h]; rfl

theorem startDip_of_low (h : atOrBelow (duckLevelFor r.target) r.currentGain = true) : r.startDip hold = { r with
    phase := .holding, duckLevel := some (duckLevelFor r.target), stepTimer := none, holdTimer := some (ms hold) } := if_pos h

theorem startDip_of_high (h : ¬atOrBelow (duckLevelFor r.target) r.currentGain = true) : r.startDip hold = { r with
    phase := .dipping, duckLevel := some (duckLevelFor r.target), stepTimer := some (stepInterval .protect) } := if_neg h

theorem startDip_phase (r : RampRecord) : (r.startDip hold).phase = .holding ∨ (r.startDip hold).phase = .dipping := by
  by_cases h : atOrBelow (duckLevelFor r.target) r.currentGain = true
  · rw [startDip_of_low hold h]; exact .inl rfl
  · rw [startDip_of_high hold h]; exact .inr rfl

theorem startDip_currentGain (r : RampRecord) : (r.startDip hold).currentGain = r.currentGain := by
  unfold startDip; dsimp only; split <;> rfl

theorem fallSilent_startDip (r : RampRecord) : (r.startDip hold).fallSilent = r.fallSilent := by
  unfold startDip; dsimp only; split <;> rfl

/-- A fade from a dip just begun is the fade from OPEN: the step timer of both stands at the PROTECT interval. -/
theorem startFade_startDip (hp : r.phase = .open) : (r.startDip hold).startFade = r.startFade := by
  by_cases hf : atOrBelow floorLevel r.currentGain = true
  · rw [startFade_of_low hf, startFade_of_low (by rwa [startDip_currentGain]), fallSilent_startDip]
  · rw [startFade_of_high hf, startFade_of_high (by rwa [startDip_currentGain])]
    by_cases hd : atOrBelow (duckLevelFor r.target) r.currentGain = true
    · rw [startDip_of_low hold hd, hp]; rfl
    · rw [startDip_of_high hold hd, hp]; rfl

/-! ### The table of R117 -/

theorem engage_of_silent (hp : r.phase = .silent) : r.engage hold k = r := by unfold engage; rw [hp]

theorem engage_hard (hp : r.phase ≠ .silent) : r.engage hold .hard = r.fallSilent := by
  unfold engage; split <;> simp_all

theorem engage_of_fading (hp : r.phase = .fading) (hk : k ≠ .hard) : r.engage hold k = r := by
  unfold engage; rw [hp]; cases k <;> simp_all

theorem engage_soft (hp : r.phase = .open ∨ r.phase = .dipping ∨ r.phase = .holding) :
    r.engage hold .soft = r.startFade := by
  unfold engage; rcases hp with hp | hp | hp <;> rw [hp]

theorem engage_duckHold_of_open (hp : r.phase = .open) :
    r.engage hold .duckHold = if r.currentGain = .silent then r.fallSilent else r.startDip hold := by
  unfold engage; rw [hp]

theorem engage_duckHold_of_held (hp : r.phase ≠ .open) : r.engage hold .duckHold = r := by
  unfold engage; split <;> simp_all

theorem engage_target (r : RampRecord) : (r.engage hold k).target = r.target := by
  unfold engage startFade startDip
  split
  any_goals dsimp only
  all_goals repeat' split
  all_goals rfl

/-- An engagement after a stronger or equal one moves nothing. -/
theorem engage_after_stronger {l : SilencingKind} (h : kindRank k ≤ kindRank l) :
    (r.engage hold l).engage hold k = r.engage hold l := by
  by_cases hs : r.phase = .silent
  · rw [engage_of_silent hold l hs, engage_of_silent hold k hs]
  cases l with
  | hard => rw [engage_hard hold hs, engage_of_silent hold k rfl]
  | soft =>
    have hk : k ≠ .hard := by rintro rfl; exact absurd h (by decide)
    by_cases hf : r.phase = .fading
    · rw [engage_of_fading hold .soft hf (by decide), engage_of_fading hold k hf hk]
    · have ho : r.phase = .open ∨ r.phase = .dipping ∨ r.phase = .holding := by cases hp : r.phase <;> simp_all
      rw [engage_soft hold ho]
      rcases startFade_phase r with hp | hp
      · exact engage_of_silent hold k hp
      · exact engage_of_fading hold k hp hk
  | duckHold =>
    have hk : k = .duckHold := by cases k <;> first | rfl | exact absurd h (by decide)
    subst hk
    by_cases ho : r.phase = .open
    · rw [engage_duckHold_of_open hold ho]
      split
      · exact engage_of_silent hold .duckHold rfl
      · exact engage_duckHold_of_held hold (by rcases startDip_phase hold r with hp | hp <;> simp [hp])
    · rw [engage_duckHold_of_held hold ho, engage_duckHold_of_held hold ho]

/-- An engagement before a stronger or equal one leaves no trace. -/
theorem engage_before_stronger {l : SilencingKind} (h : kindRank k ≤ kindRank l) :
    (r.engage hold k).engage hold l = r.engage hold l := by
  by_cases hs : r.phase = .silent
  · rw [engage_of_silent hold k hs]
  cases k with
  | hard =>
    have hl : l = .hard := by cases l <;> first | rfl | exact absurd h (by decide)
    subst hl; exact engage_after_stronger hold .hard le_rfl
  | soft =>
    cases l with
    | duckHold => exact absurd h (by decide)
    | soft => exact engage_after_stronger hold .soft le_rfl
    | hard =>
      by_cases hf : r.phase = .fading
      · rw [engage_of_fading hold .soft hf (by decide)]
      · have ho : r.phase = .open ∨ r.phase = .dipping ∨ r.phase = .holding := by cases hp : r.phase <;> simp_all
        rw [engage_soft hold ho, engage_hard hold hs]
        rcases startFade_phase r with hp | hp
        · by_cases hlow : atOrBelow floorLevel r.currentGain = true
          · rw [engage_of_silent hold .hard hp, startFade_of_low hlow]
          · rw [startFade_of_high hlow] at hp; exact absurd hp (by simp)
        · rw [engage_hard hold (by simp [hp]), fallSilent_startFade]
  | duckHold =>
    by_cases ho : r.phase = .open
    · rw [engage_duckHold_of_open hold ho]
      split
      next hg =>
        rw [engage_of_silent hold l rfl]
        cases l with
        | hard => rw [engage_hard hold hs]
        | soft => rw [engage_soft hold (.inl ho), startFade_of_low (by rw [hg]; rfl)]
        | duckHold => rw [engage_duckHold_of_open hold ho, if_pos hg]
      next hg =>
        have hp := startDip_phase hold r
        cases l with
        | hard => rw [engage_hard hold hs, engage_hard hold (by rcases hp with hp | hp <;> simp [hp]), fallSilent_startDip]
        | soft => rw [engage_soft hold (.inl ho), engage_soft hold (by rcases hp with hp | hp <;> simp [hp]), startFade_startDip hold ho]
        | duckHold =>
          rw [engage_duckHold_of_held hold (by rcases hp with hp | hp <;> simp [hp]), engage_duckHold_of_open hold ho, if_neg hg]
    · rw [engage_duckHold_of_held hold ho]

theorem engage_comm (l : SilencingKind) (r : RampRecord) :
    (r.engage hold k).engage hold l = (r.engage hold l).engage hold k := by
  rcases Nat.le_total (kindRank k) (kindRank l) with h | h
  · rw [engage_before_stronger hold k h, engage_after_stronger hold k h]
  · rw [engage_after_stronger hold l h, engage_before_stronger hold l h]

end RampRecord

open RampRecord in
/-- Settles O47. -/
theorem engagementFollowsTheTable : Obligations.EngagementFollowsTheTable := by
  intro hold k r
  have low {g : Int} (hg : r.currentGain = .level g) : atOrBelow floorLevel r.currentGain = true ↔ g ≤ -120 := by
    rw [hg]; exact decide_eq_true_iff
  have under {g : Int} (hg : r.currentGain = .level g) :
      atOrBelow (duckLevelFor r.target) r.currentGain = true ↔ g ≤ duckLevelFor r.target := by
    rw [hg]; exact decide_eq_true_iff
  have above : -120 ≤ duckLevelFor r.target := by unfold duckLevelFor floorLevel; split <;> omega
  have dip {g : Int} (hp : r.phase = .open) (hg : r.currentGain = .level g) :
      r.engage hold .duckHold = r.startDip hold := by
    rw [engage_duckHold_of_open hold hp, if_neg (by simp [hg])]
  refine ⟨engage_target hold k r, engage_claims hold k r, fun hp => engage_of_silent hold k hp, fun hp hk => ?_,
    fun hp hg => ?_, fun g hp hg => ⟨fun hk hl => ?_, fun hk hl => ?_, fun hk hl => ?_, fun hk => ⟨fun hl => ?_, fun hl => ?_⟩⟩,
    fun hp hk => engage_of_fading hold k hp hk,
    fun hp => ⟨fun hk => ?_, fun g hk hg hl => ?_, fun g hk hg hl => ?_⟩, fun l => engage_comm hold k l r⟩
  · rw [hk, engage_hard hold hp]
    exact ⟨rfl, rfl, rfl, rfl, rfl⟩
  · have hs : r.engage hold k = r.fallSilent := by
      cases k with
      | hard => exact engage_hard hold (by simp [hp])
      | soft => rw [engage_soft hold (.inl hp), startFade_of_low (by rw [hg]; rfl)]
      | duckHold => rw [engage_duckHold_of_open hold hp, if_pos hg]
    rw [hs]; exact ⟨rfl, rfl⟩
  · rw [hk, engage_soft hold (.inl hp), startFade_of_high (by rw [low hg]; omega), hp]
    exact ⟨rfl, hg, rfl⟩
  · rw [hk, engage_soft hold (.inl hp), startFade_of_low ((low hg).2 hl)]
    exact ⟨rfl, rfl⟩
  · rw [hk, dip hp hg, startDip_of_low hold ((under hg).2 (by omega))]
    exact ⟨rfl, by rw [← hl]; exact hg, rfl⟩
  · rw [hk, dip hp hg, startDip_of_high hold (by rw [under hg]; omega)]
    exact ⟨rfl, hg, rfl, rfl⟩
  · rw [hk, dip hp hg, startDip_of_low hold ((under hg).2 hl)]
    exact ⟨rfl, hg, rfl, rfl⟩
  · rw [hk]; exact engage_duckHold_of_held hold (by rcases hp with hp | hp <;> simp [hp])
  · rw [hk, engage_soft hold (.inr hp), startFade_of_high (by rw [low hg]; omega)]
    exact ⟨rfl, hg, rfl, rfl⟩
  · rw [hk, engage_soft hold (.inr hp), startFade_of_low ((low hg).2 hl)]
    exact ⟨rfl, rfl⟩

end Sys2Proof.Machine
end

section
/-! PROOFS. The notices of the Equaliser Bank (O50). -/

namespace Sys2Proof.Machine

/-! ### What preparation starts with -/

theorem mem_changedChannels {i : Image} {t : Settings} {active : PerChannel Bank} {n : Channel} :
    n ∈ changedChannels i t active ↔ ∃ d, descriptorOf i n = some d ∧ sectionsFor i t d.role ≠ active.get n := by
  unfold changedChannels bankFor
  rw [List.mem_filter]
  cases descriptorOf i n with
  | none => simp
  | some d => simp [mem_allChannels]

theorem changedChannels_ordered (i : Image) (t : Settings) (active : PerChannel Bank) :
    (changedChannels i t active).Pairwise (· < ·) :=
  List.Pairwise.filter _ (by decide)

namespace Equaliser

variable (i : Image) (t : Settings) {q : Equaliser}

theorem prepare_of_none (h : changedChannels i t q.active = []) : q.prepare i t =
    { q with shadow := .all none, prepared := some t, list := [], position := none, timer := none, state := .complete } := by
  unfold prepare; rw [h]

theorem prepare_of_some {n : Channel} {rest : List Channel} (h : changedChannels i t q.active = n :: rest) : q.prepare i t =
    { q with
      shadow := .all none, prepared := some t, list := n :: rest, position := some n, timer := some (ms 2)
      state := .preparing } := by
  unfold prepare; rw [h]

theorem prepare_list (q : Equaliser) : (q.prepare i t).list = changedChannels i t q.active := by
  cases h : changedChannels i t q.active with
  | nil => rw [prepare_of_none i t h]
  | cons n rest => rw [prepare_of_some i t h]

/-- Preparation starts with empty shadow banks, and moves neither the active banks nor the marks of a swap. -/
theorem prepare_keeps (q : Equaliser) :
    (q.prepare i t).prepared = some t ∧ (∀ n, (q.prepare i t).shadow.get n = none) ∧ (q.prepare i t).active = q.active ∧
      (q.prepare i t).activeSettings = q.activeSettings ∧ (q.prepare i t).swapDue = q.swapDue ∧
      (q.prepare i t).lateSwaps = q.lateSwaps := by
  cases h : changedChannels i t q.active with
  | nil => rw [prepare_of_none i t h]; exact ⟨rfl, PerChannel.get_all _, rfl, rfl, rfl, rfl⟩
  | cons n rest => rw [prepare_of_some i t h]; exact ⟨rfl, PerChannel.get_all _, rfl, rfl, rfl, rfl⟩

/-! ### The notices, case by case -/

theorem sceneStaged_of_active (hb : q.bypass = false) (ha : q.activeSettings = some t) :
    q.sceneStaged i t = q.abandon := by simp [sceneStaged, hb, ha]

theorem sceneStaged_of_prepared (hb : q.bypass = false) (ha : q.activeSettings ≠ some t) (hp : q.prepared = some t)
    (hs : q.state ≠ .idle) : q.sceneStaged i t = q := by simp [sceneStaged, hb, ha, hp, hs]

theorem sceneStaged_of_fresh (hb : q.bypass = false) (ha : q.activeSettings ≠ some t)
    (h : q.prepared ≠ some t ∨ q.state = .idle) : q.sceneStaged i t = q.prepare i t := by
  have h' : ¬(q.prepared = some t ∧ q.state ≠ .idle) := by tauto
  simp only [sceneStaged, hb, ha, if_neg h', if_false, Bool.false_eq_true]

theorem sceneApplied_of_active (hb : q.bypass = false) (ha : q.activeSettings = some t) :
    q.sceneApplied i t = { q.abandon with swapDue := false } := by simp [sceneApplied, hb, ha]

theorem sceneApplied_of_complete (hb : q.bypass = false) (ha : q.activeSettings ≠ some t) (hs : q.state = .complete)
    (hp : q.prepared = some t) : q.sceneApplied i t = q.swap := by simp [sceneApplied, hb, ha, hs, hp]

theorem sceneApplied_of_preparing (hb : q.bypass = false) (ha : q.activeSettings ≠ some t) (hp : q.prepared = some t)
    (hs : q.state = .preparing) :
    q.sceneApplied i t = { q with lateSwaps := countUp 65535 q.lateSwaps, swapDue := true } := by
  simp [sceneApplied, hb, ha, hs, hp]

theorem sceneApplied_of_fresh (hb : q.bypass = false) (ha : q.activeSettings ≠ some t)
    (h : q.prepared ≠ some t ∨ q.state = .idle) :
    q.sceneApplied i t =
      ({ q with lateSwaps := countUp 65535 q.lateSwaps, swapDue := true } : Equaliser).prepare i t := by
  have complete : ¬(q.state = .complete ∧ q.prepared = some t) := by
    rintro ⟨hs, hp⟩; rcases h with h | h
    · exact h hp
    · rw [hs] at h; exact absurd h (by decide)
  have preparing : ¬(q.state = .preparing ∧ q.prepared = some t) := by
    rintro ⟨hs, hp⟩; rcases h with h | h
    · exact h hp
    · rw [hs] at h; exact absurd h (by decide)
  simp only [sceneApplied, hb, ha, if_neg complete, if_neg preparing, if_false, Bool.false_eq_true]

theorem prepare_of_marked (k : Nat) (b : Bool) (q : Equaliser) :
    ({ q with lateSwaps := k, swapDue := b } : Equaliser).prepare i t =
      { q.prepare i t with lateSwaps := k, swapDue := b } := by
  cases h : changedChannels i t q.active with
  | nil => rw [prepare_of_none i t h, prepare_of_none i t (q := { q with lateSwaps := k, swapDue := b }) h]
  | cons n rest => rw [prepare_of_some i t h, prepare_of_some i t (q := { q with lateSwaps := k, swapDue := b }) h]

/-- A scene applied notice that finds no matching or complete bank counts a late swap, which a mark then makes (R138, R139). -/
theorem sceneApplied_late (hb : q.bypass = false) (ha : q.activeSettings ≠ some t)
    (h : q.state ≠ .complete ∨ q.prepared ≠ some t) :
    (q.sceneApplied i t).active = q.active ∧ (q.sceneApplied i t).activeSettings = q.activeSettings ∧
      (q.sceneApplied i t).lateSwaps = countUp 65535 q.lateSwaps ∧ (q.sceneApplied i t).swapDue = true := by
  by_cases hp : q.prepared = some t ∧ q.state = .preparing
  · rw [sceneApplied_of_preparing i t hb ha hp.1 hp.2]
    exact ⟨rfl, rfl, rfl, rfl⟩
  · have fresh : q.prepared ≠ some t ∨ q.state = .idle := by
      cases hs : q.state with
      | idle => exact .inr rfl
      | preparing => exact .inl fun e => hp ⟨e, hs⟩
      | complete => exact .inl (h.resolve_left fun e => e hs)
    rw [sceneApplied_of_fresh i t hb ha fresh, prepare_of_marked]
    obtain ⟨-, -, active, settings, -, -⟩ := prepare_keeps i t q
    exact ⟨active, settings, rfl, rfl⟩

theorem swap_active (q : Equaliser) (n : Channel) :
    q.swap.active.get n = if n ∈ q.list then (q.shadow.get n).getD (q.active.get n) else q.active.get n :=
  PerChannel.get_of _ _

end Equaliser

open Equaliser in
/-- Settles O50. -/
theorem banksArePreparedAndSwapped : Obligations.BanksArePreparedAndSwapped := by
  intro i t q
  obtain ⟨prepared, shadow, active, settings, due, late⟩ := prepare_keeps i t q
  refine ⟨fun hb => ?_, fun hb ha => sceneStaged_of_active i t hb ha, fun hb ha hp hs => sceneStaged_of_prepared i t hb ha hp hs,
    fun hb ha h => sceneStaged_of_fresh i t hb ha h,
    ⟨prepared, shadow, active, settings, due, late, fun n => ?_, ?_, fun h => ?_, fun n rest h => ?_⟩,
    fun hb ha hp hs => sceneApplied_of_preparing i t hb ha hp hs, fun hb ha h => ?_, fun hb ha => ?_, fun hb ha hs hp => ?_,
    fun hb ha h => sceneApplied_late i t hb ha h, fun hb hd hs hp => ?_, fun h => ?_⟩
  · simp [sceneStaged, sceneApplied, mark, hb]
  · rw [prepare_list, mem_changedChannels]
  · rw [prepare_list]; exact changedChannels_ordered i t q.active
  · rw [prepare_list] at h
    rw [prepare_of_none i t h]; exact ⟨rfl, rfl⟩
  · rw [prepare_list] at h
    rw [prepare_of_some i t h]; exact ⟨rfl, rfl, rfl⟩
  · rw [sceneApplied_of_fresh i t hb ha h, prepare_of_marked]
    exact ⟨rfl, rfl, prepared⟩
  · rw [sceneApplied_of_active i t hb ha]
    exact ⟨rfl, rfl, rfl, rfl⟩
  · rw [sceneApplied_of_complete i t hb ha hs hp]
    exact ⟨swap_active q, hp, rfl, rfl, rfl⟩
  · have hm : q.mark t = q.swap := by simp [mark, hb, hd, hs, hp]
    rw [hm]
    exact ⟨swap_active q, hp, rfl, rfl⟩
  · refine if_neg fun hm => ?_
    obtain ⟨-, hd, hs, hp⟩ := hm
    rcases h with h | h | h
    · simp [h] at hd
    · exact h hs
    · exact h hp

end Sys2Proof.Machine
end

section
/-! PROOFS. The key on the line and in a full queue (O49). -/

namespace Sys2Proof.Machine

/-! ### Arbitration -/

/-- The number that a list of bits spells, the most significant bit first. -/
def bitsValue : List Bool → Nat
  | [] => 0
  | b :: l => b.toNat * 2 ^ l.length + bitsValue l

theorem bitsValue_lt (l : List Bool) : bitsValue l < 2 ^ l.length := by
  induction l with
  | nil => decide
  | cons b l ih =>
    have := Bool.toNat_le b
    simp only [bitsValue, List.length_cons, pow_succ]
    nlinarith

theorem bitsValue_bitsOf : ∀ b : Byte, bitsValue (bitsOf b) = b.toNat := by decide

/-- The bits that spell the lower number prevail, whatever follows them (R163). -/
theorem prevails_of_bitsValue_lt {p q : List Bool} (hl : p.length = q.length) (h : bitsValue p < bitsValue q)
    (x y : List Bool) : prevails (p ++ x) (q ++ y) = true ∧ prevails (q ++ y) (p ++ x) = false := by
  induction p generalizing q with
  | nil =>
    obtain rfl : q = [] := List.length_eq_zero_iff.1 hl.symm
    exact absurd h (lt_irrefl _)
  | cons a p ih =>
    cases q with
    | nil => exact absurd hl (by simp)
    | cons b q =>
      have hl' : p.length = q.length := by simpa using hl
      have hp := bitsValue_lt p
      have hq := bitsValue_lt q
      simp only [bitsValue, hl'] at h hp
      cases a with
      | false =>
        cases b with
        | false => simpa [prevails] using ih hl' (by simpa using h)
        | true => simp [prevails]
      | true =>
        cases b with
        | false => simp at h; omega
        | true => simpa [prevails] using ih hl' (by simpa using h)

theorem lineBits_cons (a : Byte) (l : List Byte) : lineBits (a :: l) = bitsOf a ++ lineBits l := by
  simp [lineBits]

/-! ### A full queue -/

theorem rank_of_youngestAbove_none {rank : Nat} {l : List QueuedFrame} (h : youngestAbove rank l = none) :
    ∀ f ∈ l, ¬rank < f.body.rank := by
  induction l with
  | nil => exact fun f hf => absurd hf List.not_mem_nil
  | cons a l ih =>
    unfold youngestAbove at h
    split at h
    next hn =>
      split at h
      · exact absurd h (by simp)
      next ha => exact List.forall_mem_cons.2 ⟨ha, ih hn⟩
    next => split at h <;> exact absurd h (by simp)

theorem youngestAbove_isYoungest {rank : Nat} {l : List QueuedFrame} {g : QueuedFrame} (h : youngestAbove rank l = some g) :
    ∀ f ∈ l, rank < f.body.rank → f.stamp ≤ g.stamp := by
  induction l generalizing g with
  | nil => exact fun f hf => absurd hf List.not_mem_nil
  | cons a l ih =>
    unfold youngestAbove at h
    split at h
    next hn =>
      split at h
      next => cases h; exact List.forall_mem_cons.2 ⟨fun _ => le_rfl, fun f hf hr => absurd hr (rank_of_youngestAbove_none hn f hf)⟩
      next => exact absurd h (by simp)
    next g' hg' =>
      split at h
      next ha => cases h; exact List.forall_mem_cons.2 ⟨fun _ => le_rfl, fun f hf hr => (ih hg' f hf hr).trans ha.2.le⟩
      next ha => cases h; exact List.forall_mem_cons.2 ⟨fun hr => not_lt.1 fun hs => ha ⟨hr, hs⟩, ih hg'⟩

section
variable {b : FrameBody} {l : Link} (hr : replaceIn b l.waiting = none) (hs : sceneInTransmission b l = none)
  (hp : 8 ≤ l.placesHeld)
include hr hs hp

/-- A full queue gives the place of its youngest waiting frame of higher key to the new one (R168). -/
theorem give_displaces {g : QueuedFrame} (hg : youngestAbove b.rank l.waiting = some g) :
    l.give true b = (({ l with waiting := l.waiting.erase g }).countDrop.insert b, some g.body) := by
  unfold Link.give
  simp only [Bool.not_true, Bool.false_eq_true, if_false, hr, hs, if_neg (not_lt.2 hp), hg]

/-- A full queue of lower or equal keys has no place for the new frame (R168). -/
theorem give_dropped (hg : youngestAbove b.rank l.waiting = none) : l.give true b = (l.countDrop, some b) := by
  unfold Link.give
  simp only [Bool.not_true, Bool.false_eq_true, if_false, hr, hs, if_neg (not_lt.2 hp), hg]

end

theorem placesHeld_displaced {l : Link} {g : QueuedFrame} (hg : g ∈ l.waiting) (b : FrameBody) :
    (({ l with waiting := l.waiting.erase g }).countDrop.insert b).placesHeld = l.placesHeld := by
  have pos := List.length_pos_of_mem hg
  have length : (insertFrame ⟨b, l.nextStamp, false⟩ (l.waiting.erase g)).length = l.waiting.length := by
    rw [insertFrame_length, List.length_erase_of_mem hg]; omega
  exact congrArg (· + if l.sending.isSome then 1 else 0) length

/-- Settles O49. -/
theorem lowerKeyPrevailsOnLineAndInFullQueue : Obligations.LowerKeyPrevailsOnLineAndInFullQueue := by
  refine ⟨fun a b as bs h => ?_, fun l b hp hr hs => ⟨fun f hf hlt => ?_, fun h => ?_⟩⟩
  · rw [lineBits_cons, lineBits_cons]
    exact prevails_of_bitsValue_lt (p := bitsOf a) (q := bitsOf b) rfl (by rwa [bitsValue_bitsOf, bitsValue_bitsOf]) _ _
  · cases hg : youngestAbove b.rank l.waiting with
    | none => exact absurd hlt (rank_of_youngestAbove_none hg f hf)
    | some g =>
      obtain ⟨hmem, habove⟩ := youngestAbove_spec hg
      rw [give_displaces hr hs hp hg]
      refine ⟨g, hmem, habove, rfl, placesHeld_displaced hmem b, ⟨_, mem_insertFrame.2 (.inl rfl), rfl⟩,
        youngestAbove_isYoungest hg, rfl⟩
  · rw [give_dropped hr hs hp (youngestAbove_none h)]
    exact ⟨rfl, rfl⟩

end Sys2Proof.Machine
end

section
/-! PROOFS. What waits in the queue after a frame has been given and a command has ended: the new frame, where a place is free, and
no frame of a kind that none of the operations gives (R55, R167, R168). -/

namespace Sys2Proof.Machine

/-! ### A frame given where a place is free -/

theorem mem_replaceIn {new : FrameBody} {l l' : List QueuedFrame} (h : replaceIn new l = some l') :
    new ∈ l'.map QueuedFrame.body ∧
      ∀ c ∈ l.map QueuedFrame.body, replacedBy new c = false → c ∈ l'.map QueuedFrame.body := by
  induction l generalizing l' with
  | nil => cases h
  | cons f rest ih =>
    unfold replaceIn at h
    split at h
    next hr =>
      cases h
      refine ⟨List.mem_cons_self, fun c hc hn => ?_⟩
      rcases List.mem_cons.1 hc with rfl | hc
      · rw [hr] at hn; exact absurd hn (by decide)
      · exact List.mem_cons_of_mem _ hc
    next =>
      split at h
      · cases h
      next rest' hrest =>
        cases h
        obtain ⟨hnew, hold⟩ := ih hrest
        refine ⟨List.mem_cons_of_mem _ hnew, fun c hc hn => ?_⟩
        rcases List.mem_cons.1 hc with rfl | hc
        · exact List.mem_cons_self
        · exact List.mem_cons_of_mem _ (hold c hc hn)

theorem insert_placesHeld (b : FrameBody) (l : Link) : (l.insert b).placesHeld = l.placesHeld + 1 := by
  simp only [Link.placesHeld, Link.insert, insertFrame_length]
  exact Nat.add_right_comm _ _ _

/-- With a free place and no SCENE of its generation on the line, a frame waits; nothing ends, and what it does not replace waits
still (R167). -/
theorem give_waits {b : FrameBody} {l : Link} (hp : l.placesHeld < 8) (hs : sceneInTransmission b l = none) :
    b ∈ (l.give true b).1.bodies ∧ (l.give true b).2 = none ∧ (l.give true b).1.placesHeld ≤ l.placesHeld + 1 ∧
      (l.give true b).1.sending = l.sending ∧
      ∀ c ∈ l.bodies, replacedBy b c = false → c ∈ (l.give true b).1.bodies := by
  cases hr : replaceIn b l.waiting with
  | some w =>
    have e : l.give true b = ({ l with waiting := w }, none) := by simp [Link.give, hr]
    obtain ⟨hnew, hold⟩ := mem_replaceIn hr
    have places : ({ l with waiting := w } : Link).placesHeld = l.placesHeld := by
      simp only [Link.placesHeld, replaceIn_length hr]
    rw [e]
    exact ⟨hnew, rfl, places.le.trans (Nat.le_succ _), rfl, hold⟩
  | none =>
    rw [give_takes_place hr hs hp]
    exact ⟨mem_bodies_insert.2 (.inl rfl), rfl, (insert_placesHeld b l).le, rfl, fun c hc _ => mem_bodies_insert.2 (.inr hc)⟩

theorem sceneInTransmission_of_notScene {b : FrameBody} (h : b.kind ≠ .scene) (l : Link) : sceneInTransmission b l = none := by
  cases b with
  | scene a => exact absurd rfl h
  | _ => rfl

theorem sceneInTransmission_of_noSceneInFlight {s : State} (h : noSceneInFlight s) (b : FrameBody) :
    sceneInTransmission b s.link = none := by
  refine sceneInTransmission_eq_none fun a c hb hc => ?_
  subst hb
  unfold sceneInTransmission Link.sendingBody at hc
  cases hs : s.link.sending with
  | none => rw [hs] at hc; cases hc
  | some x =>
    rw [hs] at hc
    dsimp only at hc
    cases hx : x.frame.body with
    | scene sc => exact h x sc hs hx
    | _ => rw [hx] at hc; cases hc

theorem admitsFrames_of_queueHasPlace {s : State} (h : queueHasPlace s) : admitsFrames s = true := by
  obtain ⟨h1, h2, h3, -⟩ := h
  unfold admitsFrames StationState.admits
  cases hs : s.controller.station <;> simp_all

/-- A frame given where a place is free is all that changes (R167). -/
theorem giveFrame_waits {b : FrameBody} {s : State} (h : queueHasPlace s) (hs : sceneInTransmission b s.link = none) :
    giveFrame b s = { s with link := (s.link.give true b).1 } ∧ b ∈ (giveFrame b s).link.bodies ∧
      (giveFrame b s).link.placesHeld ≤ s.link.placesHeld + 1 ∧ (giveFrame b s).link.sending = s.link.sending ∧
      ∀ c ∈ s.link.bodies, replacedBy b c = false → c ∈ (giveFrame b s).link.bodies := by
  obtain ⟨hb, hn, hle, hsend, hold⟩ := give_waits h.2.2.2 hs
  have e : giveFrame b s = { s with link := (s.link.give true b).1 } := by
    unfold giveFrame; dsimp only
    rw [admitsFrames_of_queueHasPlace h, hn]
  rw [e]
  exact ⟨rfl, hb, hle, hsend, hold⟩

/-! ### The end of a command -/

theorem mem_bodies_refreshPresence {c : FrameBody} {s : State} (hc : c.kind ≠ .presence) :
    c ∈ (refreshPresence s).link.bodies ↔ c ∈ s.link.bodies := by
  have refreshed (f : QueuedFrame) : (if f.body.isPresence then { f with body := .presence (ownReport s) } else f).body = c ↔
      f.body = c := by
    have other (r : Report) : FrameBody.presence r ≠ c := fun e => hc (by rw [← e]; rfl)
    cases hb : f.body <;> simp [FrameBody.isPresence, hb, other]
  simp only [mem_bodies, refreshPresence, List.mem_map]
  constructor
  · rintro ⟨_, ⟨f, hf, rfl⟩, hb⟩
    exact ⟨f, hf, (refreshed f).1 hb⟩
  · rintro ⟨f, hf, hb⟩
    exact ⟨_, ⟨f, hf, rfl⟩, (refreshed f).2 hb⟩

@[simp] theorem takeSilence_link (s : State) : (takeSilence s).link = s.link := by simp

theorem mem_bodies_finish {c : FrameBody} {s : State} (hc : c.kind ≠ .presence) :
    c ∈ (finish s).link.bodies ↔ c ∈ s.link.bodies := by
  rw [finish, mem_bodies_refreshPresence hc, takeSilence_link]

/-! ### Kinds that an operation does not give -/

/-- A property of the queue that no operation but the giving of a frame of kind `k` can break. -/
structure QuietOn (k : FrameKind) (Q : Link → Prop) : Prop where
  kind : k ≠ .offer ∧ k ≠ .presence
  fewer : ∀ {l m : Link}, m.bodies.Sublist l.bodies → Q l → Q m
  give : ∀ {l : Link} (admits : Bool) {b : FrameBody}, b.kind ≠ k → Q l → Q (l.give admits b).1
  refresh : ∀ {l : Link} (r : Report), Q l → Q (l.refreshed r)

namespace QuietOn

variable {k : FrameKind} {Q : Link → Prop} (I : QuietOn k Q) {s : State}
include I

theorem same {l m : Link} (h : Q l) (hw : m.waiting = l.waiting) : Q m :=
  I.fewer (l := l) (by rw [Link.bodies, Link.bodies, hw]) h

omit I in
theorem of_link {t : State} (e : t.link = s.link) (h : Q s.link) : Q t.link := by rwa [e]

theorem withdraw {l : Link} (fits : FrameBody → Bool) (h : Q l) : Q (l.withdraw fits) :=
  I.fewer (List.eraseP_sublist.map _) h

theorem queueSpeedOffer (o : Offer) (h : Q s.link) : Q (queueSpeedOffer o s).link := by
  unfold Machine.queueSpeedOffer; dsimp only
  have hg := I.give (admitsFrames s) (b := .offer o) (Ne.symm I.kind.1) h
  split
  · exact hg
  · split
    · exact hg
    · exact of_link (timerNotice_link _ _) hg

theorem offerCheck (h : Q s.link) : Q (offerCheck s).link := by
  unfold Machine.offerCheck; repeat' split
  · exact I.queueSpeedOffer _ h
  · exact h
  · exact h

theorem offerEnds (h : Q s.link) : Q (offerEnds s).link := I.offerCheck h

theorem frameEnds (b : FrameBody) (h : Q s.link) : Q (frameEnds b s).link := by
  unfold Machine.frameEnds; split
  · exact I.offerEnds h
  · exact of_link (by simp) h

theorem giveFrame {b : FrameBody} (hb : b.kind ≠ k) (h : Q s.link) : Q (giveFrame b s).link := by
  unfold Machine.giveFrame; dsimp only
  have hg := I.give (admitsFrames s) hb h
  split
  · exact hg
  · exact I.frameEnds _ hg

theorem startFirstPresence (h : Q s.link) : Q (startFirstPresence s).link := by
  unfold Machine.startFirstPresence; split
  · exact I.giveFrame (Ne.symm I.kind.2) h
  · exact h

theorem wake (h : Q s.link) : Q (wake s).link := by
  unfold Machine.wake; dsimp only; split
  · refine I.startFirstPresence ?_
    split <;> exact of_link (by simp) h
  · exact h

theorem goodFrame (h : Q s.link) : Q (goodFrame s).link := by
  unfold Machine.goodFrame Machine.frameHeard; dsimp only
  have ended : Q s.link.lineFrameEnded := I.fewer (by rw [lineFrameEnded_bodies]) h
  split
  · split
    · exact I.same ended (by simp)
    · exact I.same ended (by simp)
  · exact I.same ended rfl

theorem finish (h : Q s.link) : Q (finish s).link := by
  have e : (Machine.finish s).link = s.link.refreshed (ownReport (takeSilence s)) := by
    simp [Machine.finish, refreshPresence, Link.refreshed]
  rw [e]; exact I.refresh _ h

theorem queueApplied (hk : k ≠ .scene) (h : Q s.link) : Q (queueApplied s).link := by
  unfold Machine.queueApplied; split
  · exact I.giveFrame (Ne.symm hk) h
  · exact h

theorem announce (hk : k ≠ .scene) (h : Q s.link) : Q (announce s).link := by
  unfold Machine.announce; split
  · exact h
  · exact I.queueApplied hk h

theorem applyStaged (hk : k ≠ .scene ∨ s.scene.staged = none) (h : Q s.link) : Q (applyStaged s).link := by
  unfold Machine.applyStaged; split
  · exact h
  next sc hsc =>
    have hk : k ≠ .scene := hk.resolve_right (by simp [hsc])
    exact I.announce hk (of_link (by simp) h)

theorem received {rx : Reception} {handle : State → State} (handled : ∀ t : State, Q t.link → Q (handle t).link)
    (hr : routed rx s) (h : Q s.link) : Q (received rx handle s).link := by
  refine I.finish ?_
  rw [receive_of_routed hr]; split
  · exact handled _ (I.wake (I.goodFrame h))
  · exact I.wake (handled _ (I.goodFrame h))

end QuietOn

/-- Every waiting frame of kind `k` is one of the listed. -/
def waitsWithin (k : FrameKind) (L : List FrameBody) (l : Link) : Prop := ∀ b ∈ l.bodies, b.kind = k → b ∈ L

theorem waitsWithin_bodies (k : FrameKind) (l : Link) : waitsWithin k l.bodies l := fun _ hb _ => hb

theorem waitsWithin_quietOn {k : FrameKind} (hk : k ≠ .offer ∧ k ≠ .presence) (L : List FrameBody) :
    QuietOn k (waitsWithin k L) where
  kind := hk
  fewer hs h b hb he := h b (hs.subset hb) he
  give admits b hb h c hc he := by
    rcases mem_bodies_give hc with rfl | hc
    · exact absurd he hb
    · exact h c hc he
  refresh r h b hb he := by
    obtain ⟨f, hf, rfl⟩ := mem_bodies.1 hb
    obtain ⟨g, hg, rfl⟩ := List.mem_map.1 hf
    by_cases hp : g.body.isPresence = true
    · rw [if_pos hp] at he; exact absurd he.symm hk.2
    · rw [if_neg hp] at he ⊢; exact h _ (mem_bodies.2 ⟨g, hg, rfl⟩) he

theorem noSceneQueued_of_waitsWithin {s t : State} (h : waitsWithin .scene s.link.bodies t.link) : noSceneQueued s t :=
  fun f hf sc hb => mem_bodies.1 (hb ▸ h f.body (mem_bodies.2 ⟨f, hf, rfl⟩) (by rw [hb]; rfl))

theorem noAlertQueued_of_waitsWithin {s t : State} (h : waitsWithin .alert s.link.bodies t.link) : noAlertQueued s t :=
  fun f hf a hb => mem_bodies.1 (hb ▸ h f.body (mem_bodies.2 ⟨f, hf, rfl⟩) (by rw [hb]; rfl))

end Sys2Proof.Machine
end

section
/-! PROOFS. The state that a routed frame's block finds, whether it or the wake comes first (R166, R184), and the MARK at the Cycle
Timer (O8). -/

namespace Sys2Proof.Machine

/-! ### The state after a wake -/

theorem closeWindow_controller (s : State) : (closeWindow s).controller = s.controller := by simp

theorem enterRailUp_controller (s : State) : (enterRailUp s).controller = { s.controller with
    station := railUpEnd s
    rail := if s.pins.railGood then .up else .rising
    stabiliseTimer := if s.pins.railGood then some 200 else none
    railGoodTimer := if s.pins.railGood then none else some 400
    downTimer := none, railRetryTimer := none } := by
  unfold enterRailUp railUpEnd
  cases hp : s.pins.railGood <;> simp [hp, ms, enterStabilising]

theorem wake_station {s : State} (h : s.controller.station = .resting) :
    (wake s).controller.station = if s.protection.active.thermalShut then .shutdown else railUpEnd s := by
  unfold wake; dsimp only
  rw [if_pos h]
  split
  next ht => simp_all
  next ht =>
    have up : railUpEnd (removeAll .rest s) = railUpEnd s := by simp [railUpEnd]
    simp_all [enterRailUp_controller]

theorem railUpEnd_cases (s : State) : railUpEnd s = .stabilising ∨ railUpEnd s = .railUp := by
  unfold railUpEnd; split
  · exact .inl rfl
  · exact .inr rfl

/-- A station that has woken is in one of three states (R184). -/
theorem wake_station_cases {s : State} (h : s.controller.station = .resting) :
    (wake s).controller.station = .shutdown ∨ (wake s).controller.station = .stabilising ∨
      (wake s).controller.station = .railUp := by
  rw [wake_station h]; split
  · exact .inl rfl
  · exact .inr (railUpEnd_cases s)

theorem wake_listening {s : State} (h : listening s) : listening (wake s) := by
  by_cases hs : s.controller.station = .resting
  · obtain e | e | e := wake_station_cases hs <;> exact ⟨by rw [e]; decide, by rw [e]; decide⟩
  · rwa [wake_of_not_resting hs]

/-! ### What a block finds -/

/-- The state in which the block of a routed frame takes it: the frame has been heard, and a RESTING station may have woken. -/
structure Heard (s t : State) : Prop where
  scene : t.scene = s.scene
  loader : t.loader = s.loader
  equaliser : t.equaliser = s.equaliser
  speed : t.speed.source = s.speed.source ∧ t.speed.state = s.speed.state ∧ t.speed.desired = s.speed.desired ∧
    t.speed.fallTimer = s.speed.fallTimer
  counters : t.link.counters.butDrops = s.link.counters.butDrops
  listening : listening s → listening t
  cases : t = goodFrame s ∨ t = wake (goodFrame s)

theorem goodFrame_listening {s : State} (h : listening s) : listening (goodFrame s) := by simpa [listening] using h

theorem heard_goodFrame (s : State) : Heard s (goodFrame s) where
  scene := by simp
  loader := by simp
  equaliser := by simp
  speed := by simp
  counters := by simp
  listening := goodFrame_listening
  cases := .inl rfl

theorem heard_wake (s : State) : Heard s (wake (goodFrame s)) where
  scene := by simp
  loader := by simp
  equaliser := by simp
  speed := by simp
  counters := by simp
  listening h := wake_listening (goodFrame_listening h)
  cases := .inr rfl

/-- What the handling of a frame brings about, and the wake and the end of the command keep, holds after the command. -/
theorem received_of_heard {P : State → Prop} {rx : Reception} {handle : State → State} {s : State} (hr : routed rx s)
    (handled : ∀ t, Heard s t → P (handle t)) (woken : ∀ t, P t → P (wake t)) (finished : ∀ t, P t → P (finish t)) :
    P (received rx handle s) := by
  refine finished _ ?_
  rw [receive_of_routed hr]; split
  · exact handled _ (heard_wake s)
  · exact woken _ (handled _ (heard_goodFrame s))

/-- An awake station takes the frame in the state in which it has been heard. -/
theorem received_awake {rx : Reception} {handle : State → State} {s : State} (hr : routed rx s)
    (hn : s.controller.station ≠ .resting) (hh : (handle (goodFrame s)).controller.station ≠ .resting) :
    received rx handle s = finish (handle (goodFrame s)) := by
  have awake : (goodFrame s).controller.station ≠ .resting := by simpa using hn
  rw [received, receive_of_routed hr, wake_of_not_resting awake, wake_of_not_resting hh, ite_self]

theorem goodFrame_bodies (s : State) : (goodFrame s).link.bodies = s.link.bodies := by
  simp [goodFrame, Link.lineFrameEnded, Link.bodies, Function.comp_def]

theorem goodFrame_placesHeld (s : State) : (goodFrame s).link.placesHeld = s.link.placesHeld := by
  simp [goodFrame, Link.lineFrameEnded, Link.placesHeld]

theorem goodFrame_hasPlace {s : State} (h : queueHasPlace s) : queueHasPlace (goodFrame s) := by
  simpa [queueHasPlace, goodFrame_placesHeld] using h

theorem goodFrame_noSceneInFlight {s : State} (h : noSceneInFlight s) : noSceneInFlight (goodFrame s) := by
  intro x sc hx; exact h x sc (by simpa using hx)

/-! ### The cycle timer -/

section
variable {c : CycleTimerState} (hc : c ≠ .markQueued) {s : State}
include hc

/-- The end of a MARK finds nothing to do while none is queued. -/
theorem timerNotice_cycle (b : FrameBody) (h : s.cycle.cycle = c) : (timerNotice b s).cycle.cycle = c := by
  unfold timerNotice
  cases b with
  | mark n =>
    unfold markEnds; dsimp only
    split
    next hm => exact absurd (h.symm.trans hm) hc
    all_goals exact h
  | presence r => unfold presenceEnds; dsimp only; split <;> exact h
  | _ => exact h

theorem queueSpeedOffer_cycle (o : Offer) (h : s.cycle.cycle = c) : (queueSpeedOffer o s).cycle.cycle = c := by
  unfold queueSpeedOffer; dsimp only; repeat' split
  · exact h
  · exact h
  · exact timerNotice_cycle hc _ h

theorem offerCheck_cycle (h : s.cycle.cycle = c) : (offerCheck s).cycle.cycle = c := by
  unfold offerCheck; repeat' split
  · exact queueSpeedOffer_cycle hc _ h
  all_goals exact h

theorem frameEnds_cycle (b : FrameBody) (h : s.cycle.cycle = c) : (frameEnds b s).cycle.cycle = c := by
  unfold frameEnds; split
  · exact offerCheck_cycle hc h
  · exact timerNotice_cycle hc _ h

theorem giveFrame_cycle (b : FrameBody) (h : s.cycle.cycle = c) : (giveFrame b s).cycle.cycle = c := by
  unfold giveFrame; dsimp only; split
  · exact h
  · exact frameEnds_cycle hc _ h

theorem startFirstPresence_cycle (h : s.cycle.cycle = c) : (startFirstPresence s).cycle.cycle = c := by
  unfold startFirstPresence; split
  · exact giveFrame_cycle hc _ h
  · exact h

theorem applyStaged_cycle (h : s.cycle.cycle = c) : (applyStaged s).cycle.cycle = c := by
  unfold applyStaged announce queueApplied; repeat' split
  · exact h
  · simpa using h
  · exact giveFrame_cycle hc _ (by simpa using h)
  · simpa using h

theorem markEvent_cycle (o : MarkOrder) (h : s.cycle.cycle = c) : (markEvent o s).cycle.cycle = c := by
  have turn (b : Bool) {f : State → State} (hf : ∀ t : State, t.cycle.cycle = c → (f t).cycle.cycle = c) {t : State}
      (ht : t.cycle.cycle = c) : (inTurn b f t).cycle.cycle = c := by
    unfold inTurn; split
    · exact hf t ht
    · exact ht
  have bank (t : State) (ht : t.cycle.cycle = c) : (bankMark t).cycle.cycle = c := ht
  have planner (t : State) (ht : t.cycle.cycle = c) : (plannerMark t).cycle.cycle = c := by simpa using ht
  have stage (t : State) (ht : t.cycle.cycle = c) : (resyncAtMark (stagePending t)).cycle.cycle = c := by simpa using ht
  exact turn _ bank (turn _ stage (turn _ bank (turn _ planner (turn _ (fun _ ht => applyStaged_cycle hc ht) (turn _ planner
    (turn _ bank h))))))

end

theorem restartCycle_cycle (s : State) :
    (restartCycle s).cycle.cycle = if s.cycle.cycle = .stopped then .stopped else .running (80 + s.loader.own.val) := by
  unfold restartCycle
  split
  next h => simp [h]
  all_goals next h => rw [h]; rfl

/-- A MARK that has been taken leaves a timer that is not stopped running afresh (R44). -/
theorem takeMark_cycle (n : CycleNumber) (o : MarkOrder) (s : State) :
    (takeMark n o s).cycle.cycle = if s.cycle.cycle = .stopped then .stopped else .running (80 + s.loader.own.val) := by
  refine markEvent_cycle ?_ o ?_
  · split <;> simp
  · rw [restartCycle_cycle]; rfl

theorem finish_cycle (s : State) : (finish s).cycle = s.cycle := by simp

theorem takeMark_number (n : CycleNumber) (o : MarkOrder) (s : State) : (takeMark n o s).cycle.number = n := by
  simp [takeMark, adoptNumber]

theorem wake_cycle {s : State} (h : s.controller.station = .resting) :
    (wake s).cycle.cycle = .running (80 + s.loader.own.val) := by
  unfold wake; dsimp only
  rw [if_pos h]
  refine startFirstPresence_cycle (by simp) ?_
  split <;> simp [startCycle, cycleDuration, own, ms]

/-! ### The waiting MARK -/

/-- At most `k` MARKs wait. -/
def marksAtMost (k : Nat) (l : Link) : Prop := (l.bodies.filter FrameBody.isMark).length ≤ k

theorem marksAtMost_iff {k : Nat} {l : Link} :
    marksAtMost k l ↔ (l.waiting.filter fun f => f.body.isMark).length ≤ k := by
  rw [marksAtMost, Link.bodies, List.filter_map, List.length_map]; rfl

theorem marksAtMost_places {k : Nat} {l : Link} : marksAtMost k l ↔ countKind .mark l.places ≤ k := by
  rw [marksAtMost_iff, marksWaiting_eq]

theorem countKind_sublist {k : FrameKind} {w v : List (FrameKind × Option Generation)} (h : v.Sublist w) :
    countKind k v ≤ countKind k w := h.countP_le

theorem countKind_cons_of_ne {k : FrameKind} {b : FrameBody} (hb : b.kind ≠ k) (w : List (FrameKind × Option Generation)) :
    countKind k (b.summary :: w) = countKind k w :=
  List.countP_cons_of_neg (by simp [FrameBody.summary, hb])

/-- A frame given adds none of another kind to those that wait. -/
theorem countKind_give {k : FrameKind} {b : FrameBody} (hb : b.kind ≠ k) (admits : Bool) (l : Link) :
    countKind k (l.give admits b).1.places ≤ countKind k l.places := by
  have inserted {m : Link} (hm : m.places.Sublist l.places) : countKind k (m.insert b).places ≤ countKind k l.places := by
    have e : countKind k (m.insert b).places = countKind k (b.summary :: m.places) := (insert_places b m).countP_eq _
    rw [e, countKind_cons_of_ne hb]
    exact countKind_sublist hm
  have out := give_outcome admits b l
  generalize l.give admits b = g at out ⊢
  cases out with
  | ended k => exact le_rfl
  | onTheLine k => exact le_rfl
  | replaces w hw =>
    have e : ({ l with waiting := w } : Link).places = l.places := replaceIn_places hw
    rw [e]
  | takesPlace => exact inserted (List.Sublist.refl _)
  | displaces g => exact inserted (m := ({ l with waiting := l.waiting.erase g } : Link).countDrop) (List.erase_sublist.map _)

theorem marksAtMost_quietOn (k : Nat) : QuietOn .mark (marksAtMost k) where
  kind := by decide
  fewer hs h := (hs.filter _).length_le.trans h
  give {l} admits {b} hb h := marksAtMost_places.2 ((countKind_give hb admits l).trans (marksAtMost_places.1 h))
  refresh r h := by rw [marksAtMost_places, refreshed_places, ← marksAtMost_places]; exact h

/-- The withdrawal of the first of the frames that fit leaves one fewer of them. -/
theorem countP_eraseP {α : Type} (p : α → Bool) (l : List α) : (l.eraseP p).countP p = l.countP p - 1 := by
  induction l with
  | nil => rfl
  | cons a l ih =>
    by_cases ha : p a = true
    · rw [List.eraseP_cons_of_pos ha, List.countP_cons_of_pos ha, Nat.add_sub_cancel]
    · rw [List.eraseP_cons_of_neg ha, List.countP_cons_of_neg ha, List.countP_cons_of_neg ha, ih]

theorem withdrawn_marks {l : Link} (h : marksAtMost 1 l) : marksAtMost 0 (l.withdraw FrameBody.isMark) := by
  rw [marksAtMost_iff, ← List.countP_eq_length_filter] at h ⊢
  rw [Link.withdraw, countP_eraseP]
  omega

namespace QuietOn

variable {k : FrameKind} {Q : Link → Prop} (I : QuietOn k Q) {s : State}
include I

theorem markEvent (o : MarkOrder) (hk : k ≠ .scene) (h : Q s.link) : Q (markEvent o s).link := by
  have turn (b : Bool) {f : State → State} (hf : ∀ t : State, Q t.link → Q (f t).link) {t : State} (ht : Q t.link) :
      Q (inTurn b f t).link := by
    unfold inTurn; split
    · exact hf t ht
    · exact ht
  have bank (t : State) (ht : Q t.link) : Q (bankMark t).link := ht
  have planner (t : State) (ht : Q t.link) : Q (plannerMark t).link := of_link (by simp) ht
  have stage (t : State) (ht : Q t.link) : Q (resyncAtMark (stagePending t)).link := of_link (by simp) ht
  exact turn _ bank (turn _ stage (turn _ bank (turn _ planner (turn _ (fun _ ht => I.applyStaged (.inl hk) ht) (turn _ planner
    (turn _ bank h))))))

end QuietOn

theorem takeMark_marks {n : CycleNumber} {o : MarkOrder} {s : State} (h : marksAtMost 1 s.link) :
    marksAtMost 0 (takeMark n o s).link := by
  refine (marksAtMost_quietOn 0).markEvent o (by decide) ?_
  have e : (restartCycle (adoptNumber n { s with link := s.link.withdraw FrameBody.isMark })).link =
      s.link.withdraw FrameBody.isMark := by simp
  rw [e]; exact withdrawn_marks h

/-- Settles O8. -/
theorem markReceivedAtTheCycleTimer : Obligations.MarkReceivedAtTheCycleTimer := by
  intro rx n o s hr
  have number : (effect (.markReceived rx n o) s).cycle.number = n := by
    rw [effect_markReceived]
    exact received_of_heard (P := fun t => t.cycle.number = n) hr (fun t _ => takeMark_number n o t)
      (fun t h => by simpa using h) fun t h => by simpa using h
  have awake (hn : s.controller.station ≠ .resting) : (effect (.markReceived rx n o) s).cycle.cycle =
      if s.cycle.cycle = .stopped then .stopped else .running (80 + s.loader.own.val) := by
    have hk : (takeMark n o (goodFrame s)).controller.station ≠ .resting := by simpa using hn
    rw [effect_markReceived, received_awake hr hn hk, finish_cycle, takeMark_cycle]
    simp
  refine ⟨_, exec_effect _ s, number, fun h => ?_, fun hc hn => ?_, fun h f hf => ?_⟩
  · by_cases hn : s.controller.station = .resting
    · rw [effect_markReceived, received, finish_cycle, receive_of_routed hr]
      split
      · rw [takeMark_cycle, wake_cycle (by simpa using hn)]
        simp
      · rw [wake_cycle (by simpa using hn)]
        simp
    · rw [awake hn, if_neg (h.resolve_right hn)]
  · rw [awake hn, if_pos hc]
  · have one : marksAtMost 1 s.link := marksAtMost_iff.2 h
    have none : marksAtMost 0 (effect (.markReceived rx n o) s).link := by
      rw [effect_markReceived, received]
      refine (marksAtMost_quietOn 0).finish ?_
      rw [receive_of_routed hr]; split
      · exact takeMark_marks ((marksAtMost_quietOn 1).wake ((marksAtMost_quietOn 1).goodFrame one))
      · exact (marksAtMost_quietOn 0).wake (takeMark_marks ((marksAtMost_quietOn 1).goodFrame one))
    rw [marksAtMost_iff, Nat.le_zero, List.length_eq_zero_iff, List.filter_eq_nil_iff] at none
    exact Bool.eq_false_of_not_eq_true (none f hf)

end Sys2Proof.Machine
end

section
/-! PROOFS. Offers received (O12, O13). -/

namespace Sys2Proof.Machine

/-! ### What a given frame leaves in the queue -/

/-- A frame of no higher key than the new one, which does not replace it, stays (R167, R168). -/
theorem mem_give_of_rank {admits : Bool} {b c : FrameBody} {l : Link} (hc : c ∈ l.bodies) (hr : replacedBy b c = false)
    (hrank : ¬b.rank < c.rank) : c ∈ (l.give admits b).1.bodies := by
  have out := give_outcome admits b l
  generalize l.give admits b = g at out ⊢
  cases out with
  | ended k => exact hc
  | onTheLine k => exact hc
  | replaces w hw => exact (mem_replaceIn hw).2 c hc hr
  | takesPlace => exact mem_bodies_insert.2 (.inr hc)
  | displaces g _ _ hg hgr =>
    refine mem_bodies_insert.2 (.inr ?_)
    obtain ⟨f, hf, rfl⟩ := mem_bodies.1 hc
    have ne : f ≠ g := by rintro rfl; exact hrank hgr
    exact mem_bodies.2 ⟨f, (List.mem_erase_of_ne ne).2 hf, rfl⟩

/-- Where a place is free, every frame that the new one does not replace stays (R167). -/
theorem mem_give_of_place {admits : Bool} {b c : FrameBody} {l : Link} (hc : c ∈ l.bodies) (hr : replacedBy b c = false)
    (hp : l.placesHeld < 8) : c ∈ (l.give admits b).1.bodies := by
  have out := give_outcome admits b l
  generalize l.give admits b = g at out ⊢
  cases out with
  | ended k => exact hc
  | onTheLine k => exact hc
  | replaces w hw => exact (mem_replaceIn hw).2 c hc hr
  | takesPlace => exact mem_bodies_insert.2 (.inr hc)
  | displaces g _ _ _ _ hn => exact absurd hp hn

theorem queueSpeedOffer_link (o : Offer) (s : State) :
    (queueSpeedOffer o s).link = (s.link.give (admitsFrames s) (.offer o)).1 := by
  unfold queueSpeedOffer; dsimp only; repeat' split
  · rfl
  · rfl
  · exact timerNotice_link _ _

/-- The offer check gives at most an OFFER. -/
theorem offerCheck_link (s : State) :
    (offerCheck s).link = s.link ∨ ∃ o, (offerCheck s).link = (s.link.give (admitsFrames s) (.offer o)).1 := by
  unfold offerCheck; repeat' split
  · exact .inr ⟨_, queueSpeedOffer_link _ s⟩
  · exact .inl rfl
  · exact .inl rfl

theorem offerCheck_of_not_due {s : State} (h : offerDue s = false) : offerCheck s = s := by
  rw [offerCheck, h]; rfl

theorem offerDue_of_spacing {s : State} (h : s.speed.spacingTimer ≠ none) : offerDue s = false := by
  simp [offerDue, h]

theorem offerDue_of_unit {s : State} (h : s.scene.unit ≠ .agreed) : offerDue s = false := by
  simp [offerDue, h]

theorem mem_offerCheck_of_place {c : FrameBody} {s : State} (hc : c ∈ s.link.bodies) (hp : s.link.placesHeld < 8) :
    c ∈ (offerCheck s).link.bodies := by
  rcases offerCheck_link s with e | ⟨o, e⟩
  · rwa [e]
  · rw [e]; exact mem_give_of_place hc (by cases c <;> rfl) hp

/-- An OFFER that waits outlasts the offer check, and every frame of higher key given. -/
theorem mem_offerCheck_offer {w : Offer} {s : State} (hc : .offer w ∈ s.link.bodies) :
    .offer w ∈ (offerCheck s).link.bodies := by
  rcases offerCheck_link s with e | ⟨o, e⟩
  · rwa [e]
  · rw [e]; exact mem_give_of_rank hc rfl (lt_irrefl _)

theorem mem_frameEnds_offer {w : Offer} {b : FrameBody} {s : State} (hc : .offer w ∈ s.link.bodies) :
    .offer w ∈ (frameEnds b s).link.bodies := by
  unfold frameEnds; split
  · exact mem_offerCheck_offer (s := { s with speed := { s.speed with offerWaiting := false } }) hc
  · rwa [timerNotice_link]

theorem mem_giveFrame_offer {w : Offer} {b : FrameBody} {s : State} (hb : 2 ≤ b.rank) (hr : replacedBy b (.offer w) = false)
    (hc : .offer w ∈ s.link.bodies) : .offer w ∈ (giveFrame b s).link.bodies := by
  have given := mem_give_of_rank (admits := admitsFrames s) hc hr (not_lt.2 hb)
  unfold giveFrame; dsimp only; split
  · exact given
  · exact mem_frameEnds_offer given

/-! ### Withdrawal -/

theorem mem_withdraw {fits : FrameBody → Bool} {c : FrameBody} {l : Link} (hc : c ∈ l.bodies) (hf : fits c = false) :
    c ∈ (l.withdraw fits).bodies := by
  obtain ⟨f, hm, rfl⟩ := mem_bodies.1 hc
  exact mem_bodies.2 ⟨f, (List.mem_eraseP_of_neg (by simpa using hf)).2 hm, rfl⟩

theorem waits_iff {fits : FrameBody → Bool} {l : Link} : l.waits fits = true ↔ ∃ c ∈ l.bodies, fits c = true := by
  simp [Link.waits, Link.bodies]

theorem withdraw_placesHeld {fits : FrameBody → Bool} {l : Link} (h : l.waits fits = true) :
    (l.withdraw fits).placesHeld + 1 = l.placesHeld := by
  obtain ⟨c, hc, hf⟩ := waits_iff.1 h
  obtain ⟨f, hm, rfl⟩ := mem_bodies.1 hc
  have pos := List.length_pos_of_mem hm
  have length := List.length_eraseP_of_mem (p := fun f : QueuedFrame => fits f.body) hm hf
  unfold Link.placesHeld Link.withdraw
  dsimp only
  rw [length]
  omega

theorem withdraw_placesHeld_le (fits : FrameBody → Bool) (l : Link) : (l.withdraw fits).placesHeld ≤ l.placesHeld :=
  Nat.add_le_add_right List.length_eraseP_le _

/-! ### The watch over equivalent offers -/

theorem isOfferLike_offer (o w : Offer) : FrameBody.isOfferLike o (.offer w) = sameStep o w := rfl

theorem watchOffer_of_waits {o : Offer} {s : State} (hp : offerPasses o = true)
    (hw : s.link.waits (FrameBody.isOfferLike o) = true) :
    watchOffer o s = offerEnds { s with link := s.link.withdraw (FrameBody.isOfferLike o) } := by
  simp [watchOffer, hp, hw]

theorem watchOffer_cases (o : Offer) (s : State) :
    watchOffer o s = s ∨ (s.link.waits (FrameBody.isOfferLike o) = true ∧
      watchOffer o s = offerEnds { s with link := s.link.withdraw (FrameBody.isOfferLike o) }) := by
  unfold watchOffer; split
  next h => exact .inr ⟨(Bool.and_eq_true_iff.1 h).2, rfl⟩
  next => exact .inl rfl

/-- The withdrawal of an OFFER frees the place that the one which follows it takes. -/
theorem mem_watchOffer {o : Offer} {c : FrameBody} {s : State} (hc : c ∈ s.link.bodies) (hk : FrameBody.isOfferLike o c = false)
    (hp : s.link.placesHeld ≤ 8) : c ∈ (watchOffer o s).link.bodies := by
  rcases watchOffer_cases o s with e | ⟨hw, e⟩
  · rwa [e]
  · rw [e]
    have := withdraw_placesHeld hw
    exact mem_offerCheck_of_place
      (s := { s with link := s.link.withdraw (FrameBody.isOfferLike o), speed := { s.speed with offerWaiting := false } })
      (mem_withdraw hc hk) (by show (s.link.withdraw _).placesHeld < 8; omega)

theorem mem_watchOffer_offer {o w : Offer} {s : State} (hc : .offer w ∈ s.link.bodies) (hk : sameStep o w = false) :
    .offer w ∈ (watchOffer o s).link.bodies := by
  rcases watchOffer_cases o s with e | ⟨-, e⟩
  · rwa [e]
  · rw [e]
    exact mem_offerCheck_offer
      (s := { s with link := s.link.withdraw (FrameBody.isOfferLike o), speed := { s.speed with offerWaiting := false } })
      (mem_withdraw hc hk)

end Sys2Proof.Machine
end

section
/-! PROOFS. Offers received (O12, O13). -/

namespace Sys2Proof.Machine

/-! ### Generations -/

theorem unitListens_iff {s : State} : unitListens s = true ↔ listening s := by
  unfold unitListens listening
  cases s.controller.station <;> simp

theorem older_iff {a b : Generation} : older a b = true ↔ 1 ≤ (b - a).toNat ∧ (b - a).toNat ≤ 32767 := by simp [older]

theorem newer_iff {a b : Generation} : newer a b = true ↔ 1 ≤ (a - b).toNat ∧ (a - b).toNat ≤ 32767 := by simp [newer]

theorem unrelated_iff {a b : Generation} : unrelated a b = true ↔ (a - b).toNat = 32768 := by simp [unrelated]

theorem older_not_unrelated {a b : Generation} (h : older a b = true) : unrelated a b = false := by
  rw [older_iff] at h
  rw [Bool.eq_false_iff, Ne, unrelated_iff]
  bv_omega

theorem newer_not_unrelated {a b : Generation} (h : newer a b = true) : unrelated a b = false := by
  rw [newer_iff] at h
  rw [Bool.eq_false_iff, Ne, unrelated_iff]
  omega

theorem newer_not_older {a b : Generation} (h : newer a b = true) : older a b = false := by
  rw [newer_iff] at h
  rw [Bool.eq_false_iff, Ne, older_iff]
  bv_omega

/-! ### The outcome of an offer -/

section
variable {base g : Generation} {staged : Option Generation}

theorem offerOutcome_accepted (h : base = g ∨ staged = some base) : offerOutcome base g staged = .accepted := if_pos h

section
variable (h : ¬(base = g ∨ staged = some base))
include h

theorem offerOutcome_unrelated (hu : unrelated base g = true) : offerOutcome base g staged = .unrelated := by
  rw [offerOutcome, if_neg h, if_pos hu]

theorem offerOutcome_stale (ho : older base g = true) : offerOutcome base g staged = .stale := by
  rw [offerOutcome, if_neg h, older_not_unrelated ho, if_neg (by decide), if_pos ho]

theorem offerOutcome_newer (hn : newer base g = true) :
    offerOutcome base g staged = if newer base (staged.getD g) then .behind else .overtaken := by
  rw [offerOutcome, if_neg h, newer_not_unrelated hn, newer_not_older hn, if_neg (by decide), if_neg (by decide)]

end
end

/-- What an offer of each outcome does (R23, R24, R25). -/
def afterOutcome (n : Station) (o : Offer) (s : State) : OfferOutcome → State
  | .accepted => { s with scene := { s.scene with pending := merge o n s.scene.pending } }
  | .stale => queueApplied (s.count LinkCounters.addStaleOffer)
  | .behind => enterResync o.base s
  | .unrelated | .overtaken => refuseOffer s

section
variable {n : Station} {o : Offer} {s : State} (hl : listening s)
include hl

theorem takeOffer_refused (h : offerPasses o = false ∨ s.scene.unit ≠ .agreed) : takeOffer n o s = refuseOffer s := by
  unfold takeOffer
  rw [if_pos (unitListens_iff.2 hl)]
  split
  next hp =>
    have hu := h.resolve_left (by simp [hp])
    cases hs : s.scene.unit with
    | agreed => exact absurd hs hu
    | provisional => rfl
    | resync => rfl
  · rfl

theorem takeOffer_measured (hp : offerPasses o = true) (hu : s.scene.unit = .agreed) : takeOffer n o s = measureOffer n o s := by
  unfold takeOffer
  rw [if_pos (unitListens_iff.2 hl), if_pos hp, hu]

variable {g : Generation} (hp : offerPasses o = true) (hu : s.scene.unit = .agreed) (hg : s.scene.applied.generation = some g)
include hp hu hg

theorem takeOffer_outcome :
    takeOffer n o s = afterOutcome n o s (offerOutcome o.base g (s.scene.staged.map Scene.generation)) := by
  rw [takeOffer_measured hl hp hu]
  unfold measureOffer
  rw [hg]
  dsimp only
  cases offerOutcome o.base g (s.scene.staged.map Scene.generation) <;> rfl

theorem takeOffer_accepted (h : o.base = g ∨ ∃ sc, s.scene.staged = some sc ∧ o.base = sc.generation) :
    takeOffer n o s = { s with scene := { s.scene with pending := merge o n s.scene.pending } } := by
  rw [takeOffer_outcome hl hp hu hg, offerOutcome_accepted]
  · rfl
  · refine h.imp_right ?_
    rintro ⟨sc, hs, hb⟩
    rw [hs, hb]; rfl

end

/-- An OFFER gives at most one frame, of kind SCENE or FETCH. -/
theorem takeOffer_gives (n : Station) (o : Offer) (s : State) : ∃ u : State, u.link.waiting = s.link.waiting ∧
    u.link.sending = s.link.sending ∧ u.speed = s.speed ∧
    (takeOffer n o s = u ∨ ∃ b : FrameBody, (b.kind = .scene ∨ b.kind = .fetch) ∧ takeOffer n o s = giveFrame b u) := by
  have outcome (x : OfferOutcome) : ∃ u : State, u.link.waiting = s.link.waiting ∧ u.link.sending = s.link.sending ∧
      u.speed = s.speed ∧ (afterOutcome n o s x = u ∨
        ∃ b : FrameBody, (b.kind = .scene ∨ b.kind = .fetch) ∧ afterOutcome n o s x = giveFrame b u) := by
    cases x with
    | stale =>
      unfold afterOutcome queueApplied
      dsimp only
      split
      · exact ⟨s.count LinkCounters.addStaleOffer, rfl, rfl, rfl, .inr ⟨_, .inl rfl, rfl⟩⟩
      · exact ⟨s.count LinkCounters.addStaleOffer, rfl, rfl, rfl, .inl rfl⟩
    | behind =>
      exact ⟨{ s with scene := { s.scene with
        unit := .resync, pending := emptyRecord, conflict := none, fetch := some ⟨o.base, 1, 320⟩ } }, rfl, rfl, rfl,
        .inr ⟨_, .inr rfl, rfl⟩⟩
    | accepted => exact ⟨afterOutcome n o s .accepted, rfl, rfl, rfl, .inl rfl⟩
    | unrelated => exact ⟨refuseOffer s, rfl, rfl, rfl, .inl rfl⟩
    | overtaken => exact ⟨refuseOffer s, rfl, rfl, rfl, .inl rfl⟩
  by_cases hl : listening s
  · by_cases hr : offerPasses o = false ∨ s.scene.unit ≠ .agreed
    · rw [takeOffer_refused hl hr]
      exact ⟨refuseOffer s, rfl, rfl, rfl, .inl rfl⟩
    · simp only [not_or, Bool.not_eq_false, not_not] at hr
      obtain ⟨hp, hu⟩ := hr
      cases hg : s.scene.applied.generation with
      | some g => rw [takeOffer_outcome hl hp hu hg]; exact outcome _
      | none =>
        have e : takeOffer n o s = s := by rw [takeOffer_measured hl hp hu, measureOffer, hg]
        rw [e]; exact ⟨_, rfl, rfl, rfl, .inl rfl⟩
  · have e : takeOffer n o s = s := if_neg fun h => hl (unitListens_iff.1 h)
    rw [e]; exact ⟨_, rfl, rfl, rfl, .inl rfl⟩

/-! ### The own OFFER that waits -/

theorem giveFrame_of_spacing {b : FrameBody} {s : State} {k : Nat} (h : s.speed.spacingTimer = some k) :
    (giveFrame b s).link = (s.link.give (admitsFrames s) b).1 ∧ (giveFrame b s).speed.spacingTimer = some k := by
  unfold giveFrame; dsimp only
  split
  · exact ⟨rfl, h⟩
  · unfold frameEnds
    split
    · unfold offerEnds
      rw [offerCheck_of_not_due (offerDue_of_spacing (by simp [h]))]
      exact ⟨rfl, h⟩
    · exact ⟨timerNotice_link _ _, by simpa using h⟩

theorem countP_eraseP_of_imp {α : Type} {p q : α → Bool} {l : List α} {a : α} (ha : a ∈ l) (hq : q a = true)
    (h : ∀ x, q x = true → p x = true) : (l.eraseP q).countP p + 1 = l.countP p := by
  obtain ⟨b, l₁, l₂, -, hb, hl, he⟩ := List.exists_of_eraseP ha hq
  rw [he, hl, List.countP_append, List.countP_append, List.countP_cons_of_pos (h b hb)]
  omega

theorem isOffer_iff_kind {b : FrameBody} : b.isOffer = true ↔ b.kind = .offer := by
  cases b <;> simp [FrameBody.isOffer, FrameBody.kind]

theorem offersWaiting_eq (l : Link) : (l.waiting.filter fun f => f.body.isOffer).length = countKind .offer l.places := by
  have kind (f : QueuedFrame) : f.body.isOffer = decide (f.body.summary.1 = .offer) := by cases f.body <;> rfl
  unfold countKind Link.places
  rw [List.countP_map, List.countP_eq_length_filter]
  simp only [kind, Function.comp_def]

theorem isOffer_of_isOfferLike {o : Offer} {b : FrameBody} (h : FrameBody.isOfferLike o b = true) : b.isOffer = true := by
  cases b <;> first | rfl | cases h

/-- The withdrawal of the one own OFFER that waits, while no other can follow it (R86, R87, R88). -/
theorem watchOffer_withdraws {o w : Offer} {k : Nat} {s : State} (hp : offerPasses o = true) (hk : s.speed.spacingTimer = some k)
    (hw : .offer w ∈ s.link.bodies) (hs : sameStep o w = true) (h1 : countKind .offer s.link.places ≤ 1) :
    (watchOffer o s).speed.offerWaiting = false ∧ ∀ b ∈ (watchOffer o s).link.bodies, b.isOffer = false := by
  obtain ⟨f, hf, hb⟩ := mem_bodies.1 hw
  have like : (fun f : QueuedFrame => FrameBody.isOfferLike o f.body) f = true := by rw [← hs]; simp only [hb]; rfl
  have last := countP_eraseP_of_imp (p := fun f : QueuedFrame => f.body.isOffer) hf like fun x hx => isOffer_of_isOfferLike hx
  rw [← offersWaiting_eq, ← List.countP_eq_length_filter] at h1
  rw [watchOffer_of_waits hp (waits_iff.2 ⟨_, hw, hs⟩), offerEnds,
    offerCheck_of_not_due (offerDue_of_spacing (by simp [hk]))]
  refine ⟨rfl, fun b hb => ?_⟩
  obtain ⟨f, hf, rfl⟩ := mem_bodies.1 hb
  have none : (s.link.waiting.eraseP fun f => FrameBody.isOfferLike o f.body).countP (fun f => f.body.isOffer) = 0 := by omega
  exact Bool.eq_false_of_not_eq_true (List.countP_eq_zero.1 none f hf)

/-! ### The merge -/

theorem merge_get (o : Offer) (n : Station) (p : PendingRecord) (f : Field) : (merge o n p).get f = mergeField o n p f :=
  PerField.get_of _ f

theorem replaces_iff {rank : Nat} {n : Station} {e : Entry} :
    replaces rank n (some e) = true ↔ e.rank < rank ∨ (rank = e.rank ∧ e.proposer < n) := by simp [replaces]

theorem replaces_none (rank : Nat) (n : Station) : replaces rank n none = true := rfl

theorem mergeField_none {o : Offer} {n : Station} {p : PendingRecord} {f : Field} (h : o.values.get f = none) :
    mergeField o n p f = p.get f := by rw [mergeField, h]

theorem mergeField_some {o : Offer} {n : Station} {p : PendingRecord} {f : Field} {v : Int} (h : o.values.get f = some v) :
    mergeField o n p f = if replaces o.rank n (p.get f) then some ⟨v, o.rank, n⟩ else p.get f := by rw [mergeField, h]

/-- Two offers of different rank or proposer decide a field alike in either order (R12). -/
theorem mergeField_comm {o₁ o₂ : Offer} {n₁ n₂ : Station} (h : o₁.rank ≠ o₂.rank ∨ n₁ ≠ n₂) (p : PendingRecord) (f : Field) :
    mergeField o₂ n₂ (merge o₁ n₁ p) f = mergeField o₁ n₁ (merge o₂ n₂ p) f := by
  cases h₁ : o₁.values.get f with
  | none =>
    rw [mergeField_none (p := merge o₂ n₂ p) h₁, merge_get]
    unfold mergeField
    rw [merge_get, mergeField_none h₁]
  | some v₁ =>
    cases h₂ : o₂.values.get f with
    | none =>
      rw [mergeField_none (p := merge o₁ n₁ p) h₂, merge_get]
      unfold mergeField
      rw [merge_get, mergeField_none h₂]
    | some v₂ =>
      rw [mergeField_some h₂, mergeField_some h₁, merge_get, merge_get, mergeField_some h₁, mergeField_some h₂]
      have ne : o₁.rank ≠ o₂.rank ∨ n₁.val ≠ n₂.val := h.imp_right fun e => fun e' => e (Fin.ext e')
      cases p.get f with
      | none =>
        simp only [replaces_none, if_true, replaces_iff, Fin.lt_def]
        split_ifs <;> first | rfl | omega
      | some e =>
        by_cases r₁ : replaces o₁.rank n₁ (some e) = true <;> by_cases r₂ : replaces o₂.rank n₂ (some e) = true <;>
          simp only [r₁, r₂, if_true, if_false, Bool.false_eq_true, replaces_iff, Fin.lt_def]
        all_goals rw [replaces_iff, Fin.lt_def] at r₁ r₂
        all_goals split_ifs <;> first | rfl | omega

/-- Settles O12. -/
theorem acceptedOfferIsMergedFieldByField : Obligations.AcceptedOfferIsMergedFieldByField := by
  refine ⟨fun rx o s g hr hl hu hg hp hb => ?_, fun o n p f => ⟨fun h => ?_, fun v hv => ⟨fun h => ?_, fun e he => ⟨fun h => ?_,
    fun h => ?_⟩⟩⟩, fun o₁ o₂ n₁ n₂ p h => ?_, fun rx o s hr hn hp => ?_⟩
  · refine ⟨_, exec_effect _ s, ?_⟩
    rw [effect_offerReceived]
    refine received_of_heard (P := fun t => t.scene = { s.scene with pending := merge o rx.sender s.scene.pending }) hr
      (fun t ht => ?_) (fun t h => by simpa using h) fun t h => by simpa using h
    have e := takeOffer_accepted (n := rx.sender) (o := o) (s := t) (g := g) (ht.listening hl) hp (by rw [ht.scene, hu])
      (by rw [ht.scene, hg]) (by rw [ht.scene]; exact hb)
    simp only [watchOffer_keeps, e, ht.scene]
  · rw [merge_get, mergeField_none h]
  · rw [merge_get, mergeField_some hv, h, replaces_none, if_pos rfl]
  · rw [merge_get, mergeField_some hv, he, if_pos (replaces_iff.2 h)]
  · rw [merge_get, mergeField_some hv, he, if_neg fun hr => h (replaces_iff.1 hr)]
  · exact PerField.ext_get fun f => by rw [merge_get, merge_get, mergeField_comm h]
  · refine ⟨_, exec_effect _ s, ?_⟩
    obtain ⟨u, hwait, hsend, hspeed, given⟩ := takeOffer_gives rx.sender o (goodFrame s)
    have bodies : u.link.bodies = s.link.bodies := by
      rw [← goodFrame_bodies s, Link.bodies, Link.bodies, hwait]
    rw [effect_offerReceived, received_awake hr hn (by simpa using hn)]
    have kept (w : Offer) (hw : .offer w ∈ s.link.bodies) : .offer w ∈ (takeOffer rx.sender o (goodFrame s)).link.bodies := by
      rw [← bodies] at hw
      rcases given with e | ⟨b, hb, e⟩
      · rwa [e]
      · rw [e]
        exact mem_giveFrame_offer (by rcases hb with hb | hb <;> simp [FrameBody.rank, hb, classRank])
          (by cases b <;> rfl) hw
    refine ⟨fun w hs hw => ?_, fun f hf w k hb hs hk h1 => ?_⟩
    · rw [← mem_bodies] at hw ⊢
      rw [mem_bodies_finish (by simp [FrameBody.kind])]
      exact mem_watchOffer_offer (kept w hw) hs
    · have hw : FrameBody.offer w ∈ s.link.bodies := mem_bodies.2 ⟨f, hf, hb⟩
      have places : u.link.places = s.link.places := by
        have e : ∀ l : Link, l.places = l.bodies.map FrameBody.summary := fun l => by
          simp [Link.places, Link.bodies]
        rw [e, e, bodies]
      have spacing : u.speed.spacingTimer = some k := by rw [hspeed]; simpa using hk
      rw [offersWaiting_eq] at h1
      have few : countKind .offer (takeOffer rx.sender o (goodFrame s)).link.places ≤ 1 ∧
          (takeOffer rx.sender o (goodFrame s)).speed.spacingTimer = some k := by
        rcases given with e | ⟨b, hb, e⟩
        · rw [e]; exact ⟨by rw [places, h1], spacing⟩
        · obtain ⟨hlink, hspace⟩ := giveFrame_of_spacing (b := b) spacing
          rw [e]
          refine ⟨?_, hspace⟩
          rw [hlink]
          have hb' : b.kind ≠ .offer := by rcases hb with hb | hb <;> simp [hb]
          exact (countKind_give hb' _ _).trans (by rw [places, h1])
      obtain ⟨mark, none⟩ := watchOffer_withdraws hp few.2 (kept w hw) hs few.1
      refine ⟨by simpa using mark, fun f hf => Bool.eq_false_of_not_eq_true fun ho => ?_⟩
      have hm : f.body ∈ (finish (watchOffer o (takeOffer rx.sender o (goodFrame s)))).link.bodies := mem_bodies.2 ⟨f, hf, rfl⟩
      rw [mem_bodies_finish (by rw [isOffer_iff_kind.1 ho]; decide)] at hm
      rw [none _ hm] at ho
      exact absurd ho (by decide)

/-! ### Offers that are not accepted -/

/-- The counts of offers are no counts of drops. -/
theorem offerCounts_of_butDrops {k l : LinkCounters} (h : k.butDrops = l.butDrops) :
    k.offersRefused = l.offersRefused ∧ k.staleOffers = l.staleOffers := by
  obtain ⟨-, -, -, -, -, -, refused, stale, -⟩ := LinkCounters.butDrops_eq_iff.1 h
  exact ⟨refused, stale⟩

theorem queueApplied_of_generation {g : Generation} {s : State} (hg : s.scene.applied.generation = some g) :
    queueApplied s =
      giveFrame (.scene ⟨g, s.scene.applied.content, s.scene.applied.origin, s.scene.applied.digest⟩) s := by
  simp [queueApplied, appliedScene, hg]

/-- A frame that the handling of an OFFER gives waits after the command, if it is no OFFER. -/
theorem offerReceived_waits {rx : Reception} {o : Offer} {s : State} {b : FrameBody} (hr : routed rx s) (h : queueHasPlace s)
    (hb : b.kind ≠ .presence ∧ b.isOffer = false)
    (given : b ∈ (takeOffer rx.sender o (goodFrame s)).link.bodies ∧
      (takeOffer rx.sender o (goodFrame s)).link.placesHeld ≤ (goodFrame s).link.placesHeld + 1) :
    b ∈ (effect (.offerReceived rx o) s).link.bodies := by
  have hn : s.controller.station ≠ .resting := h.2.1
  rw [effect_offerReceived, received_awake hr hn (by simpa using hn), mem_bodies_finish hb.1]
  refine mem_watchOffer given.1 ?_ ?_
  · exact Bool.eq_false_of_not_eq_true fun hl => by
      have := isOffer_of_isOfferLike hl
      rw [hb.2] at this
      exact absurd this (by decide)
  · rw [goodFrame_placesHeld] at given
    have := h.2.2.2
    omega

/-- Settles O13. -/
theorem offerNotAccepted : Obligations.OfferNotAccepted := by
  intro rx o s hr hl
  have refused (h : ∀ t, Heard s t → takeOffer rx.sender o t = refuseOffer t) :
      ∃ t, exec (.offerReceived rx o) s = .next t ∧ t.scene = s.scene ∧
        t.link.counters.offersRefused = countUp 65535 s.link.counters.offersRefused := by
    refine ⟨_, exec_effect _ s, ?_⟩
    rw [effect_offerReceived]
    refine received_of_heard (P := fun t => t.scene = s.scene ∧
      t.link.counters.offersRefused = countUp 65535 s.link.counters.offersRefused) hr (fun t ht => ?_) (fun t ht => ?_)
      fun t ht => by simpa using ht
    · rw [h t ht]
      refine ⟨by simp [ht.scene], ?_⟩
      rw [(offerCounts_of_butDrops (watchOffer_butDrops o (refuseOffer t))).1, ← (offerCounts_of_butDrops ht.counters).1]
      rfl
    · exact ⟨by simpa using ht.1, (offerCounts_of_butDrops (wake_butDrops t)).1.trans ht.2⟩
  refine ⟨fun h => refused fun t ht => takeOffer_refused (ht.listening hl) (by rw [ht.scene]; exact h),
    fun g hp hu hg hb hs => ?_⟩
  have outcome (t : State) (ht : Heard s t) : takeOffer rx.sender o t =
      afterOutcome rx.sender o t (offerOutcome o.base g (s.scene.staged.map Scene.generation)) := by
    rw [takeOffer_outcome (ht.listening hl) hp (by rw [ht.scene, hu]) (by rw [ht.scene, hg]), ht.scene]
  have new : ¬(o.base = g ∨ s.scene.staged.map Scene.generation = some o.base) := by
    rintro (h | h)
    · exact hb h
    · obtain ⟨sc, hsc, he⟩ := Option.map_eq_some_iff.1 h
      exact hs sc hsc he.symm
  refine ⟨fun h => refused fun t ht => by rw [outcome t ht, offerOutcome_unrelated new h]; rfl, fun h => ?_, fun hn hst => ?_,
    fun hn ⟨sc, hsc, hst⟩ => refused fun t ht => ?_⟩
  · have stale (t : State) (ht : Heard s t) : takeOffer rx.sender o t = queueApplied (t.count LinkCounters.addStaleOffer) := by
      rw [outcome t ht, offerOutcome_stale new h]; rfl
    refine ⟨_, exec_effect _ s, and_assoc.1 ⟨?_, fun hq hf => ?_⟩⟩
    · rw [effect_offerReceived]
      refine received_of_heard (P := fun t => t.scene = s.scene ∧
        t.link.counters.staleOffers = countUp 65535 s.link.counters.staleOffers) hr (fun t ht => ?_) (fun t ht => ?_)
        fun t ht => by simpa using ht
      · rw [stale t ht]
        refine ⟨by simp [ht.scene], ?_⟩
        rw [(offerCounts_of_butDrops (watchOffer_butDrops o _)).2, (offerCounts_of_butDrops (queueApplied_butDrops _)).2,
          ← (offerCounts_of_butDrops ht.counters).2]
        rfl
      · exact ⟨by simpa using ht.1, (offerCounts_of_butDrops (wake_butDrops t)).2.trans ht.2⟩
    · refine mem_bodies.1 (offerReceived_waits hr hq ⟨by simp [FrameBody.kind], rfl⟩ ?_)
      have scene : ((goodFrame s).count LinkCounters.addStaleOffer).scene = s.scene := by simp
      rw [stale _ (heard_goodFrame s),
        queueApplied_of_generation (s := (goodFrame s).count LinkCounters.addStaleOffer) (g := g) (by rw [scene, hg]), scene]
      have place : queueHasPlace ((goodFrame s).count LinkCounters.addStaleOffer) := goodFrame_hasPlace hq
      have free : noSceneInFlight ((goodFrame s).count LinkCounters.addStaleOffer) := goodFrame_noSceneInFlight hf
      obtain ⟨-, waits, places, -⟩ := giveFrame_waits place (sceneInTransmission_of_noSceneInFlight free
        (.scene ⟨g, s.scene.applied.content, s.scene.applied.origin, s.scene.applied.digest⟩))
      exact ⟨waits, places⟩
  · have behind (t : State) (ht : Heard s t) : takeOffer rx.sender o t = enterResync o.base t := by
      have later : newer o.base ((s.scene.staged.map Scene.generation).getD g) = true := by
        cases hsc : s.scene.staged with
        | none => exact hn
        | some sc => exact hst sc hsc
      rw [outcome t ht, offerOutcome_newer new hn, later]; rfl
    refine ⟨_, exec_effect _ s, ?_, fun hq => ?_⟩
    · rw [effect_offerReceived]
      refine received_of_heard (P := fun t => t.scene = _) hr (fun t ht => ?_) (fun t ht => by simpa using ht)
        fun t ht => by simpa using ht
      simp only [behind t ht, watchOffer_keeps, enterResync_scene, ht.scene]
    · refine mem_bodies.1 (offerReceived_waits hr hq ⟨by simp [FrameBody.kind], rfl⟩ ?_)
      rw [behind _ (heard_goodFrame s)]
      have place : queueHasPlace ({ goodFrame s with scene := { (goodFrame s).scene with
        unit := .resync, pending := emptyRecord, conflict := none, fetch := some ⟨o.base, 1, 320⟩ } }) := goodFrame_hasPlace hq
      obtain ⟨-, waits, places, -⟩ := giveFrame_waits (b := .fetch (some o.base)) place rfl
      exact ⟨waits, places⟩
  · have later : newer o.base ((s.scene.staged.map Scene.generation).getD g) = false := by rw [hsc]; exact hst
    rw [outcome t ht, offerOutcome_newer new hn, later]; rfl

end Sys2Proof.Machine
end

section
/-! PROOFS. The step on announcing, and the claims that a command keeps from any channel. -/

namespace Sys2Proof.Machine

/-! ### The Peer Table as a block finds it -/

theorem goodFrame_peers {s : State} (h : s.peers.emptyingDue = false) : (goodFrame s).peers = s.peers := by
  unfold goodFrame frameHeard; dsimp only
  split
  · rw [if_neg (by simp [h])]; simp
  · rfl

theorem Heard.peers {s t : State} (h : Heard s t) : t.peers = (goodFrame s).peers := by
  obtain rfl | rfl := h.cases
  · rfl
  · simp

theorem lowerZoneActive_eq_false {s : State} : lowerZoneActive s = false ↔ noLowerZone s := by
  unfold lowerZoneActive noLowerZone
  rw [List.any_eq_false]
  constructor
  · intro h n r age hn he hk
    have := h n (mem_allStations n)
    rw [he] at this
    simp [own, hn, hk] at this
  · intro h n _ hn
    simp only [Bool.and_eq_true, decide_eq_true_eq] at hn
    obtain ⟨hlt, hm⟩ := hn
    split at hm
    next r age he => exact h n r age hlt he (by simpa using hm)
    all_goals cases hm

theorem noLowerZone_congr {s t : State} (hp : t.peers = s.peers) (hl : t.loader = s.loader) : noLowerZone t ↔ noLowerZone s := by
  simp only [noLowerZone, hp, hl]

/-! ### Announcing -/

theorem announce_of_lower {s : State} (h : ¬noLowerZone s) : announce s = s := by
  rw [announce, if_pos (Bool.eq_true_of_not_eq_false fun e => h (lowerZoneActive_eq_false.1 e))]

theorem announce_of_no_lower {s : State} (h : noLowerZone s) : announce s = queueApplied s := by
  rw [announce, lowerZoneActive_eq_false.2 h]; rfl

/-- The scene applied is announced where the queue has a place (R31). -/
theorem announce_waits {s : State} {g : Generation} {c : Content} {n : Station} {d : Digest} (h : noLowerZone s)
    (ha : s.scene.applied = ⟨some g, c, n, d⟩) (hq : queueHasPlace s) (hf : noSceneInFlight s) :
    .scene ⟨g, c, n, d⟩ ∈ (announce s).link.bodies := by
  rw [announce_of_no_lower h, queueApplied_of_generation (g := g) (by rw [ha]), ha]
  exact (giveFrame_waits hq (sceneInTransmission_of_noSceneInFlight hf _)).2.1

/-! ### Frames received, and the queue -/

theorem QuietOn.received_heard {k : FrameKind} {Q : Link → Prop} (I : QuietOn k Q) {rx : Reception} {handle : State → State}
    {s : State} (hr : routed rx s) (handled : ∀ t, Heard s t → Q t.link → Q (handle t).link) (h : Q s.link) :
    Q (Machine.received rx handle s).link := by
  refine received_of_heard (P := fun t => Q t.link) hr (fun t ht => handled t ht ?_) (fun t ht => I.wake ht) fun t ht => I.finish ht
  obtain rfl | rfl := ht.cases
  · exact I.goodFrame h
  · exact I.wake (I.goodFrame h)

theorem scenes_quietOn (L : List FrameBody) : QuietOn .scene (waitsWithin .scene L) := waitsWithin_quietOn (by decide) L

theorem queueHasPlace_congr {s t : State} (hc : t.controller = s.controller) (hl : t.link.placesHeld ≤ s.link.placesHeld)
    (h : queueHasPlace s) : queueHasPlace t := by
  unfold queueHasPlace at *
  rw [hc]
  exact ⟨h.1, h.2.1, h.2.2.1, hl.trans_lt h.2.2.2⟩

/-! ### Claims through a wake -/

theorem removeAll_get (c : Claim) (s : State) (n : Channel) : (removeAll c s).ramps.get n = (s.ramps.get n).remove c := by
  have twice (r : RampRecord) : (r.remove c).remove c = r.remove c := by
    have gone : (r.remove c).claims.get c = none := by simpa using remove_get c c r
    unfold RampRecord.remove at *
    rw [gone]
  have key (l : List Channel) (t : State) : ((l.foldl (fun s n => removeClaim c n s) t).ramps.get n) =
      if n ∈ l then (t.ramps.get n).remove c else t.ramps.get n := by
    induction l generalizing t with
    | nil => rfl
    | cons m l ih =>
      rw [List.foldl_cons, ih, removeClaim_get]
      by_cases hm : n = m
      · subst hm; simp [twice]
      · simp [hm]
  unfold removeAll
  rw [key, if_pos (mem_allChannels n)]

theorem remove_claim_self (c : Claim) (r : RampRecord) : (r.remove c).claims.get c = none := by
  simpa using remove_get c c r

theorem leaveReady_of_not_ready {k : SilencingKind} {s : State} (h : s.controller.station ≠ .ready) : leaveReady k s = s :=
  if_neg h

/-- The state in which a station that enters RAIL_UP closes the rail window. -/
def railRising (s : State) : State :=
  { s with controller := { s.controller with
    station := .railUp, rail := .rising, stabiliseTimer := none, downTimer := none, railRetryTimer := none } }

/-- To the channels, entering RAIL_UP from a state beside READY is the closing of the rail window (R146, R180). -/
theorem enterRailUp_channels {s : State} (h : s.controller.station ≠ .ready) :
    (enterRailUp s).ramps = (closeWindow (railRising s)).ramps ∧
      (enterRailUp s).protection.records = (closeWindow (railRising s)).protection.records := by
  unfold enterRailUp railRising; dsimp only
  rw [leaveReady_of_not_ready h]
  split <;> simp

namespace WindowInvariant

variable {P : State → Prop} (I : WindowInvariant P)
  (still : ∀ {s t : State}, t.ramps = s.ramps → t.protection.records = s.protection.records → P s → P t) {s : State}
include I still

theorem enterRailUp (hn : s.controller.station ≠ .ready) (h : P s) : P (enterRailUp s) := by
  obtain ⟨ramps, records⟩ := enterRailUp_channels hn
  exact still ramps records (I.closeWindow (still (s := s) (t := railRising s) rfl rfl h))

theorem wake (rest : ∀ {s : State} n, P s → P (removeClaim .rest n s)) (h : P s) : P (wake s) := by
  unfold Machine.wake; dsimp only
  split
  next hs =>
    have removed : P (removeAll .rest s) := foldl_invariant h (fun t n ht => rest n ht) allChannels
    have woken : P (if (removeAll .rest s).protection.active.thermalShut then
        { removeAll .rest s with controller := { (removeAll .rest s).controller with station := .shutdown } }
        else Machine.enterRailUp (removeAll .rest s)) := by
      split
      · exact still (s := removeAll .rest s) rfl rfl removed
      · exact I.enterRailUp still (by simp [hs]) removed
    exact still (by simp) (by simp) woken
  · exact h

end WindowInvariant

end Sys2Proof.Machine
end

section
/-! PROOFS. SCENEs, SPEEDs and FETCHes received (O14, O15, O16, O17). -/

namespace Sys2Proof.Machine

/-! ### Leaving PROVISIONAL -/

/-- The unit leaves PROVISIONAL up to the step on announcing, which finds the link, the peers and the station as they were. -/
theorem leaveProvisional_announces (a : AppliedScene) (s : State) : ∃ u : State, leaveProvisional a s = announce u ∧
    u.scene = { s.scene with unit := .agreed, applied := a, joinWindow := none } ∧ u.link = s.link ∧ u.peers = s.peers ∧
    u.loader = s.loader ∧ u.controller = s.controller ∧
    u.equaliser = s.equaliser.sceneApplied s.loader.image (settingsOf a.content) ∧
    ∀ n, (u.ramps.get n).claims.provisional = none := by
  refine ⟨_, rfl, by simp, by simp, by simp, by simp, by simp, by simp [sceneAppliedNotice], fun n => ?_⟩
  rw [removeAll_get]
  exact remove_claim_self .provisional _

theorem leaveProvisional_equaliser (a : AppliedScene) (s : State) :
    (leaveProvisional a s).equaliser = s.equaliser.sceneApplied s.loader.image (settingsOf a.content) := by
  obtain ⟨u, e, -, -, -, -, -, hq, -⟩ := leaveProvisional_announces a s
  rw [e, ← hq]; simp

theorem leaveProvisional_claims (a : AppliedScene) (s : State) (n : Channel) :
    ((leaveProvisional a s).ramps.get n).claims.provisional = none := by
  obtain ⟨u, e, -, -, -, -, -, -, hc⟩ := leaveProvisional_announces a s
  rw [e, show (announce u).ramps = u.ramps by simp]; exact hc n

theorem leaveProvisional_waits {g : Generation} {c : Content} {n : Station} {d : Digest} {s : State} (h : noLowerZone s)
    (hq : queueHasPlace s) (hf : noSceneInFlight s) :
    .scene ⟨g, c, n, d⟩ ∈ (leaveProvisional ⟨some g, c, n, d⟩ s).link.bodies := by
  obtain ⟨u, e, hs, hl, hp, ho, hc, -, -⟩ := leaveProvisional_announces ⟨some g, c, n, d⟩ s
  rw [e]
  refine announce_waits ((noLowerZone_congr hp ho).2 h) (by rw [hs]) (queueHasPlace_congr hc (by rw [hl]) hq) ?_
  intro x sc hx
  exact hf x sc (by rw [← hl]; exact hx)

theorem leaveProvisional_link_of_lower {a : AppliedScene} {s : State} (h : ¬noLowerZone s) :
    (leaveProvisional a s).link = s.link := by
  obtain ⟨u, e, -, hl, hp, ho, -⟩ := leaveProvisional_announces a s
  rw [e, announce_of_lower fun hu => h ((noLowerZone_congr hp ho).1 hu), hl]

/-- A claim that is gone from every channel stays gone through a wake and the end of a command, if neither places it. -/
theorem provisional_windowInvariant (n : Channel) :
    WindowInvariant fun s => (s.ramps.get n).claims.provisional = none :=
  rampAt_windowInvariant n (Q := fun r => r.claims.provisional = none) (fun hold t cls r h => by rw [take_claims, h])
    fun {r} h => by
      have e := remove_get .fault .provisional r
      simpa [ClaimSet.get, h] using e

theorem wake_provisional {n : Channel} {s : State} (h : (s.ramps.get n).claims.provisional = none) :
    ((wake s).ramps.get n).claims.provisional = none := by
  refine (provisional_windowInvariant n).wake (fun hr _ h => by rwa [hr]) (fun {s} m h => ?_) h
  rw [removeClaim_get]
  split
  next hm =>
    subst hm
    have e := remove_get .rest .provisional (s.ramps.get n)
    simpa [ClaimSet.get, h] using e
  · exact h

/-! ### A SCENE at the Scene Agreement Unit -/

section
variable {sc : Scene} {s : State}

theorem takeScene_refused (h : scenePasses sc = false) : takeScene sc s = s := by simp [takeScene, h]

variable (hl : listening s) (hp : scenePasses sc = true)
include hl hp

theorem takeScene_provisional (hu : s.scene.unit = .provisional) :
    takeScene sc s = leaveProvisional (asApplied sc) (withdrawScene sc s) := by
  have hw : (withdrawScene sc s).scene.unit = .provisional := hu
  unfold takeScene; dsimp only
  rw [unitListens_iff.2 hl, hp, Bool.and_self, if_pos rfl, hw]

theorem takeScene_agreed (hu : s.scene.unit = .agreed) : takeScene sc s = settleConflict sc (withdrawScene sc s) := by
  have hw : (withdrawScene sc s).scene.unit = .agreed := hu
  unfold takeScene; dsimp only
  rw [unitListens_iff.2 hl, hp, Bool.and_self, if_pos rfl, hw]

theorem takeScene_resync (hu : s.scene.unit = .resync) : takeScene sc s = resyncStage sc (withdrawScene sc s) := by
  have hw : (withdrawScene sc s).scene.unit = .resync := hu
  unfold takeScene; dsimp only
  rw [unitListens_iff.2 hl, hp, Bool.and_self, if_pos rfl, hw]

theorem takeScene_link (hu : s.scene.unit ≠ .provisional) :
    (takeScene sc s).link = s.link.withdraw (FrameBody.isSceneOf sc.generation sc.digest) := by
  cases h : s.scene.unit with
  | provisional => exact absurd h hu
  | agreed => rw [takeScene_agreed hl hp h]; simp [withdrawScene]
  | resync => rw [takeScene_resync hl hp h]; simp [withdrawScene]

end

theorem settles_iff {sc : Scene} {s : State} : settles sc s = true ↔ s.scene.conflict = some sc.generation ∧
    s.scene.applied.digest < sc.digest ∧ s.scene.applied.generation = some sc.generation ∧ s.scene.staged = none := by
  simp [settles, and_assoc]

theorem settleConflict_of_settles {sc : Scene} {s : State} (h : settles sc s = true) :
    settleConflict sc s =
      stageScene (settledScene sc) { s with scene := { s.scene with pending := emptyRecord, conflict := none } } := if_pos h

theorem settleConflict_of_not {sc : Scene} {s : State} (h : ¬settles sc s = true) : settleConflict sc s = s := if_neg h

section
variable {sc : Scene} {s : State} {g : Generation} (hg : s.scene.applied.generation = some g)
include hg

theorem resyncStage_of_not_newer (h : newer sc.generation g = false) : resyncStage sc s = s := by
  unfold resyncStage; rw [hg]; dsimp only; rw [h]; rfl

theorem resyncStage_of_held {old : Scene} (h : newer sc.generation g = true) (ho : s.scene.staged = some old)
    (he : old.generation = sc.generation ∧ old.digest = sc.digest) : resyncStage sc s = leaveResync s := by
  unfold resyncStage; rw [hg]; dsimp only; rw [h, if_pos rfl, ho]; exact if_pos he

theorem resyncStage_of_new (h : newer sc.generation g = true)
    (ho : ∀ old, s.scene.staged = some old → ¬(old.generation = sc.generation ∧ old.digest = sc.digest)) :
    resyncStage sc s = leaveResync (stageScene sc s) := by
  unfold resyncStage; rw [hg]; dsimp only; rw [h, if_pos rfl]
  cases hs : s.scene.staged with
  | none => rfl
  | some old => exact if_neg (ho old hs)

end

/-- Settles O14. -/
theorem sceneAdoptedInProvisional : Obligations.SceneAdoptedInProvisional := by
  intro rx sc s hr hl
  refine ⟨fun hp hu => ?_, fun hp => ?_⟩
  · have adopted (t : State) (ht : Heard s t) : takeScene sc t = leaveProvisional (asApplied sc) (withdrawScene sc t) :=
      takeScene_provisional (ht.listening hl) hp (by rw [ht.scene, hu])
    refine ⟨_, exec_effect _ s, ?_, ?_, fun he => ⟨fun hz hq hf => ?_, fun hz => ?_⟩, fun n => ?_⟩
    · rw [effect_sceneReceived]
      refine received_of_heard (P := fun t => t.scene = _) hr (fun t ht => ?_) (fun t ht => by simpa using ht)
        fun t ht => by simpa using ht
      rw [adopted t ht, leaveProvisional_scene]
      simp only [withdrawScene_keeps, ht.scene, asApplied]
    · rw [effect_sceneReceived]
      refine received_of_heard (P := fun t => t.equaliser = _) hr (fun t ht => ?_) (fun t ht => by simpa using ht)
        fun t ht => by simpa using ht
      rw [adopted t ht, leaveProvisional_equaliser]
      simp only [withdrawScene_keeps, ht.equaliser, ht.loader, asApplied]
    · have hn : s.controller.station ≠ .resting := hq.2.1
      rw [effect_sceneReceived, received_awake hr hn (by simpa using hn), sceneWaits, ← mem_bodies,
        mem_bodies_finish (by simp [FrameBody.kind]), adopted _ (heard_goodFrame s)]
      refine leaveProvisional_waits ((noLowerZone_congr (s := s) ?_ (by simp)).2 hz)
        (queueHasPlace_congr (s := goodFrame s) (by simp) (withdraw_placesHeld_le _ _) (goodFrame_hasPlace hq)) ?_
      · simpa using goodFrame_peers he
      · exact goodFrame_noSceneInFlight hf
    · refine noSceneQueued_of_waitsWithin ?_
      rw [effect_sceneReceived]
      refine (scenes_quietOn s.link.bodies).received_heard hr (fun t ht h => ?_) (waitsWithin_bodies _ _)
      rw [adopted t ht, leaveProvisional_link_of_lower]
      · exact (scenes_quietOn s.link.bodies).withdraw _ h
      · have peers : (withdrawScene sc t).peers = s.peers := by
          rw [show (withdrawScene sc t).peers = t.peers from rfl, ht.peers, goodFrame_peers he]
        exact fun h => hz ((noLowerZone_congr peers ht.loader).1 h)
    · rw [effect_sceneReceived]
      refine received_of_heard (P := fun t => (t.ramps.get n).claims.provisional = none) hr (fun t ht => ?_)
        (fun t ht => wake_provisional ht) fun t ht => (provisional_windowInvariant n).finish ht
      rw [adopted t ht]
      exact leaveProvisional_claims _ _ n
  · refine ⟨_, exec_effect _ s, ?_, fun w hw hn => ?_⟩
    · rw [effect_sceneReceived]
      refine received_of_heard (P := fun t => t.scene = s.scene) hr (fun t ht => ?_) (fun t ht => by simpa using ht)
        fun t ht => by simpa using ht
      rw [takeScene_refused hp, ht.scene]
    · rw [sceneWaits, ← mem_bodies] at hw ⊢
      rw [effect_sceneReceived, received_awake hr hn (by simpa using hn), mem_bodies_finish (by simp [FrameBody.kind]),
        takeScene_refused hp, goodFrame_bodies]
      exact hw

/-- Settles O15. -/
theorem sceneInAgreedAndResync : Obligations.SceneInAgreedAndResync := by
  intro rx sc s g hr hl hp hg
  have scene_kept (h : ∀ t, Heard s t → (takeScene sc t).scene = t.scene) :
      ∃ t, exec (.sceneReceived rx sc) s = .next t ∧ t.scene = s.scene := by
    refine ⟨_, exec_effect _ s, ?_⟩
    rw [effect_sceneReceived]
    exact received_of_heard (P := fun t => t.scene = s.scene) hr (fun t ht => (h t ht).trans ht.scene)
      (fun t ht => by simpa using ht) fun t ht => by simpa using ht
  refine ⟨fun hu => ⟨fun hc hd he hs => ?_, fun h => ?_⟩, fun hu => ⟨fun hn => ?_, fun hn => ?_⟩, fun hu hn => ?_⟩
  · have settled (t : State) (ht : Heard s t) : takeScene sc t = stageScene (settledScene sc)
        { withdrawScene sc t with scene := { t.scene with pending := emptyRecord, conflict := none } } := by
      rw [takeScene_agreed (ht.listening hl) hp (by rw [ht.scene, hu])]
      refine settleConflict_of_settles (settles_iff.2 ?_)
      simp only [withdrawScene_keeps, ht.scene]
      exact ⟨hc, hd, by rw [hg, he], hs⟩
    refine ⟨_, exec_effect _ s, ?_⟩
    rw [effect_sceneReceived]
    refine received_of_heard (P := fun t => t.scene = _ ∧ t.equaliser = _) hr (fun t ht => ?_) (fun t ht => by simpa using ht)
      fun t ht => by simpa using ht
    rw [settled t ht]
    refine ⟨?_, ?_⟩
    · show ({ t.scene with pending := emptyRecord, conflict := none, staged := some (settledScene sc) } : SceneUnit) = _
      rw [ht.scene]; rfl
    · show t.equaliser.sceneStaged t.loader.image (settingsOf sc.content) = _
      rw [ht.equaliser, ht.loader]
  · refine scene_kept fun t ht => ?_
    rw [takeScene_agreed (ht.listening hl) hp (by rw [ht.scene, hu]), settleConflict_of_not]
    · rfl
    · rw [settles_iff]
      simp only [withdrawScene_keeps, ht.scene, hg, Option.some.injEq]
      tauto
  · by_cases ho : ∃ old, s.scene.staged = some old ∧ old.generation = sc.generation ∧ old.digest = sc.digest
    · obtain ⟨old, hs, he⟩ := ho
      refine ⟨_, exec_effect _ s, ?_⟩
      have left : (effect (.sceneReceived rx sc) s).scene = { s.scene with unit := .agreed, fetch := none } := by
        rw [effect_sceneReceived]
        refine received_of_heard (P := fun t => t.scene = _) hr (fun t ht => ?_) (fun t ht => by simpa using ht)
          fun t ht => by simpa using ht
        rw [takeScene_resync (ht.listening hl) hp (by rw [ht.scene, hu]),
          resyncStage_of_held (s := withdrawScene sc t) (g := g) (by simp only [withdrawScene_keeps, ht.scene, hg]) hn
            (by simp only [withdrawScene_keeps, ht.scene, hs]) he]
        show ({ t.scene with unit := .agreed, fetch := none } : SceneUnit) = _
        rw [ht.scene]
      rw [left]
      exact ⟨rfl, rfl, rfl, old, hs, he.1, he.2, fun h => absurd he (by have := h old hs; tauto)⟩
    · have fresh : ∀ old, s.scene.staged = some old → ¬(old.generation = sc.generation ∧ old.digest = sc.digest) :=
        fun old hs he => ho ⟨old, hs, he⟩
      have staged (t : State) (ht : Heard s t) : takeScene sc t = leaveResync (stageScene sc (withdrawScene sc t)) := by
        rw [takeScene_resync (ht.listening hl) hp (by rw [ht.scene, hu]),
          resyncStage_of_new (s := withdrawScene sc t) (g := g) (by simp only [withdrawScene_keeps, ht.scene, hg]) hn
            (by simp only [withdrawScene_keeps, ht.scene]; exact fresh)]
      refine ⟨_, exec_effect _ s, ?_⟩
      have left : (effect (.sceneReceived rx sc) s).scene = { s.scene with unit := .agreed, fetch := none, staged := some sc } ∧
          (effect (.sceneReceived rx sc) s).equaliser = s.equaliser.sceneStaged s.loader.image (settingsOf sc.content) := by
        rw [effect_sceneReceived]
        refine received_of_heard (P := fun t => t.scene = _ ∧ t.equaliser = _) hr (fun t ht => ?_)
          (fun t ht => by simpa using ht) fun t ht => by simpa using ht
        rw [staged t ht]
        refine ⟨?_, ?_⟩
        · show ({ t.scene with unit := .agreed, fetch := none, staged := some sc } : SceneUnit) = _
          rw [ht.scene]
        · show t.equaliser.sceneStaged t.loader.image (settingsOf sc.content) = _
          rw [ht.equaliser, ht.loader]
      rw [left.1]
      exact ⟨rfl, rfl, rfl, sc, rfl, rfl, rfl, fun _ => ⟨rfl, left.2⟩⟩
  · refine scene_kept fun t ht => ?_
    rw [takeScene_resync (ht.listening hl) hp (by rw [ht.scene, hu]),
      resyncStage_of_not_newer (s := withdrawScene sc t) (g := g) (by simp only [withdrawScene_keeps, ht.scene, hg]) hn]
    rfl
  · have hv : (goodFrame s).scene.unit ≠ .provisional := by simpa using hu
    have hlink := takeScene_link (goodFrame_listening hl) hp hv
    refine ⟨_, exec_effect _ s, ?_⟩
    rw [effect_sceneReceived, received_awake hr hn (by simpa using hn)]
    have sublist : (takeScene sc (goodFrame s)).link.bodies.Sublist s.link.bodies := by
      rw [hlink, ← goodFrame_bodies s]
      exact List.eraseP_sublist.map _
    refine ⟨noSceneQueued_of_waitsWithin ?_, fun w hw hws => ?_, fun h1 f hf => ?_⟩
    · exact (scenes_quietOn s.link.bodies).finish ((scenes_quietOn _).fewer sublist (waitsWithin_bodies _ _))
    · rw [sceneWaits, ← mem_bodies] at hws ⊢
      rw [mem_bodies_finish (by simp [FrameBody.kind]), hlink]
      refine mem_withdraw (by rwa [goodFrame_bodies]) ?_
      simp only [FrameBody.isSceneOf, Bool.and_eq_false_iff, decide_eq_false_iff_not]
      exact hw
    · refine Bool.eq_false_of_not_eq_true fun hk => ?_
      have hm : f.body ∈ (finish (takeScene sc (goodFrame s))).link.bodies := mem_bodies.2 ⟨f, hf, rfl⟩
      rw [mem_bodies_finish (by intro e; cases hb : f.body <;> rw [hb] at hk e <;> first | cases hk | cases e), hlink] at hm
      obtain ⟨x, hx, hb⟩ := mem_bodies.1 hm
      have waiting : ((goodFrame s).link.waiting.filter fun f => f.body.isSceneOf sc.generation sc.digest).length =
          (s.link.waiting.filter fun f => f.body.isSceneOf sc.generation sc.digest).length := by
        simp [goodFrame, Link.lineFrameEnded, List.filter_map, Function.comp_def]
      rw [← waiting, ← List.countP_eq_length_filter] at h1
      have none : ((goodFrame s).link.withdraw (FrameBody.isSceneOf sc.generation sc.digest)).waiting.countP
          (fun f => f.body.isSceneOf sc.generation sc.digest) = 0 := by
        rw [Link.withdraw, countP_eraseP]; omega
      exact List.countP_eq_zero.1 none x hx (by rw [hb]; exact hk)

/-! ### SPEED -/

theorem takesFrom_iff {u : SpeedUnit} {n : Station} :
    takesFrom u n = true ↔ u.state ≠ .fresh ∨ ∃ r, u.source = some r ∧ r.station = n := by
  unfold takesFrom
  cases hs : u.state <;> cases hr : u.source <;> simp

theorem desiredAfter_spec (computed falling desired : Nat) :
    (desired < computed → desiredAfter computed falling desired = computed) ∧
    (computed ≤ desired → falling < desired → desiredAfter computed falling desired = falling) ∧
    (computed ≤ desired → desired ≤ falling → desiredAfter computed falling desired = desired) := by
  unfold desiredAfter
  refine ⟨fun h => if_pos h, fun h h' => ?_, fun h h' => ?_⟩
  · rw [if_neg (by omega), if_pos h']
  · rw [if_neg (by omega), if_neg (by omega)]

theorem takeSpeed_of_taken {n : Station} {v : Nat} {s : State} (h : takesFrom s.speed n = true) :
    takeSpeed n v true s = offerCheck { s with speed := s.speed.taken s.loader.image s.scene.applied.content.curve n v } := by
  simp [takeSpeed, h]

theorem takeSpeed_of_not {n : Station} {v : Nat} {valid : Bool} {s : State} (h : ¬(valid = true ∧ takesFrom s.speed n = true)) :
    takeSpeed n v valid s = s := by
  unfold takeSpeed
  rw [if_neg (by simpa using h)]

/-- Settles O16. -/
theorem speedTakenOrSetAside : Obligations.SpeedTakenOrSetAside := by
  intro rx v valid s hr
  have hr' : routed ⟨rx.sender, false⟩ s := hr
  refine ⟨fun hv h => ?_, fun h => ?_, rfl⟩
  · refine ⟨_, exec_effect _ s, ?_⟩
    have taken : (effect (.speedReceived rx v valid) s).speed.source = some ⟨rx.sender, v, 0⟩ ∧
        (effect (.speedReceived rx v valid) s).speed.state = .fresh ∧
        (effect (.speedReceived rx v valid) s).speed.desired =
          desiredAfter (computedStep s.loader.image s.scene.applied.content.curve v)
            (fallingStep s.loader.image s.scene.applied.content.curve v) s.speed.desired ∧
        (effect (.speedReceived rx v valid) s).speed.fallTimer = none := by
      rw [effect_speedReceived]
      refine received_of_heard (P := fun t => t.speed.source = _ ∧ t.speed.state = _ ∧ t.speed.desired = _ ∧
        t.speed.fallTimer = _) hr' (fun t ht => ?_) (fun t ht => by simpa using ht) fun t ht => by simpa using ht
      obtain ⟨source, state, desired, fall⟩ := ht.speed
      have takes : takesFrom t.speed rx.sender = true := by rw [takesFrom_iff, source, state]; exact h
      rw [hv, takeSpeed_of_taken takes]
      simp [SpeedUnit.taken, ht.loader, ht.scene, desired]
    obtain ⟨source, state, desired, fall⟩ := taken
    rw [source, state, desired, fall]
    refine ⟨rfl, rfl, rfl, ?_⟩
    rintro computed falling rfl rfl
    exact desiredAfter_spec _ _ _
  · refine ⟨_, exec_effect _ s, ?_⟩
    rw [effect_speedReceived]
    refine received_of_heard (P := fun t => t.speed.source = _ ∧ t.speed.state = _ ∧ t.speed.desired = _ ∧
      t.speed.fallTimer = _) hr' (fun t ht => ?_) (fun t ht => by simpa using ht) fun t ht => by simpa using ht
    obtain ⟨source, state, desired, fall⟩ := ht.speed
    rw [takeSpeed_of_not]
    · exact ⟨source, state, desired, fall⟩
    · rintro ⟨hv, ht⟩
      rw [takesFrom_iff, source, state] at ht
      obtain hv' | ⟨hf, ho⟩ := h
      · rw [hv] at hv'; exact absurd hv' (by decide)
      · rcases ht with ht | ⟨r, hr, hn⟩
        · exact ht hf
        · exact ho r hr hn

/-! ### FETCH -/

section
variable {s : State} {g : Generation} (hl : listening s) (hu : s.scene.unit = .agreed)
  (hg : s.scene.applied.generation = some g)
include hl hu hg

theorem takeFetch_applied {w : Option Generation} (h : w = none ∨ w = some g) : takeFetch w s = queueApplied s := by
  unfold takeFetch
  rw [if_pos ⟨unitListens_iff.2 hl, hu⟩]
  obtain rfl | rfl := h
  · rfl
  · exact if_pos hg

theorem takeFetch_staged {sc : Scene} (hs : s.scene.staged = some sc) (hne : sc.generation ≠ g) :
    takeFetch (some sc.generation) s = giveFrame (.scene sc) s := by
  unfold takeFetch
  rw [if_pos ⟨unitListens_iff.2 hl, hu⟩]
  dsimp only
  rw [if_neg (by rw [hg]; simpa using hne.symm), hg, hs]
  exact if_pos rfl

end

/-- Settles O17. -/
theorem fetchAnswered : Obligations.FetchAnswered := by
  intro rx w s g hr hl hn hc hu hg hp hs _
  have place : queueHasPlace s := ⟨hl.1, hn, hc, hp⟩
  have free : noSceneInFlight s := fun x sc hx => by rw [hs] at hx; cases hx
  have answered (sc : Scene) (h : takeFetch w (goodFrame s) = giveFrame (.scene sc) (goodFrame s)) :
      queues (.fetchReceived rx w) s (.scene sc) := by
    refine ⟨_, exec_effect _ s, ?_⟩
    rw [effect_fetchReceived, received_awake hr hn (by simpa using hn), ← mem_bodies, mem_bodies_finish (by simp [FrameBody.kind]), h]
    exact (giveFrame_waits (goodFrame_hasPlace place)
      (sceneInTransmission_of_noSceneInFlight (goodFrame_noSceneInFlight free) _)).2.1
  have scene : (goodFrame s).scene = s.scene := by simp
  refine ⟨fun h => answered _ ?_, fun sc hsc hne h => answered sc ?_⟩
  · rw [takeFetch_applied (goodFrame_listening hl) (by rw [scene, hu]) (by rw [scene, hg]) h,
      queueApplied_of_generation (g := g) (by rw [scene, hg]), scene]
  · rw [h, takeFetch_staged (goodFrame_listening hl) (by rw [scene, hu]) (by rw [scene, hg]) (by rw [scene, hsc]) hne]

end Sys2Proof.Machine
end

section
/-! PROOFS. The periodic timers (O27), the start of a frame and the loss of arbitration (O24). -/

namespace Sys2Proof.Machine

/-! ### The periodic timers -/

theorem rank_eq_zero_iff {b : FrameBody} : b.rank = 0 ↔ b.isMark = true := by
  cases b <;> simp [FrameBody.rank, FrameBody.kind, classRank, FrameBody.isMark]

theorem timerNotice_cycle_of_not_mark {b : FrameBody} (hb : 0 < b.rank) (s : State) :
    (timerNotice b s).cycle.cycle = s.cycle.cycle := by
  cases b with
  | mark n => exact absurd hb (lt_irrefl _)
  | presence r => unfold timerNotice presenceEnds; dsimp only; split <;> rfl
  | _ => rfl

/-- What has ended by the giving of a frame is that frame, or one of higher key (R168). -/
theorem give_ended {admits : Bool} {b c : FrameBody} {l : Link} (h : (l.give admits b).2 = some c) : c = b ∨ b.rank < c.rank := by
  have out := give_outcome admits b l
  generalize l.give admits b = g at out h
  cases out with
  | ended k => exact .inl (Option.some.inj h).symm
  | onTheLine k => cases h
  | replaces w hw => cases h
  | takesPlace => cases h
  | displaces g _ _ _ hr => exact .inr ((Option.some.inj h) ▸ hr)

theorem offerCheck_cycleState (s : State) : (offerCheck s).cycle.cycle = s.cycle.cycle := by
  unfold offerCheck; repeat' split
  · unfold queueSpeedOffer; dsimp only; repeat' split
    · rfl
    · rfl
    next o _ b hb _ =>
      refine timerNotice_cycle_of_not_mark ?_ _
      rcases give_ended hb with rfl | h
      · exact Nat.zero_lt_two
      · exact Nat.lt_of_le_of_lt (Nat.zero_le _) h
  · rfl
  · rfl

theorem frameEnds_cycleState {b : FrameBody} (hb : 0 < b.rank) (s : State) : (frameEnds b s).cycle.cycle = s.cycle.cycle := by
  unfold frameEnds; split
  · exact offerCheck_cycleState _
  · exact timerNotice_cycle_of_not_mark hb s

theorem mem_offerCheck_of_low {c : FrameBody} {s : State} (hc : c ∈ s.link.bodies) (hr : c.rank ≤ 2) :
    c ∈ (offerCheck s).link.bodies := by
  rcases offerCheck_link s with e | ⟨o, e⟩
  · rwa [e]
  · rw [e]; exact mem_give_of_rank hc (by cases c <;> rfl) (not_lt.2 hr)

/-- A MARK is admitted to a full queue too: every other frame has a higher key (R168). -/
theorem give_mark (n : CycleNumber) (l : Link) : .mark n ∈ (l.give true (.mark n)).1.bodies ∧
    ∀ c, (l.give true (.mark n)).2 = some c → 0 < c.rank := by
  by_cases hp : l.placesHeld < 8
  · obtain ⟨hb, hn, -⟩ := give_waits (b := .mark n) hp rfl
    exact ⟨hb, fun c hc => by rw [hn] at hc; cases hc⟩
  · cases hr : replaceIn (.mark n) l.waiting with
    | some w =>
      have e : l.give true (.mark n) = ({ l with waiting := w }, none) := by simp [Link.give, hr]
      rw [e]
      exact ⟨(mem_replaceIn hr).1, fun c hc => by cases hc⟩
    | none =>
      have full : l.waiting ≠ [] := by
        intro hw
        unfold Link.placesHeld at hp
        rw [hw] at hp
        split at hp <;> exact hp (by decide)
      obtain ⟨f, hf⟩ := List.exists_mem_of_ne_nil _ full
      have above : FrameBody.rank (.mark n) < f.body.rank := by
        have other := replacedBy_eq_false hr hf
        refine Nat.pos_of_ne_zero fun h0 => ?_
        have mark := rank_eq_zero_iff.1 h0
        cases hb : f.body with
        | mark m => rw [hb] at other; cases other
        | _ => rw [hb] at mark; cases mark
      cases hg : youngestAbove (FrameBody.rank (.mark n)) l.waiting with
      | none => exact absurd above (rank_of_youngestAbove_none hg f hf)
      | some g =>
        rw [give_displaces hr rfl (not_lt.1 hp) hg]
        refine ⟨mem_bodies_insert.2 (.inl rfl), fun c hc => ?_⟩
        cases hc
        exact (youngestAbove_spec hg).2

/-- Settles O27. -/
theorem cycleAndPresenceTimersQueueTheirFrames : Obligations.CycleAndPresenceTimersQueueTheirFrames := by
  intro s h1 h2 h3
  have admits : admitsFrames s = true := by
    unfold admitsFrames StationState.admits
    cases hs : s.controller.station <;> simp_all
  refine ⟨fun k hk => ?_, fun k hk hp => ?_⟩
  · refine ⟨_, exec_effect _ s, ?_⟩
    rw [effect_cycleTimerExpiry, hk]
    obtain ⟨hmark, hended⟩ := give_mark (s.cycle.number + 1) s.link
    have admits' : admitsFrames { s with cycle := { s.cycle with cycle := .markQueued } } = true := admits
    dsimp only
    unfold giveFrame
    rw [admits']
    dsimp only
    split
    · exact ⟨rfl, rfl, mem_bodies.1 hmark⟩
    next c hc =>
      refine ⟨frameEnds_cycleState (hended c hc) _, by simp, mem_bodies.1 ?_⟩
      unfold frameEnds; split
      · exact mem_offerCheck_of_low (s := { s with
          link := (s.link.give true (.mark (s.cycle.number + 1))).1, cycle := { s.cycle with cycle := .markQueued }
          speed := { s.speed with offerWaiting := false } }) hmark (Nat.zero_le _)
      · rw [timerNotice_link]; exact hmark
  · refine ⟨_, exec_effect _ s, ?_⟩
    have place : queueHasPlace { s with cycle := { s.cycle with presence := .presenceQueued } } := ⟨h1, h2, h3, hp⟩
    obtain ⟨e, waits, -⟩ := giveFrame_waits (b := .presence (ownReport s)) place rfl
    rw [effect_presenceTimerExpiry, hk]
    dsimp only
    refine ⟨?_, mem_bodies.1 waits⟩
    unfold presenceRunsOut
    rw [e]

/-! ### The start of a frame -/

theorem startsFrames_iff {s : State} : startsFrames s = true ↔ s.controller.station ≠ .starting ∧
    s.controller.station ≠ .resting ∧ s.controller.station ≠ .conflict ∧ s.link.conflictReported = false := by
  unfold startsFrames admitsFrames StationState.admits
  cases s.controller.station <;> simp

/-! ### The loss of arbitration -/

/-- What the order of the queue goes by, and the kind. -/
def QueuedFrame.stampKind (f : QueuedFrame) : Nat × FrameKind := (f.stamp, f.body.kind)

theorem insertFrame_stampKinds {f g : QueuedFrame} (h : f.stampKind = g.stampKind) (l : List QueuedFrame) :
    (insertFrame f l).map QueuedFrame.stampKind = (insertFrame g l).map QueuedFrame.stampKind := by
  simp only [QueuedFrame.stampKind, Prod.mk.injEq] at h
  induction l with
  | nil => simp [insertFrame, QueuedFrame.stampKind, h.1, h.2]
  | cons a l ih =>
    have same : standsBefore a f = standsBefore a g := by unfold standsBefore FrameBody.rank; rw [h.1, h.2]
    unfold insertFrame
    rw [same]
    split
    · rw [List.map_cons, List.map_cons, ih]
    · simp [QueuedFrame.stampKind, h.1, h.2]

/-- The refresh of a waiting frame (R55). -/
def QueuedFrame.refreshed (r : Report) (f : QueuedFrame) : QueuedFrame :=
  if f.body.isPresence then { f with body := .presence r } else f

theorem refreshed_stampKind (r : Report) (f : QueuedFrame) : (f.refreshed r).stampKind = f.stampKind := by
  unfold QueuedFrame.refreshed
  cases hb : f.body <;> simp [FrameBody.isPresence, QueuedFrame.stampKind, hb, FrameBody.kind]

theorem refreshed_lostArbitration (r : Report) (f : QueuedFrame) : (f.refreshed r).lostArbitration = f.lostArbitration := by
  unfold QueuedFrame.refreshed; split <;> rfl

theorem refreshed_body {r : Report} {f : QueuedFrame} (h : f.body.kind ≠ .presence) : (f.refreshed r).body = f.body := by
  unfold QueuedFrame.refreshed
  cases hb : f.body <;> rw [hb] at h <;> simp_all [FrameBody.isPresence, FrameBody.kind]

theorem finish_waiting (s : State) : ∃ r, (finish s).link.waiting = s.link.waiting.map (QueuedFrame.refreshed r) :=
  ⟨ownReport (takeSilence s), by simp only [finish, refreshPresence, takeSilence_link]; rfl⟩

theorem finish_stampKinds (s : State) :
    (finish s).link.waiting.map QueuedFrame.stampKind = s.link.waiting.map QueuedFrame.stampKind := by
  obtain ⟨r, e⟩ := finish_waiting s
  rw [e, List.map_map]
  exact List.map_congr_left fun f _ => refreshed_stampKind r f

theorem waits_sharesPlace_iff {b : FrameBody} {l : Link} : l.waits b.sharesPlace = true ↔
    (b.kind = .mark ∨ b.kind = .presence) ∧ ∃ f ∈ l.waiting, f.body.kind = b.kind := by
  have shares (c : FrameBody) : b.sharesPlace c = true ↔ (b.kind = .mark ∨ b.kind = .presence) ∧ c.kind = b.kind := by
    cases b <;> cases c <;> simp [FrameBody.sharesPlace, FrameBody.kind]
  simp only [Link.waits, List.any_eq_true, shares]
  constructor
  · rintro ⟨f, hf, hb, hk⟩; exact ⟨hb, f, hf, hk⟩
  · rintro ⟨hb, f, hf, hk⟩; exact ⟨f, hf, hb, hk⟩

/-- Settles O24. -/
theorem frameStartAndArbitrationLost : Obligations.FrameStartAndArbitrationLost := by
  refine ⟨fun s f rest hs hw => ⟨fun h => ?_, fun h => ?_⟩, fun s q hs h1 h2 h3 => ?_, fun s q hs => ?_⟩
  · rw [exec_effect, effect_frameStart, if_pos ⟨startsFrames_iff.2 h, hs⟩]
    simp [Link.lineFrameEnded, Link.start, hw]
  · rw [exec_effect, effect_frameStart, if_neg]
    rintro ⟨ht, -⟩
    obtain ⟨h1, h2, h3, h4⟩ := startsFrames_iff.1 ht
    rcases h with h | h | h | h
    · exact h1 h
    · exact h2 h
    · exact h3 h
    · rw [h4] at h; cases h
  · have admits : admitsFrames (droppedOut s) = true := by
      unfold admitsFrames StationState.admits droppedOut
      cases hc : s.controller.station <;> simp_all
    refine ⟨_, exec_effect _ s, ?_⟩
    rw [effect_arbitrationLost, hs]
    dsimp only [unlessOrphan]
    rw [if_neg (by simp)]
    unfold waitAgain
    rw [if_pos admits]
    cases hshare : (droppedOut s).link.waits (FrameBody.sharesPlace q.body) with
    | true =>
      obtain ⟨hk, hf⟩ := waits_sharesPlace_iff.1 hshare
      rw [if_pos rfl]
      refine ⟨by simp [droppedOut], by simp only [finish_keeps]; rfl, fun h => ?_, fun _ _ => finish_stampKinds (droppedOut s)⟩
      obtain ⟨f, hm, hfk⟩ := hf
      rcases h with h | h
      · rcases hk with hk | hk
        · exact absurd hk h.1
        · exact absurd hk h.2
      · exact absurd hfk (h f hm)
    | false =>
      rw [if_neg (by simp)]
      refine ⟨by simp [droppedOut], by simp only [finish_keeps]; rfl, fun _ => ⟨?_, ?_⟩, fun hk hf => ?_⟩
      · exact (finish_stampKinds _).trans (insertFrame_stampKinds (f := { q with lostArbitration := true }) (g := q) rfl s.link.waiting)
      · obtain ⟨r, e⟩ := finish_waiting { droppedOut s with link := { (droppedOut s).link with
          waiting := insertFrame { q with lostArbitration := true } (droppedOut s).link.waiting } }
        rw [e]
        refine ⟨QueuedFrame.refreshed r { q with lostArbitration := true },
          List.mem_map.2 ⟨_, mem_insertFrame.2 (.inl rfl), rfl⟩, ?_⟩
        have kinds := refreshed_stampKind r { q with lostArbitration := true }
        simp only [QueuedFrame.stampKind, Prod.mk.injEq] at kinds
        exact ⟨kinds.1, kinds.2, refreshed_lostArbitration _ _, fun hp => refreshed_body hp⟩
      · have waits := (waits_sharesPlace_iff (l := (droppedOut s).link)).2 ⟨hk, hf⟩
        rw [hshare] at waits; cases waits
  · rw [exec_effect, effect_arbitrationLost, hs]
    rfl

end Sys2Proof.Machine
end

section
/-! PROOFS. The completion of an own frame (O25) and the line time-out (O26). -/

namespace Sys2Proof.Machine

/-! ### The presence timer at the end of a frame -/

/-- The end of a PRESENCE is all that moves the presence timer (R53). -/
theorem presenceEnds_presence (s : State) :
    (presenceEnds s).cycle.presence = s.cycle.presence ∨ (presenceEnds s).cycle.presence = .running 400 := by
  unfold presenceEnds; split
  · exact .inl rfl
  · exact .inr rfl
  · exact .inr rfl

theorem presenceEnds_of_not_stopped {s : State} (h : s.cycle.presence ≠ .stopped) :
    (presenceEnds s).cycle.presence = .running 400 := by
  unfold presenceEnds
  cases hp : s.cycle.presence with
  | stopped => exact absurd hp h
  | running k => rfl
  | presenceQueued => rfl

theorem timerNotice_presence (b : FrameBody) (s : State) :
    (timerNotice b s).cycle.presence = s.cycle.presence ∨ (timerNotice b s).cycle.presence = .running 400 := by
  cases b with
  | presence r => exact presenceEnds_presence s
  | mark n => exact .inl (by simp [timerNotice])
  | _ => exact .inl rfl

theorem offerCheck_presence (s : State) :
    (offerCheck s).cycle.presence = s.cycle.presence ∨ (offerCheck s).cycle.presence = .running 400 := by
  unfold offerCheck; repeat' split
  · unfold queueSpeedOffer; dsimp only; repeat' split
    · exact .inl rfl
    · exact .inl rfl
    · exact timerNotice_presence _ _
  · exact .inl rfl
  · exact .inl rfl

theorem frameEnds_presence (b : FrameBody) (s : State) :
    (frameEnds b s).cycle.presence = s.cycle.presence ∨ (frameEnds b s).cycle.presence = .running 400 := by
  unfold frameEnds; split
  · exact offerCheck_presence _
  · exact timerNotice_presence b s

/-! ### An own frame that completes -/

theorem completed_eq (ack : Bool) (s : State) : completed ack s =
    { s with link := { s.link with
        sending := none
        waiting := s.link.waiting.map fun f => { f with lostArbitration := false }
        counters := { s.link.counters with
          framesSent := countUp 65535 s.link.counters.framesSent
          notAcknowledged :=
            if ack then s.link.counters.notAcknowledged else countUp 65535 s.link.counters.notAcknowledged } } } := by
  cases ack <;> rfl

theorem framesSent_of_butDrops {k l : LinkCounters} (h : k.butDrops = l.butDrops) : k.framesSent = l.framesSent :=
  (LinkCounters.butDrops_eq_iff.1 h).1

/-- What a completed frame adds to the count, when its block takes no part in it. -/
theorem framesSent_completed {ack : Bool} {s t : State} (h : t.link.counters.butDrops = (completed ack s).link.counters.butDrops) :
    t.link.counters.framesSent = countUp 65535 s.link.counters.framesSent := by
  rw [framesSent_of_butDrops h, completed_eq]

theorem ownMark_cycle (n : CycleNumber) (o : MarkOrder) {s : State} (h : s.controller.station ≠ .starting) :
    (ownMark n o s).cycle.cycle = if s.cycle.cycle = .stopped then .stopped else .running (80 + s.loader.own.val) := by
  rw [ownMark, if_neg h]
  refine markEvent_cycle ?_ o ?_
  · split <;> simp
  · rw [restartCycle_cycle]; rfl

theorem ownMark_number (n : CycleNumber) (o : MarkOrder) {s : State} (h : s.controller.station ≠ .starting) :
    (ownMark n o s).cycle.number = n := by
  rw [ownMark, if_neg h]
  simp [adoptNumber]

/-- Settles O25. -/
theorem ownFramesComplete : Obligations.OwnFramesComplete := by
  refine ⟨fun s ack q hs => ⟨fun n o hb hst => ?_, fun o g hb hl hu hg hp hbase => ?_, fun r hb hr => ?_, fun hb => ?_⟩,
    fun s ack o q c hs hc => ?_⟩
  · refine ⟨_, exec_effect _ s, ?_⟩
    have started : (completed ack s).controller.station ≠ .starting := by rwa [completed_eq]
    have e : effect (.ownMarkComplete ack o) s = finish (ownMark n o (completed ack s)) := by
      rw [effect_ownMarkComplete, hs]; dsimp only; rw [hb]; rfl
    rw [e, finish_cycle, ownMark_cycle n o started, ownMark_number n o started]
    refine ⟨by simp [completed_eq], rfl, fun h => ?_, fun h => ?_, framesSent_completed (ack := ack) (by simp)⟩
    · rw [completed_eq]; exact if_neg h
    · rw [completed_eq]; exact if_pos h
  · refine ⟨_, exec_effect _ s, ?_⟩
    have e : effect (.ownOfferComplete ack) s = finish (offerEnds (takeOffer s.loader.own o (completed ack s))) := by
      rw [effect_ownOfferComplete, hs]; dsimp only; rw [hb]; simp [unlessOrphan, own]
    have taken := takeOffer_accepted (n := s.loader.own) (o := o) (s := completed ack s) (g := g)
      (by simpa [listening] using hl) hp (by simpa using hu) (by simpa using hg) (.inl hbase)
    rw [e, taken]
    exact ⟨by simp [completed_eq], by simp, framesSent_completed (ack := ack) (by simp)⟩
  · refine ⟨_, exec_effect _ s, ?_⟩
    have e : effect (.ownPresenceComplete ack) s = finish (presenceEnds (completed ack s)) := by
      rw [effect_ownPresenceComplete, hs]; dsimp only; rw [hb]; rfl
    rw [e, finish_cycle]
    exact ⟨by simp [completed_eq], presenceEnds_of_not_stopped (by rwa [completed_eq]), framesSent_completed (ack := ack) (by simp)⟩
  · rw [exec_effect, ← completed_eq, effect_ownFrameComplete, hs]
    dsimp only
    rcases hb with ⟨x, hb⟩ | ⟨x, hb⟩ | ⟨x, hb⟩ | ⟨x, hb⟩ <;> rw [hb]
  · rw [exec_effect, ← completed_eq]
    congr 1
    rcases hc with ⟨⟨x, hb⟩, rfl⟩ | ⟨⟨x, hb⟩, rfl⟩ | ⟨⟨x, hb⟩, rfl⟩ | ⟨hb, rfl⟩
    · rw [effect_ownMarkComplete, hs]; dsimp only; rw [hb]; rfl
    · rw [effect_ownOfferComplete, hs]; dsimp only; rw [hb]; rfl
    · rw [effect_ownPresenceComplete, hs]; dsimp only; rw [hb]; rfl
    · rw [effect_ownFrameComplete, hs]; dsimp only
      rcases hb with ⟨x, hb⟩ | ⟨x, hb⟩ | ⟨x, hb⟩ | ⟨x, hb⟩ <;> rw [hb]

/-! ### The line time-out -/

/-- No waiting frame is marked as having lost the arbitration of the frame now on the line. -/
def noneLost (l : Link) : Prop := ∀ f ∈ l.waiting, f.lostArbitration = false

theorem replaceIn_lost {b : FrameBody} {l l' : List QueuedFrame} (h : replaceIn b l = some l') :
    l'.map QueuedFrame.lostArbitration = l.map QueuedFrame.lostArbitration := by
  induction l generalizing l' with
  | nil => cases h
  | cons f rest ih =>
    unfold replaceIn at h
    split at h
    · cases h; rfl
    · cases hr : replaceIn b rest with
      | none => rw [hr] at h; cases h
      | some w => rw [hr] at h; cases h; rw [List.map_cons, List.map_cons, ih hr]

theorem noneLost_insert {b : FrameBody} {l : Link} (h : noneLost l) : noneLost (l.insert b) := by
  intro f hf
  rcases mem_insertFrame.1 hf with rfl | hm
  · rfl
  · exact h f hm

/-- A frame given has lost no arbitration. -/
theorem noneLost_give (admits : Bool) (b : FrameBody) {l : Link} (h : noneLost l) : noneLost (l.give admits b).1 := by
  have out := give_outcome admits b l
  generalize l.give admits b = g at out ⊢
  cases out with
  | ended k => exact h
  | onTheLine k => exact h
  | replaces w hw =>
    intro f hf
    have hm : f.lostArbitration ∈ w.map QueuedFrame.lostArbitration := List.mem_map_of_mem hf
    rw [replaceIn_lost hw] at hm
    obtain ⟨g, hg, e⟩ := List.mem_map.1 hm
    rw [← e]; exact h g hg
  | takesPlace => exact noneLost_insert h
  | displaces g =>
    exact noneLost_insert (b := b)
      (l := ({ l with waiting := l.waiting.erase g } : Link).countDrop) (fun f hf => h f (List.mem_of_mem_erase hf))

theorem noneLost_frameEnds (b : FrameBody) {s : State} (h : noneLost s.link) : noneLost (frameEnds b s).link := by
  unfold frameEnds; split
  · unfold offerEnds
    rcases offerCheck_link { s with speed := { s.speed with offerWaiting := false } } with e | ⟨o, e⟩
    · rw [e]; exact h
    · rw [e]; exact noneLost_give _ _ h
  · rw [timerNotice_link]; exact h

theorem frameEnds_of_not_offer {b : FrameBody} (h : b.isOffer = false) (s : State) : frameEnds b s = timerNotice b s := by
  rw [frameEnds, h, if_neg (by decide)]

/-- A fold of steps that keep `P` or reach `R`, and keep `R`, ends in `R` when one of its steps leads from `P` to `R`. -/
theorem foldl_reaches {σ α : Type} {P R : σ → Prop} {f : σ → α → σ} (hPR : ∀ t a, P t → P (f t a)) (hR : ∀ t a, R t → R (f t a))
    {l : List α} {a : α} (ha : a ∈ l) (hit : ∀ t, P t → R (f t a)) {s : σ} (hs : P s) : R (l.foldl f s) := by
  obtain ⟨before, after, rfl⟩ := List.append_of_mem ha
  rw [List.foldl_append, List.foldl_cons]
  exact foldl_invariant (P := R) (hit _ (foldl_invariant (P := P) hs hPR before)) hR after

/-- The timers as a line time-out may find and leave them: of a MARK that is queued, or one whose end has been told. -/
def markQueuedOrEnded (n : Station) (s : State) : Prop :=
  s.loader.own = n ∧ (s.cycle.cycle = .markQueued ∨ s.cycle.cycle = .running (80 + n.val))

theorem markQueuedOrEnded_mark {n : Station} {s : State} (h : markQueuedOrEnded n s) (m : CycleNumber) :
    (frameEnds (.mark m) s).loader.own = n ∧ (frameEnds (.mark m) s).cycle.cycle = .running (80 + n.val) := by
  obtain ⟨hn, hc⟩ := h
  refine ⟨by simpa using hn, ?_⟩
  show (markEnds s).cycle.cycle = _
  unfold markEnds
  rcases hc with hc | hc <;> rw [hc]
  · simp [cycleDuration, own, ms, hn]
  · exact hc

theorem markQueuedOrEnded_frameEnds {n : Station} {s : State} (h : markQueuedOrEnded n s) (b : FrameBody) :
    markQueuedOrEnded n (frameEnds b s) := by
  rcases Nat.eq_zero_or_pos b.rank with hb | hb
  · cases hk : b with
    | mark m => obtain ⟨hn, hc⟩ := markQueuedOrEnded_mark h m; exact ⟨hn, .inr hc⟩
    | _ => rw [hk] at hb; cases rank_eq_zero_iff.1 hb
  · exact ⟨by simpa using h.1, by rw [frameEnds_cycleState hb]; exact h.2⟩

/-- An abandoned MARK starts the cycle timer again (R47). -/
theorem lineTimeOut_mark {s : State} {n : CycleNumber} (h : .mark n ∈ abandonedFrames s.link) (hc : s.cycle.cycle = .markQueued) :
    (effect .lineTimeOut s).cycle.cycle = .running (80 + s.loader.own.val) := by
  rw [effect_lineTimeOut]
  refine (foldl_reaches (P := markQueuedOrEnded s.loader.own)
    (R := fun t => t.loader.own = s.loader.own ∧ t.cycle.cycle = .running (80 + s.loader.own.val))
    (fun t b ht => markQueuedOrEnded_frameEnds ht b) (fun t b ht => ⟨by simpa using ht.1, frameEnds_cycle (by simp) b ht.2⟩)
    h (fun t ht => markQueuedOrEnded_mark ht n) (s := { s with link := s.link.timedOut }) ⟨rfl, .inl hc⟩).2

/-- An abandoned PRESENCE starts the presence timer again (R53). -/
theorem lineTimeOut_presence {s : State} {r : Report} (h : .presence r ∈ abandonedFrames s.link)
    (hc : s.cycle.presence = .presenceQueued) : (effect .lineTimeOut s).cycle.presence = .running 400 := by
  rw [effect_lineTimeOut]
  refine foldl_reaches (P := fun t : State => t.cycle.presence ≠ .stopped)
    (R := fun t : State => t.cycle.presence = .running 400) (f := fun t b => frameEnds b t)
    (fun t b ht => ?_) (fun t b ht => ?_) h (fun t ht => presenceEnds_of_not_stopped ht)
    (s := { s with link := s.link.timedOut }) (by simp [hc])
  · rcases frameEnds_presence b t with e | e <;> rw [e]
    · exact ht
    · simp
  · rcases frameEnds_presence b t with e | e <;> rw [e]
    exact ht

theorem mem_abandonedFrames_sending {l : Link} {q : QueuedFrame} (h : l.sending = some ⟨q, false⟩) : q.body ∈ abandonedFrames l := by
  simp [abandonedFrames, h]

theorem mem_abandonedFrames_waiting {l : Link} {f : QueuedFrame} (hf : f ∈ l.waiting) (h : f.lostArbitration = true) :
    f.body ∈ abandonedFrames l :=
  List.mem_append_right _ (List.mem_map_of_mem (List.mem_filter.2 ⟨hf, h⟩))

/-- Settles O26. -/
theorem lineTimeOutAbandons : Obligations.LineTimeOutAbandons := by
  intro s
  refine ⟨_, exec_effect _ s, lineTimeOut_field (·.link.sending) (by simp) s, ?_, fun h => ?_, ?_, ?_,
    lineTimeOut_field (·.scene) (by simp) s, lineTimeOut_field (·.cycle.number) (by simp) s, fun n m lost hs hc => ?_,
    fun r m lost hs hc => ?_, fun f hf n hb hl hc => ?_, fun f hf r hb hl hc => ?_⟩
  · rw [effect_lineTimeOut]
    refine foldl_invariant (P := fun t : State => noneLost t.link) (fun f hf => ?_) (fun t b ht => noneLost_frameEnds b ht) _
    simpa using (List.mem_filter.1 hf).2
  · rw [effect_lineTimeOut]
    refine List.foldlRecOn (motive := fun t : State => t.link.waiting = s.link.waiting.filter fun f => !f.lostArbitration) _ _ rfl
      fun t ht b hb => ?_
    rw [frameEnds_of_not_offer (h b hb), timerNotice_link]
    exact ht
  · have counts := LinkCounters.butDrops_eq_iff.1 (lineTimeOut_field (·.link.counters.butDrops) (by simp) s)
    obtain ⟨-, -, -, -, timeOuts, -⟩ := counts
    exact timeOuts
  · exact framesSent_of_butDrops (l := s.link.timedOut.counters) (lineTimeOut_field (·.link.counters.butDrops) (by simp) s)
  · exact lineTimeOut_mark (mem_abandonedFrames_sending hs) hc
  · exact lineTimeOut_presence (mem_abandonedFrames_sending hs) hc
  · exact lineTimeOut_mark (hb ▸ mem_abandonedFrames_waiting hf hl) hc
  · exact lineTimeOut_presence (hb ▸ mem_abandonedFrames_waiting hf hl) hc

end Sys2Proof.Machine
end

section
/-! PROOFS. The join window and the fetch timer (O28), and the generation reports (O19). -/

namespace Sys2Proof.Machine

/-! ### FETCHes -/

theorem queueFetch_waits {w : Generation} {s : State} (h : queueHasPlace s) : .fetch (some w) ∈ (queueFetch w s).link.bodies :=
  (giveFrame_waits h (sceneInTransmission_of_notScene (by simp [FrameBody.kind]) _)).2.1

theorem fetchAfresh_waits {w : Generation} {s : State} (h : queueHasPlace s) : .fetch (some w) ∈ (fetchAfresh w s).link.bodies :=
  queueFetch_waits (s := { s with scene := { s.scene with fetch := some ⟨w, 1, ms 80⟩ } }) h

theorem enterResync_waits {w : Generation} {s : State} (h : queueHasPlace s) : .fetch (some w) ∈ (enterResync w s).link.bodies :=
  fetchAfresh_waits
    (s := { s with scene := { s.scene with unit := .resync, pending := emptyRecord, conflict := none } }) h

theorem fetchWaits_finish {w : Generation} {s : State} (h : .fetch (some w) ∈ s.link.bodies) : fetchWaits w (finish s) :=
  mem_bodies.1 ((mem_bodies_finish (by simp [FrameBody.kind])).2 h)

theorem waits_isFetch_iff {l : Link} : l.waits FrameBody.isFetch = true ↔ ∃ f ∈ l.waiting, f.body.isFetch = true := by
  simp [Link.waits]

/-- Settles O28. -/
theorem joinWindowAndFetchTimer : Obligations.JoinWindowAndFetchTimer := by
  intro s hl
  refine ⟨fun k hu hk => ?_, fun f hu hf => ⟨fun ha => ?_, fun ha => ?_⟩⟩
  · have e : effect .joinWindowExpiry s = finish (leaveProvisional ⟨some 1, s.loader.image.startScene, s.loader.own,
        digestOf s.loader.image.startScene⟩ s) := by
      have running : s.scene.joinWindow.isSome = true := by rw [hk]; rfl
      rw [effect_joinWindowExpiry, if_pos running, joinWindowEnds, if_pos ⟨unitListens_iff.2 hl, hu, running⟩]
      rfl
    refine ⟨_, exec_effect _ s, ?_⟩
    rw [e]
    refine ⟨by simp, fun _ => ⟨fun hz hq hn => ?_, fun hz => ?_⟩, fun n => ?_⟩
    · rw [sceneWaits, ← mem_bodies, mem_bodies_finish (by simp [FrameBody.kind])]
      exact leaveProvisional_waits hz hq hn
    · refine noSceneQueued_of_waitsWithin ((scenes_quietOn s.link.bodies).finish ?_)
      rw [leaveProvisional_link_of_lower hz]
      exact waitsWithin_bodies _ _
    · exact (provisional_windowInvariant n).finish (leaveProvisional_claims _ _ n)
  · have e : effect .fetchTimerExpiry s =
        queueFetch f.wanted { s with scene := { s.scene with fetch := some ⟨f.wanted, f.attempts + 1, 320⟩ } } := by
      rw [effect_fetchTimerExpiry, fetchTimerEnds, if_pos ⟨unitListens_iff.2 hl, hu⟩, hf]
      exact if_pos ha
    refine ⟨_, exec_effect _ s, ?_⟩
    rw [e]
    refine ⟨by simp [queueFetch], fun hq => mem_bodies.1 (queueFetch_waits ?_)⟩
    exact hq
  · rw [exec_effect, effect_fetchTimerExpiry, fetchTimerEnds, if_pos ⟨unitListens_iff.2 hl, hu⟩, hf]
    dsimp only
    rw [ha, if_neg (by decide)]
    rfl

/-! ### A recorded PRESENCE -/

/-- The state in which the generation report of a recorded PRESENCE is taken: the entry and its notices are made (R60, R68, R69). -/
def recorded (n : Station) (r : Report) (s : State) : State :=
  let before := s.peers.entries.get n
  let s1 := { s with peers := { s.peers with entries := s.peers.entries.set n (.known .active r 0) } }
  let s2 := if peerChanged before r then askGapReview s1 else s1
  if countedDemand before = countedDemand (.known .active r 0) then s2 else reviewDemand s2

section
variable {n : Station} {r : Report} {s : State}

theorem recordReport_of_other (h : s.peers.entries.get n ≠ .self) : recordReport n r s = reportGeneration r (recorded n r s) :=
  if_neg h

theorem recorded_keeps : (recorded n r s).scene = s.scene ∧ (recorded n r s).link = s.link ∧
    (recorded n r s).loader = s.loader ∧ (recorded n r s).controller = s.controller ∧
    (recorded n r s).protection.active = s.protection.active ∧ (recorded n r s).protection.clip = s.protection.clip ∧
    (recorded n r s).peers = { s.peers with entries := s.peers.entries.set n (.known .active r 0) } := by
  unfold recorded askGapReview; dsimp only
  split <;> split <;> simp

theorem reportGeneration_of_zone {g : Generation} {d : Digest} (hk : r.kind = .zone) (ha : r.applied = some (g, d)) :
    reportGeneration r s = takeReport g d s := by
  unfold reportGeneration; rw [hk, ha]

theorem takePresence_of_report {f : PresenceFrame} (hf : presenceReport f = some r) (h : s.peers.entries.get n ≠ .self) :
    takePresence n f s = reportGeneration r (recorded n r s) := by
  rw [← recordReport_of_other h, takePresence, hf]

theorem takePresence_discarded {f : PresenceFrame} (hf : presenceReport f = none) : takePresence n f s = s := by
  rw [takePresence, hf]

end

/-- Hearing a frame makes no entry SELF, and leaves it so. -/
theorem goodFrame_self {s : State} (n : Station) :
    (goodFrame s).peers.entries.get n = .self ↔ s.peers.entries.get n = .self := by
  unfold goodFrame frameHeard; dsimp only
  split
  · split
    · have emptied (u : State) : (emptyTable u).peers.entries.get n = .self ↔ u.peers.entries.get n = .self := by
        unfold emptyTable; dsimp only
        split <;> simp only [reviewDemand_keeps, PerStation.get_map] <;> cases u.peers.entries.get n <;> simp
      simp [emptied]
    · simp
  · simp

theorem Heard.not_self {n : Station} {s t : State} (h : Heard s t) (hs : s.peers.entries.get n ≠ .self) :
    t.peers.entries.get n ≠ .self := by rw [h.peers, Ne, goodFrame_self]; exact hs

/-! ### The generation report -/

theorem newer_self_false (g : Generation) : newer g g = false := by
  simp only [newer, BitVec.sub_self]; decide

section
variable {g : Generation} {d : Digest} {s : State} (hl : listening s)
include hl

theorem takeReport_provisional (hu : s.scene.unit = .provisional) : takeReport g d s = queueFetchOnce g s := by
  unfold takeReport; rw [if_pos (unitListens_iff.2 hl), hu]

theorem takeReport_agreed (hu : s.scene.unit = .agreed) : takeReport g d s = reportInAgreed g d s := by
  unfold takeReport; rw [if_pos (unitListens_iff.2 hl), hu]

theorem takeReport_resync (hu : s.scene.unit = .resync) : takeReport g d s = reportInResync g s := by
  unfold takeReport; rw [if_pos (unitListens_iff.2 hl), hu]

end

section
variable {g own : Generation} {d : Digest} {s : State} (hg : s.scene.applied.generation = some own)
include hg

theorem reportInAgreed_newer (hn : newer g own = true) (h : ∀ sc, s.scene.staged = some sc → newer g sc.generation = true) :
    reportInAgreed g d s = enterResync g s := by
  unfold reportInAgreed; rw [hg]; dsimp only; rw [if_pos hn]
  cases hs : s.scene.staged with
  | none => rfl
  | some sc => exact if_pos (h sc hs)

theorem reportInAgreed_overtaken {sc : Scene} (hn : newer g own = true) (hs : s.scene.staged = some sc)
    (h : newer g sc.generation = false) : reportInAgreed g d s = s := by
  unfold reportInAgreed; rw [hg]; dsimp only; rw [if_pos hn, hs]
  exact if_neg (by rw [h]; decide)

theorem reportInAgreed_conflict (he : g = own) (hs : s.scene.staged = none) (hd : s.scene.applied.digest < d) :
    reportInAgreed g d s = { queueFetchOnce g s with scene := { (queueFetchOnce g s).scene with conflict := some g } } := by
  unfold reportInAgreed; rw [hg]; dsimp only
  rw [he, newer_self_false, if_neg (by decide), if_pos ⟨rfl, hs, hd⟩]

theorem reportInAgreed_other (hn : newer g own = false) (h : g ≠ own ∨ s.scene.staged ≠ none ∨ ¬s.scene.applied.digest < d) :
    reportInAgreed g d s = s := by
  unfold reportInAgreed; rw [hg]; dsimp only
  rw [hn, if_neg (by decide), if_neg (by tauto)]

end

theorem reportInResync_newer {g : Generation} {f : FetchState} {s : State} (hf : s.scene.fetch = some f)
    (hn : newer g f.wanted = true) : reportInResync g s = fetchAfresh g s := by
  unfold reportInResync; rw [hf]; exact if_pos hn

theorem reportInResync_other {g : Generation} {f : FetchState} {s : State} (hf : s.scene.fetch = some f)
    (hn : newer g f.wanted = false) : reportInResync g s = s := by
  unfold reportInResync; rw [hf]; exact if_neg (by rw [hn]; decide)

/-- What a generation report finds: the unit listens, and its record is as it was. -/
def reportFound (s u : State) : Prop := u.scene = s.scene ∧ listening u

theorem recorded_reportFound {n : Station} {r : Report} {s t : State} (hl : listening s) (ht : Heard s t) :
    reportFound s (recorded n r t) := by
  obtain ⟨scene, -, -, controller, -⟩ := recorded_keeps (n := n) (r := r) (s := t)
  refine ⟨scene.trans ht.scene, ?_⟩
  unfold listening
  rw [controller]; exact ht.listening hl

section
variable {rx : Reception} {f : PresenceFrame} {s : State} {r : Report} {g : Generation} {d : Digest} (hr : routed rx s)
  (hl : listening s) (hf : presenceReport f = some r) (hs : s.peers.entries.get rx.sender ≠ .self) (hk : r.kind = .zone)
  (ha : r.applied = some (g, d))
include hf hs hk ha

/-- A recorded PRESENCE of a zone station brings its generation report. -/
theorem takePresence_reports {t : State} (ht : Heard s t) :
    takePresence rx.sender f t = takeReport g d (recorded rx.sender r t) := by
  rw [takePresence_of_report hf (ht.not_self hs), reportGeneration_of_zone hk ha]

include hr hl

theorem presenceReceived_scene {v : SceneUnit} (h : ∀ u, reportFound s u → (takeReport g d u).scene = v) :
    (effect (.presenceReceived rx f) s).scene = v := by
  rw [effect_presenceReceived]
  refine received_of_heard (P := fun t => t.scene = v) hr (fun t ht => ?_) (fun t ht => by simpa using ht)
    fun t ht => by simpa using ht
  rw [takePresence_reports hf hs hk ha ht]
  exact h _ (recorded_reportFound hl ht)

/-- With a free place the FETCH that the report queues waits afterwards (R34, R35, R39). -/
theorem presenceReceived_fetchWaits {w : Generation} (hq : queueHasPlace s)
    (h : ∀ u, reportFound s u → queueHasPlace u → (∀ b, b ∈ u.link.bodies → b ∈ s.link.bodies) →
      .fetch (some w) ∈ (takeReport g d u).link.bodies) :
    fetchWaits w (effect (.presenceReceived rx f) s) := by
  have ht := heard_goodFrame s
  obtain ⟨scene, link, loader, controller, -⟩ := recorded_keeps (n := rx.sender) (r := r) (s := goodFrame s)
  rw [effect_presenceReceived, received_awake hr hq.2.1 (by simpa using hq.2.1)]
  refine fetchWaits_finish ?_
  rw [takePresence_reports hf hs hk ha ht]
  refine h _ (recorded_reportFound hl ht) (queueHasPlace_congr controller (by rw [link]) (goodFrame_hasPlace hq)) ?_
  intro b hb
  rwa [link, goodFrame_bodies] at hb

end

/-- No own FETCH waits. -/
theorem queueFetchOnce_waits {w : Generation} {s u : State} (hq : queueHasPlace u) (hb : ∀ b, b ∈ u.link.bodies → b ∈ s.link.bodies)
    (h : ∀ q ∈ s.link.waiting, q.body.isFetch = false) : .fetch (some w) ∈ (queueFetchOnce w u).link.bodies := by
  have none : ¬u.link.waits FrameBody.isFetch = true := by
    intro hw
    obtain ⟨q, hm, hq⟩ := waits_isFetch_iff.1 hw
    obtain ⟨p, hp, e⟩ := mem_bodies.1 (hb q.body (mem_bodies.2 ⟨q, hm, rfl⟩))
    rw [← e, h p hp] at hq; cases hq
  rw [queueFetchOnce, if_neg none]
  exact queueFetch_waits hq

/-! ### A waiting FETCH through a wake -/

/-- A waiting frame that stands before a PRESENCE outlasts one that is given (R168). -/
theorem mem_giveFrame_presence {c : FrameBody} {r : Report} {s : State} (hc : c ∈ s.link.bodies) (hr : c.rank < 6) :
    c ∈ (giveFrame (.presence r) s).link.bodies := by
  have kept := mem_give_of_rank (admits := admitsFrames s) (b := .presence r) hc
    (by cases c <;> simp_all [replacedBy, FrameBody.rank, FrameBody.kind, classRank]) (not_lt.2 hr.le)
  unfold giveFrame; dsimp only
  split
  · exact kept
  next e he =>
    have late : 6 ≤ e.rank := by
      rcases give_ended he with rfl | h
      · exact le_rfl
      · exact h.le
    rw [frameEnds_of_not_offer (by cases e <;> simp_all [FrameBody.isOffer, FrameBody.rank, FrameBody.kind, classRank]),
      timerNotice_link]
    exact kept

/-- The state that a RESTING station wakes into, before its two timers start (R184). -/
def leftResting (s : State) : State :=
  if (removeAll .rest s).protection.active.thermalShut then
    { removeAll .rest s with controller := { (removeAll .rest s).controller with station := .shutdown } }
  else enterRailUp (removeAll .rest s)

theorem wake_of_resting {s : State} (h : s.controller.station = .resting) :
    wake s = startFirstPresence (startCycle (leftResting s)) := if_pos h

theorem leftResting_link (s : State) : (leftResting s).link = s.link := by
  unfold leftResting; split <;> simp

theorem mem_startFirstPresence {c : FrameBody} {s : State} (hc : c ∈ s.link.bodies) (hr : c.rank < 6) :
    c ∈ (startFirstPresence s).link.bodies := by
  unfold startFirstPresence; split
  · exact mem_giveFrame_presence (s := { s with cycle := { s.cycle with presence := .presenceQueued } }) hc hr
  · exact hc

theorem mem_wake {c : FrameBody} {s : State} (hc : c ∈ s.link.bodies) (hr : c.rank < 6) : c ∈ (wake s).link.bodies := by
  by_cases h : s.controller.station = .resting
  · rw [wake_of_resting h]
    refine mem_startFirstPresence ?_ hr
    show c ∈ (leftResting s).link.bodies
    rwa [leftResting_link]
  · rwa [wake_of_not_resting h]

theorem Heard.mem_bodies {c : FrameBody} {s t : State} (h : Heard s t) (hc : c ∈ s.link.bodies) (hr : c.rank < 6) :
    c ∈ t.link.bodies := by
  rw [← goodFrame_bodies] at hc
  obtain rfl | rfl := h.cases
  · exact hc
  · exact mem_wake hc hr

/-- Settles O19. -/
theorem generationReports : Obligations.GenerationReports := by
  refine ⟨fun rx f s r g d hr hl hf hs hk ha hu => ?_, fun rx f s r g own d hr hl hf hs hk ha hg =>
    ⟨fun hu hn hst => ?_, fun hu he hst hd => ?_, fun hu hn he => ?_, fun sc hu hn hst hn' => ?_, fun hu he h => ?_,
      fun fetch hu hfe hn => ?_, fun fetch hu hfe hn => ?_⟩⟩
  · have once (u : State) (h : reportFound s u) : takeReport g d u = queueFetchOnce g u :=
      takeReport_provisional h.2 (by rw [h.1, hu])
    refine ⟨_, exec_effect _ s, presenceReceived_scene hr hl hf hs hk ha fun u h => ?_, fun hq hn => ?_, fun hw q hq hqf => ?_⟩
    · rw [once u h, ← h.1]; simp
    · refine presenceReceived_fetchWaits hr hl hf hs hk ha hq fun u h hqu hb => ?_
      rw [once u h]
      exact queueFetchOnce_waits hqu hb hn
    · have kind : q.body.kind = .fetch := by cases hb : q.body <;> rw [hb] at hqf <;> first | rfl | cases hqf
      have quiet := waitsWithin_quietOn (k := .fetch) (by decide) s.link.bodies
      have within : waitsWithin .fetch s.link.bodies (effect (.presenceReceived rx f) s).link := by
        rw [effect_presenceReceived]
        refine quiet.received_heard hr (fun t ht h => ?_) (waitsWithin_bodies _ _)
        obtain ⟨scene, link, -⟩ := recorded_keeps (n := rx.sender) (r := r) (s := t)
        rw [takePresence_reports hf hs hk ha ht, once _ (recorded_reportFound hl ht), queueFetchOnce, if_pos]
        · rw [link]; exact h
        · obtain ⟨p, hp, hpf⟩ := hw
          have early : p.body.rank < 6 := by
            cases hb : p.body <;> rw [hb] at hpf <;> first | exact Nat.lt_succ_self 5 | cases hpf
          obtain ⟨x, hx, e⟩ := Machine.mem_bodies.1 (ht.mem_bodies (Machine.mem_bodies.2 ⟨p, hp, rfl⟩) early)
          rw [link]
          exact waits_isFetch_iff.2 ⟨x, hx, by rw [e]; exact hpf⟩
      exact Machine.mem_bodies.1 (within q.body (Machine.mem_bodies.2 ⟨q, hq, rfl⟩) kind)
  · have entered (u : State) (h : reportFound s u) : takeReport g d u = enterResync g u := by
      rw [takeReport_agreed h.2 (by rw [h.1, hu]), reportInAgreed_newer (by rw [h.1, hg]) hn (by rw [h.1]; exact hst)]
    refine ⟨_, exec_effect _ s, presenceReceived_scene hr hl hf hs hk ha fun u h => ?_, fun hq => ?_⟩
    · rw [entered u h, enterResync_scene, h.1]
    · refine presenceReceived_fetchWaits hr hl hf hs hk ha hq fun u h hqu _ => ?_
      rw [entered u h]
      exact enterResync_waits hqu
  · have opened (u : State) (h : reportFound s u) : takeReport g d u =
        { queueFetchOnce g u with scene := { (queueFetchOnce g u).scene with conflict := some g } } := by
      rw [takeReport_agreed h.2 (by rw [h.1, hu]), reportInAgreed_conflict (own := own) (by rw [h.1, hg]) he (by rw [h.1, hst])
        (by rw [h.1]; exact hd)]
    refine ⟨_, exec_effect _ s, presenceReceived_scene hr hl hf hs hk ha fun u h => ?_, fun hq hn => ?_⟩
    · rw [opened u h]
      simp [h.1]
    · refine presenceReceived_fetchWaits hr hl hf hs hk ha hq fun u h hqu hb => ?_
      rw [opened u h]
      exact queueFetchOnce_waits hqu hb hn
  · refine ⟨_, exec_effect _ s, presenceReceived_scene hr hl hf hs hk ha fun u h => ?_⟩
    rw [takeReport_agreed h.2 (by rw [h.1, hu]), reportInAgreed_other (by rw [h.1, hg]) hn (.inl he), h.1]
  · refine ⟨_, exec_effect _ s, presenceReceived_scene hr hl hf hs hk ha fun u h => ?_⟩
    rw [takeReport_agreed h.2 (by rw [h.1, hu]), reportInAgreed_overtaken (by rw [h.1, hg]) hn (by rw [h.1, hst]) hn', h.1]
  · refine ⟨_, exec_effect _ s, presenceReceived_scene hr hl hf hs hk ha fun u hu' => ?_⟩
    rw [takeReport_agreed hu'.2 (by rw [hu'.1, hu]), reportInAgreed_other (own := own) (by rw [hu'.1, hg])
      (by rw [he]; exact newer_self_false own) (.inr (by rw [hu'.1]; exact h)), hu'.1]
  · have afresh (u : State) (h : reportFound s u) : takeReport g d u = fetchAfresh g u := by
      rw [takeReport_resync h.2 (by rw [h.1, hu]), reportInResync_newer (by rw [h.1, hfe]) hn]
    refine ⟨_, exec_effect _ s, presenceReceived_scene hr hl hf hs hk ha fun u h => ?_, fun hq => ?_⟩
    · rw [afresh u h, fetchAfresh_scene, h.1]
    · refine presenceReceived_fetchWaits hr hl hf hs hk ha hq fun u h hqu _ => ?_
      rw [afresh u h]
      exact fetchAfresh_waits hqu
  · refine ⟨_, exec_effect _ s, presenceReceived_scene hr hl hf hs hk ha fun u h => ?_⟩
    rw [takeReport_resync h.2 (by rw [h.1, hu]), reportInResync_other (by rw [h.1, hfe]) hn, h.1]

end Sys2Proof.Machine
end

section
/-! PROOFS. The PRESENCE received and recorded (O18). -/

namespace Sys2Proof.Machine

/-! ### The demands through a closing window and a wake -/

theorem ownDemand_congr {s t : State} (hi : t.loader = s.loader) (hc : t.protection.clip = s.protection.clip)
    (hw : t.protection.active.thermalWarn = s.protection.active.thermalWarn)
    (hs : t.protection.active.railSag = s.protection.active.railSag) : ownDemand t = ownDemand s := by
  simp only [ownDemand, thermalContribution, sagContribution, hi, hc, hw, hs]

theorem greatestDemand_of_state {s t : State} (ho : ownDemand t = ownDemand s) (hi : t.loader = s.loader) (hd : t.draws = s.draws)
    (hp : t.peers = s.peers) : greatestDemand t = greatestDemand s :=
  greatestDemand_congr ho (by simp only [cutMode, hi, hd]) hp

theorem withDemand_of_same {f : State → State} {s : State} (h : ownDemand (f s) = ownDemand s) : withDemand f s = f s := if_pos h

/-- A rail fault that is no part of the own demand clears without moving the cut (R155). -/
theorem clearRailFault_planner {f : StationFault} {s : State} (h : ownDemand (unmarkFault f s) = ownDemand s) :
    (clearRailFault f s).planner = s.planner := by
  unfold clearRailFault; split
  · rw [withDemand_of_same h]
    have fold := foldl_field (fun t => t.planner) (g := fun s n => releaseFaultClaim n s) (fun _ _ => by simp)
      allChannels (unmarkFault f s)
    dsimp only
    cases f
    case railHigh => exact fold
    all_goals rfl
  · rfl

theorem closeWindow_planner {s : State} (h : s.protection.active.railSag = false) : (closeWindow s).planner = s.planner := by
  unfold closeWindow; dsimp only
  rw [clearRailFault_planner (f := .railHigh) (ownDemand_congr rfl rfl rfl rfl),
    clearRailFault_planner (f := .railLow) (ownDemand_congr rfl rfl rfl rfl), clearRailFault_planner (f := .railSag)]
  exact ownDemand_congr rfl rfl rfl (by simp [unmarkFault, PerFault.set, h])

theorem enterRailUp_active (s : State) : (enterRailUp s).protection.active =
    if s.pins.railGood then
      (((s.protection.active.set .railSag false).set .railLow false).set .railHigh false).set .railFail false
    else ((s.protection.active.set .railSag false).set .railLow false).set .railHigh false := by
  unfold enterRailUp
  cases hp : s.pins.railGood <;> simp [hp, enterStabilising, unmarkFault, closeWindow_active]

theorem enterRailUp_planner {s : State} (h : s.protection.active.railSag = false) : (enterRailUp s).planner = s.planner := by
  have closed (k : Controller) : (closeWindow { leaveReady .hard s with controller := k }).planner = s.planner := by
    rw [closeWindow_planner (by simpa using h)]; simp
  unfold enterRailUp; dsimp only; split
  · exact closed _
  · exact closed _

theorem leftResting_planner {s : State} (h : s.protection.active.railSag = false) : (leftResting s).planner = s.planner := by
  unfold leftResting; split
  · simp
  · rw [enterRailUp_planner (by simpa using h)]; simp

theorem leftResting_demand {s : State} (h : s.protection.active.railSag = false) : ownDemand (leftResting s) = ownDemand s := by
  unfold leftResting; split
  · exact ownDemand_congr (by simp) (by simp) (by simp) (by simp)
  · refine ownDemand_congr (by simp) (by simp) ?_ ?_
    · rw [enterRailUp_active]; split <;> simp [PerFault.set]
    · rw [enterRailUp_active]; split <;> simp [PerFault.set, h]

/-- A wake moves neither the planner nor the demands while no RAIL_SAG is active. -/
theorem wake_still {s : State} (h : s.protection.active.railSag = false) :
    (wake s).planner = s.planner ∧ greatestDemand (wake s) = greatestDemand s := by
  by_cases hr : s.controller.station = .resting
  · refine ⟨?_, greatestDemand_of_state ?_ (by simp) (by simp) (by simp)⟩
    · rw [wake_of_resting hr, ← leftResting_planner h]; simp
    · rw [wake_of_resting hr, ← leftResting_demand h]
      exact ownDemand_congr (by simp) (by simp) (by simp) (by simp)
  · rw [wake_of_not_resting hr]; exact ⟨rfl, rfl⟩

/-! ### What a recorded PRESENCE asks the Gain Planner for -/

theorem demandTold_iff {e : PeerEntry} {d : Nat} : demandTold e d ↔ countedDemand e = some d := by
  cases e with
  | known life r age => cases life <;> simp [demandTold, countedDemand]
  | _ => simp [demandTold, countedDemand]

theorem demandTold_same_iff {a b : PeerEntry} : (∀ d, demandTold a d ↔ demandTold b d) ↔ countedDemand a = countedDemand b := by
  simp only [demandTold_iff]
  exact ⟨fun h => Option.ext h, fun h d => by rw [h]⟩

theorem gapNoticeDue_iff {r : Report} {e : PeerEntry} : gapNoticeDue r e ↔ peerChanged e r = true := by
  cases e with
  | known life old age =>
    have kinds : ¬(r.kind = .zone ↔ old.kind = .zone) ↔ zoneChange old.kind r.kind = true := by
      by_cases h1 : r.kind = .zone <;> by_cases h2 : old.kind = .zone <;> simp [zoneChange, h1, h2]
    simp only [gapNoticeDue, kinds, peerChanged]
    simp [or_assoc]
  | _ => simp [gapNoticeDue, peerChanged]

section
variable {n : Station} {r : Report} {s : State}

theorem recorded_gapReview :
    (recorded n r s).planner.gapReview = (peerChanged (s.peers.entries.get n) r || s.planner.gapReview) := by
  unfold recorded askGapReview; dsimp only
  split <;> split <;> simp_all

/-- A demand that stays moves nothing but the review mark. -/
theorem recorded_of_same (h : countedDemand (s.peers.entries.get n) = countedDemand (.known .active r 0)) :
    (recorded n r s).planner = { s.planner with gapReview := (recorded n r s).planner.gapReview } := by
  unfold recorded askGapReview; dsimp only
  rw [if_pos h]
  split <;> rfl

/-- A demand that changes is compared with the cut (R69, R99). -/
theorem recorded_of_changed (h : countedDemand (s.peers.entries.get n) ≠ countedDemand (.known .active r 0)) :
    cutFollows s (recorded n r s) := by
  unfold recorded askGapReview; dsimp only
  rw [if_neg h]
  split <;> exact reviewDemand_cutFollows rfl rfl rfl

end

theorem reportGeneration_demand (r : Report) (s : State) : greatestDemand (reportGeneration r s) = greatestDemand s :=
  greatestDemand_of_state (ownDemand_congr (by simp) (by simp) (by simp) (by simp)) (by simp) (by simp) (by simp)

/-- What is said of the Gain Planner when a report is recorded in `heard`, where `t` is the state that results. -/
def recordFollows (n : Station) (r : Report) (heard t : State) : Prop :=
  (gapNoticeDue r (heard.peers.entries.get n) → t.planner.gapReview = true) ∧
  (¬gapNoticeDue r (heard.peers.entries.get n) → t.planner.gapReview = heard.planner.gapReview) ∧
  (¬(∀ d, demandTold (heard.peers.entries.get n) d ↔ demandTold (.known .active r 0) d) → cutFollows heard t) ∧
  ((∀ d, demandTold (heard.peers.entries.get n) d ↔ demandTold (.known .active r 0) d) →
    t.planner = { heard.planner with gapReview := t.planner.gapReview })

theorem recordFollows_congr {n : Station} {r : Report} {heard s t : State} (hp : t.planner = s.planner)
    (hg : greatestDemand t = greatestDemand s) (h : recordFollows n r heard s) : recordFollows n r heard t := by
  simpa only [recordFollows, cutFollows, hp, hg] using h

/-- The state from which the comparison starts counts by its planner and its entry alone. -/
theorem recordFollows_start {n : Station} {r : Report} {heard woken t : State} (hp : woken.planner = heard.planner)
    (he : woken.peers = heard.peers) (h : recordFollows n r woken t) : recordFollows n r heard t := by
  simpa only [recordFollows, cutFollows, hp, he] using h

theorem recordReport_follows {n : Station} {r : Report} {s : State} (h : s.peers.entries.get n ≠ .self) :
    recordFollows n r s (recordReport n r s) := by
  rw [recordReport_of_other h]
  refine recordFollows_congr (s := recorded n r s) (by simp) (reportGeneration_demand r _) ⟨fun hg => ?_, fun hg => ?_, fun hd => ?_, fun hd => ?_⟩
  · rw [recorded_gapReview, gapNoticeDue_iff.1 hg, Bool.true_or]
  · rw [recorded_gapReview, Bool.eq_false_of_not_eq_true (fun e => hg (gapNoticeDue_iff.2 e)), Bool.false_or]
  · exact recorded_of_changed fun e => hd (demandTold_same_iff.2 e)
  · exact recorded_of_same (demandTold_same_iff.1 hd)

theorem takePresence_eq {n : Station} {f : PresenceFrame} {r : Report} (hf : presenceReport f = some r) (s : State) :
    takePresence n f s = recordReport n r s := by rw [takePresence, hf]

theorem recordReport_leaves (n : Station) (r : Report) (s : State) : (recordReport n r s).controller = s.controller ∧
    (recordReport n r s).protection.active = s.protection.active := by
  by_cases h : s.peers.entries.get n = .self
  · rw [recordReport, if_pos h]; exact ⟨rfl, rfl⟩
  · rw [recordReport_of_other h]
    obtain ⟨-, -, -, controller, active, -⟩ := recorded_keeps (n := n) (r := r) (s := s)
    exact ⟨by simpa using controller, by simpa using active⟩

theorem recordReport_entry {n : Station} {r : Report} {s : State} (h : s.peers.entries.get n ≠ .self) :
    (recordReport n r s).peers.entries.get n = .known .active r 0 := by
  obtain ⟨-, -, -, -, -, -, peers⟩ := recorded_keeps (n := n) (r := r) (s := s)
  rw [recordReport_of_other h]
  simp [peers]

theorem finish_of_not_railDown {s : State} (h : s.controller.station ≠ .railDown) : finish s = refreshPresence s := by
  rw [finish, takeSilence, if_neg fun e => h e.1]

theorem wake_not_railDown {s : State} (h : s.controller.station = .resting) : (wake s).controller.station ≠ .railDown := by
  obtain e | e | e := wake_station_cases h <;> rw [e] <;> decide

/-- Settles O18. -/
theorem presenceRecorded : Obligations.PresenceRecorded := by
  intro rx f s hr
  refine ⟨fun r hf hs => ⟨_, exec_effect _ s, ?_, fun hk hsag heard before hh hb => ?_⟩, fun hf hi => ⟨_, exec_effect _ s, ?_⟩⟩
  · rw [effect_presenceReceived]
    refine received_of_heard (P := fun t => t.peers.entries.get rx.sender = _) hr (fun t ht => ?_)
      (fun t ht => by simpa using ht) fun t ht => by simpa using ht
    rw [takePresence_eq hf]
    exact recordReport_entry (ht.not_self hs)
  · subst hh hb
    have entry : (goodFrame s).peers.entries.get rx.sender ≠ .self := (heard_goodFrame s).not_self hs
    show recordFollows rx.sender r (goodFrame s) _
    have follows := recordReport_follows (r := r) entry
    obtain ⟨controller, active⟩ := recordReport_leaves rx.sender r (goodFrame s)
    have controller' : (recordReport rx.sender r (goodFrame s)).controller = s.controller := by rw [controller]; simp
    by_cases hn : s.controller.station = .resting
    · have hn' : (goodFrame s).controller.station = .resting := by simpa using hn
      have sag : (goodFrame s).protection.active.railSag = false := by simpa using hsag hn
      rw [effect_presenceReceived, received, receive_of_routed hr]
      split
      · obtain ⟨planner, -⟩ := wake_still sag
        have entry' : (wake (goodFrame s)).peers.entries.get rx.sender ≠ .self := by simpa using entry
        have woken := recordReport_follows (r := r) entry'
        rw [takePresence_eq hf, finish_of_not_railDown]
        · exact recordFollows_start planner (by simp) woken
        · rw [(recordReport_leaves _ _ _).1]; exact wake_not_railDown hn'
      · have sag' : (recordReport rx.sender r (goodFrame s)).protection.active.railSag = false := by rw [active]; exact sag
        obtain ⟨planner, greatest⟩ := wake_still sag'
        rw [takePresence_eq hf, finish_of_not_railDown]
        · exact recordFollows_congr planner greatest follows
        · exact wake_not_railDown (by rw [controller]; exact hn')
    · have e : effect (.presenceReceived rx f) s = finish (recordReport rx.sender r (goodFrame s)) := by
        rw [effect_presenceReceived, received_awake hr hn (by simpa using hn), takePresence_eq hf]
      rw [e] at hk ⊢
      rw [finish_of_railKept controller' hk]
      exact follows
  · rw [effect_presenceReceived]
    refine received_of_heard (P := fun t => t.peers = s.peers) hr (fun t ht => ?_)
      (fun t ht => by simpa using ht) fun t ht => by simpa using ht
    rw [takePresence_discarded hf, ht.peers]
    rcases hi with hi | hi
    · simp [goodFrame, frameHeard, Link.lineFrameEnded, hi]
    · exact goodFrame_peers hi

end Sys2Proof.Machine
end

section
/-! PROOFS. The emptying of the Peer Table, the end of an isolation, and the frames that reach no block (O11). -/

namespace Sys2Proof.Machine

/-! ### The emptying of the Peer Table -/

/-- The table emptied, with its notice to the Gain Planner, before the greatest demand is compared (R66). -/
def emptied (s : State) : State :=
  { s with
    peers :=
      { entries := s.peers.entries.map fun e => match e with
          | .self => .self
          | .absent | .known _ _ _ => .absent
        emptyingDue := false }
    planner := { s.planner with gapReview := (emptyTable s).planner.gapReview } }

theorem emptyTable_eq (s : State) :
    emptyTable s = if s.peers.entries.toList.any (fun e => (countedDemand e).isSome) then reviewDemand (emptied s) else emptied s := by
  have review : (emptyTable s).planner.gapReview = (s.planner.gapReview || s.peers.entries.toList.any fun e => match e with
      | .known .lost _ _ => true
      | .known .active _ _ | .known .silent _ _ | .absent | .self => false) := by
    unfold emptyTable; dsimp only
    split <;> simp <;> rfl
  unfold emptied
  rw [review]
  rfl

theorem anyDemandTold_iff {s : State} : s.peers.entries.toList.any (fun e => (countedDemand e).isSome) = true ↔
    ∃ n demand, demandTold (s.peers.entries.get n) demand := by
  simp only [List.any_eq_true, PerStation.mem_toList, demandTold_iff, Option.isSome_iff_exists]
  constructor
  · rintro ⟨e, ⟨n, rfl⟩, d, hd⟩; exact ⟨n, d, hd⟩
  · rintro ⟨n, d, hd⟩; exact ⟨_, ⟨n, rfl⟩, d, hd⟩

theorem emptyTable_of_told {s : State} (h : ∃ n demand, demandTold (s.peers.entries.get n) demand) :
    emptyTable s = reviewDemand (emptied s) := by rw [emptyTable_eq, if_pos (anyDemandTold_iff.2 h)]

theorem emptyTable_of_untold {s : State} (h : ∀ n demand, ¬demandTold (s.peers.entries.get n) demand) : emptyTable s = emptied s := by
  rw [emptyTable_eq, if_neg]
  intro e
  obtain ⟨n, d, hd⟩ := anyDemandTold_iff.1 e
  exact h n d hd

theorem emptyTable_tableEmptied (s : State) : tableEmptied s (emptyTable s) := by
  have entries : (emptyTable s).peers = (emptied s).peers := by rw [emptyTable_eq]; split <;> simp
  unfold tableEmptied
  rw [entries]
  refine ⟨rfl, fun n => ?_⟩
  simp only [emptied, PerStation.get_map]
  cases s.peers.entries.get n <;> simp

theorem emptyTable_gapReview {s : State} (h : ∃ n r age, s.peers.entries.get n = .known .lost r age) :
    (emptyTable s).planner.gapReview = true := by
  obtain ⟨n, r, age, he⟩ := h
  have lost : (s.peers.entries.toList.any fun e => match e with
      | .known .lost _ _ => true
      | .known .active _ _ | .known .silent _ _ | .absent | .self => false) = true :=
    List.any_eq_true.2 ⟨_, PerStation.mem_toList.2 ⟨n, rfl⟩, by rw [he]⟩
  unfold emptyTable; dsimp only
  split
  · rw [show ∀ t : State, (reviewDemand t).planner.gapReview = t.planner.gapReview from fun t => by simp]
    exact (congrArg _ lost).trans (Bool.or_true _)
  · exact (congrArg _ lost).trans (Bool.or_true _)

/-! ### The end of an isolation -/

/-- The duck off, its timer stopped (R102). -/
def unducked (s : State) : State := { s with planner := { s.planner with duck := .off, duckTimer := none } }

theorem duckFlagClear_of_waiting {s : State} (h : s.planner.duck = .waiting) : duckFlagClear s = unducked s := by
  unfold duckFlagClear; rw [h]; rfl

theorem duckFlagClear_of_on {s : State} (h : s.planner.duck = .on) : duckFlagClear s = handTargets .scene (unducked s) := by
  unfold duckFlagClear; rw [h]; rfl

theorem duckFlagClear_of_off {s : State} (h : s.planner.duck = .off) : duckFlagClear s = s := by
  unfold duckFlagClear; rw [h]

/-- The end of the duck leaves the cut, its timer and its mark, and the demands. -/
theorem duckFlagClear_leaves (s : State) : (duckFlagClear s).planner.cut = s.planner.cut ∧
    (duckFlagClear s).planner.settleTimer = s.planner.settleTimer ∧ (duckFlagClear s).planner.fallReady = s.planner.fallReady ∧
    (duckFlagClear s).planner.gapReview = s.planner.gapReview ∧ greatestDemand (duckFlagClear s) = greatestDemand s := by
  have greatest : greatestDemand (duckFlagClear s) = greatestDemand s :=
    greatestDemand_of_state (ownDemand_congr (by simp) (by simp) (by simp) (by simp)) (by simp) (by simp) (by simp)
  refine ⟨?_, ?_, ?_, ?_, greatest⟩
  all_goals
    unfold duckFlagClear
    split <;> simp

theorem duckFlagClear_duck (s : State) : (duckFlagClear s).planner.duck = .off ∧
    (s.planner.duck ≠ .off → (duckFlagClear s).planner.duckTimer = none) := by
  cases h : s.planner.duck with
  | off => rw [duckFlagClear_of_off h]; exact ⟨h, fun e => absurd rfl e⟩
  | waiting => rw [duckFlagClear_of_waiting h]; exact ⟨rfl, fun _ => rfl⟩
  | on => rw [duckFlagClear_of_on h]; exact ⟨by simp [unducked], fun _ => by simp [unducked]⟩

/-- A duck that was not ON hands nothing as it ends. -/
theorem duckFlagClear_still {s : State} (h : s.planner.duck ≠ .on) :
    (duckFlagClear s).planner.channels = s.planner.channels ∧ (duckFlagClear s).ramps = s.ramps := by
  cases hd : s.planner.duck with
  | off => rw [duckFlagClear_of_off hd]; exact ⟨rfl, rfl⟩
  | waiting => rw [duckFlagClear_of_waiting hd]; exact ⟨rfl, rfl⟩
  | on => exact absurd hd h

/-- The link once a frame has been heard (R164, R172). -/
def heardLink (s : State) : Link :=
  { s.link.lineFrameEnded with
    acknowledging := decide (s.controller.station ≠ .conflict), isolated := false, isolationTimer := some 800 }

/-- A set ISOLATED flag clears: an emptying held over is made, and the duck ends (R66, R102, R172). -/
theorem goodFrame_of_isolated {s : State} (h : s.link.isolated = true) :
    goodFrame s = duckFlagClear (if s.peers.emptyingDue then emptyTable { s with link := heardLink s }
      else { s with link := heardLink s }) := by
  unfold goodFrame frameHeard; dsimp only
  rw [if_pos (by simpa [Link.lineFrameEnded] using h)]
  rfl

section
variable {s : State} (hi : s.link.isolated = true)
include hi

theorem goodFrame_of_due (hd : s.peers.emptyingDue = true) :
    goodFrame s = duckFlagClear (emptyTable { s with link := heardLink s }) := by rw [goodFrame_of_isolated hi, hd]; rfl

theorem goodFrame_of_not_due (hd : s.peers.emptyingDue = false) : goodFrame s = duckFlagClear { s with link := heardLink s } := by
  rw [goodFrame_of_isolated hi, hd]; rfl

theorem goodFrame_duck : (goodFrame s).planner.duck = .off ∧
    (s.planner.duck ≠ .off → (goodFrame s).planner.duckTimer = none) := by
  cases hd : s.peers.emptyingDue with
  | true =>
    obtain ⟨off, timer⟩ := duckFlagClear_duck (emptyTable { s with link := heardLink s })
    rw [goodFrame_of_due hi hd]
    exact ⟨off, fun h => timer (by simpa using h)⟩
  | false => rw [goodFrame_of_not_due hi hd]; exact duckFlagClear_duck _

theorem goodFrame_emptied (hd : s.peers.emptyingDue = true) : tableEmptied s (goodFrame s) ∧
    ((∃ n r age, s.peers.entries.get n = .known .lost r age) → (goodFrame s).planner.gapReview = true) := by
  rw [goodFrame_of_due hi hd]
  obtain ⟨-, -, -, review, -⟩ := duckFlagClear_leaves (emptyTable { s with link := heardLink s })
  refine ⟨?_, fun h => ?_⟩
  · unfold tableEmptied
    rw [show ∀ u, (duckFlagClear u).peers = u.peers from fun u => by simp]
    exact emptyTable_tableEmptied { s with link := heardLink s }
  · rw [review]
    exact emptyTable_gapReview (s := { s with link := heardLink s }) h

theorem goodFrame_cutFollows (hd : s.peers.emptyingDue = true) (h : ∃ n demand, demandTold (s.peers.entries.get n) demand) :
    cutFollows s (goodFrame s) := by
  obtain ⟨cut, settle, ready, -, greatest⟩ := duckFlagClear_leaves (emptyTable { s with link := heardLink s })
  rw [goodFrame_of_due hi hd]
  refine cutFollows_congr cut settle ready greatest ?_
  rw [emptyTable_of_told (s := { s with link := heardLink s }) h]
  exact reviewDemand_cutFollows rfl rfl rfl

theorem goodFrame_cutStays
    (h : s.peers.emptyingDue = false ∨ ∀ n demand, ¬demandTold (s.peers.entries.get n) demand) :
    (goodFrame s).planner.cut = s.planner.cut ∧ (goodFrame s).planner.settleTimer = s.planner.settleTimer ∧
    (goodFrame s).planner.fallReady = s.planner.fallReady ∧
    (s.planner.duck ≠ .on → (goodFrame s).planner.channels = s.planner.channels ∧ (goodFrame s).ramps = s.ramps) := by
  have from_still (u : State) (hp : u.planner.cut = s.planner.cut ∧ u.planner.settleTimer = s.planner.settleTimer ∧
      u.planner.fallReady = s.planner.fallReady ∧ u.planner.channels = s.planner.channels ∧ u.planner.duck = s.planner.duck ∧
      u.ramps = s.ramps) (e : goodFrame s = duckFlagClear u) : (goodFrame s).planner.cut = s.planner.cut ∧
      (goodFrame s).planner.settleTimer = s.planner.settleTimer ∧ (goodFrame s).planner.fallReady = s.planner.fallReady ∧
      (s.planner.duck ≠ .on → (goodFrame s).planner.channels = s.planner.channels ∧ (goodFrame s).ramps = s.ramps) := by
    obtain ⟨cut, settle, ready, channels, duck, ramps⟩ := hp
    obtain ⟨cut', settle', ready', -⟩ := duckFlagClear_leaves u
    rw [e]
    refine ⟨cut'.trans cut, settle'.trans settle, ready'.trans ready, fun hd => ?_⟩
    obtain ⟨channels', ramps'⟩ := duckFlagClear_still (s := u) (by rwa [duck])
    exact ⟨channels'.trans channels, ramps'.trans ramps⟩
  cases hd : s.peers.emptyingDue with
  | false => exact from_still { s with link := heardLink s } ⟨rfl, rfl, rfl, rfl, rfl, rfl⟩ (goodFrame_of_not_due hi hd)
  | true =>
    have untold := h.resolve_left (by rw [hd]; decide)
    refine from_still (emptied { s with link := heardLink s }) ⟨rfl, rfl, rfl, rfl, rfl, rfl⟩ ?_
    rw [goodFrame_of_due hi hd, emptyTable_of_untold (s := { s with link := heardLink s }) untold]

theorem goodFrame_unducked (hd : s.planner.duck = .on) (hg : s.scene.applied.generation ≠ none)
    (hc : allDistinct (s.loader.image.roster.map RosterEntry.channel) = true) : targetsCurrent (goodFrame s) ∧
    (s.peers.emptyingDue = false → noneInFlight s → newTargetsHandedAt .scene s (goodFrame s)) := by
  have hands (u : State) (hl : u.loader = s.loader) (hs : u.scene = s.scene) (hdu : u.planner.duck = .on)
      (e : goodFrame s = duckFlagClear u) : handsTargets .scene (unducked u) (goodFrame s) := by
    rw [e, duckFlagClear_of_on hdu]
    exact handTargets_of_generation (s := unducked u) (by rw [show (unducked u).scene = u.scene from rfl, hs]; exact hg)
      (by rw [show (unducked u).loader = u.loader from rfl, hl]; exact hc)
  have current (u : State) (hl : u.loader = s.loader) (hs : u.scene = s.scene) (hdu : u.planner.duck = .on)
      (e : goodFrame s = duckFlagClear u) : targetsCurrent (goodFrame s) := by
    refine targetsCurrent_of_hands (hands u hl hs hdu e) ?_ fun d => ?_
    · rw [show (unducked u).loader = u.loader from rfl, hl]; simp
    · rw [e, duckFlagClear_of_on hdu]; simp
  cases hdue : s.peers.emptyingDue with
  | false =>
    have e := goodFrame_of_not_due hi hdue
    refine ⟨current { s with link := heardLink s } rfl rfl hd e, fun _ hf => ?_⟩
    exact newTargets_of_hands (hands { s with link := heardLink s } rfl rfl hd e) (by simp [unducked]) rfl rfl rfl hf
  | true =>
    refine ⟨current _ (by simp) (by simp) (by simpa using hd) (goodFrame_of_due hi hdue), fun h => by cases h⟩

end

/-- The end of an isolation, for a state that is as the frame heard leaves it but for the link. -/
theorem isolationEnds_finish (s : State) (l : Link) : isolationEnds s (finish { goodFrame s with link := l }) := by
  intro hi
  have peers : (finish { goodFrame s with link := l }).peers = (goodFrame s).peers := by simp
  have review : (finish { goodFrame s with link := l }).planner.gapReview = (goodFrame s).planner.gapReview := by simp
  have duck : (finish { goodFrame s with link := l }).planner.duck = (goodFrame s).planner.duck := by simp
  have timer : (finish { goodFrame s with link := l }).planner.duckTimer = (goodFrame s).planner.duckTimer := by simp
  have kept (hk : railKept s (finish { goodFrame s with link := l })) :
      finish { goodFrame s with link := l } = refreshPresence { goodFrame s with link := l } :=
    finish_of_railKept (by simp) hk
  unfold tableEmptied
  rw [peers, review, duck, timer]
  refine ⟨goodFrame_emptied hi, fun hd => goodFrame_peers hd, (goodFrame_duck hi).1, (goodFrame_duck hi).2, fun hk => ?_⟩
  rw [kept hk]
  exact ⟨goodFrame_cutFollows hi, goodFrame_cutStays hi, goodFrame_unducked hi⟩

theorem goodFrame_link (s : State) : (goodFrame s).link = heardLink s := by
  unfold goodFrame frameHeard; dsimp only
  split
  · split <;> simp [heardLink, ms, Link.lineFrameEnded]
  · rfl

theorem Heard.link {s t : State} (h : Heard s t) : t.link.isolated = false ∧ t.link.isolationTimer = some 800 ∧
    t.link.acknowledging = decide (s.controller.station ≠ .conflict) := by
  obtain rfl | rfl := h.cases
  · rw [goodFrame_link]; exact ⟨rfl, rfl, rfl⟩
  · simp only [wake_keeps, goodFrame_link]
    exact ⟨rfl, rfl, rfl⟩

/-- What a frame does that no block takes: it is heard, and wakes a RESTING station (R166, R172, R184). -/
def heardAlone (s t : State) : Prop :=
  t.link.isolated = false ∧ t.link.isolationTimer = some 800 ∧
  t.link.acknowledging = decide (s.controller.station ≠ .conflict) ∧ t.scene = s.scene ∧
  (s.controller.station ≠ .resting → isolationEnds s t) ∧
  (s.controller.station = .resting →
    t.controller.station = (if s.protection.active.thermalShut then .shutdown else railUpEnd s))

theorem received_heardAlone {rx : Reception} {handle : State → State} {s : State} (hr : routed rx s)
    (hh : ∀ t, ∃ c, handle t = { t with link := { t.link with counters := c } }) : heardAlone s (received rx handle s) := by
  have heard : (received rx handle s).link.isolated = false ∧ (received rx handle s).link.isolationTimer = some 800 ∧
      (received rx handle s).link.acknowledging = decide (s.controller.station ≠ .conflict) ∧
      (received rx handle s).scene = s.scene := by
    refine received_of_heard (P := fun t => t.link.isolated = false ∧ t.link.isolationTimer = some 800 ∧
      t.link.acknowledging = _ ∧ t.scene = _) hr (fun t ht => ?_) (fun t ht => by simpa using ht) fun t ht => by simpa using ht
    obtain ⟨c, e⟩ := hh t
    obtain ⟨isolated, timer, acknowledging⟩ := ht.link
    rw [e]
    exact ⟨isolated, timer, acknowledging, ht.scene⟩
  obtain ⟨isolated, timer, acknowledging, scene⟩ := heard
  refine ⟨isolated, timer, acknowledging, scene, fun hn => ?_, fun hn => ?_⟩
  · obtain ⟨c, e⟩ := hh (goodFrame s)
    rw [received_awake hr hn (by rw [e]; simpa using hn), e]
    exact isolationEnds_finish s _
  · have woken (u : State) (hu : u.controller.station = .resting) (ha : u.protection.active = s.protection.active)
        (hp : u.pins = s.pins) : (wake u).controller.station = if s.protection.active.thermalShut then .shutdown else railUpEnd s := by
      rw [wake_station hu, ha]; unfold railUpEnd; rw [hp]
    have hn' : (goodFrame s).controller.station = .resting := by simpa using hn
    have station : (received rx handle s).controller.station = (receive rx handle s).controller.station := by simp [received]
    rw [station, receive_of_routed hr]
    split
    · obtain ⟨c, e⟩ := hh (wake (goodFrame s))
      rw [e]
      exact woken _ hn' (by simp) (by simp)
    · obtain ⟨c, e⟩ := hh (goodFrame s)
      rw [e]
      exact woken _ hn' (by simp) (by simp)

/-- Settles O11. -/
theorem framesThatReachNoBlock : Obligations.FramesThatReachNoBlock := by
  refine ⟨fun rx s hr => ⟨⟨_, exec_effect _ s, ?_, ?_⟩, ⟨_, exec_effect _ s, ?_, ?_⟩, ⟨_, exec_effect _ s, ?_⟩⟩, fun s => ?_⟩
  · rw [effect_alertReceived]
    refine received_of_heard (P := fun t => t.link.counters.alertsReceived = _) hr (fun t ht => ?_)
      (fun t ht => ?_) fun t ht => by simpa using ht
    · obtain ⟨-, -, -, -, -, alerts, -⟩ := LinkCounters.butDrops_eq_iff.1 ht.counters
      rw [← alerts]; rfl
    · obtain ⟨-, -, -, -, -, alerts, -⟩ := LinkCounters.butDrops_eq_iff.1 (wake_butDrops t)
      rw [alerts, ht]
  · exact received_heardAlone hr fun t => ⟨_, rfl⟩
  · rw [effect_answerReceived]
    refine received_of_heard (P := fun t => t.link.counters.alertsReceived = _) hr (fun t ht => ?_)
      (fun t ht => ?_) fun t ht => by simpa using ht
    · obtain ⟨-, -, -, -, -, alerts, -⟩ := LinkCounters.butDrops_eq_iff.1 ht.counters
      exact alerts
    · obtain ⟨-, -, -, -, -, alerts, -⟩ := LinkCounters.butDrops_eq_iff.1 (wake_butDrops t)
      rw [alerts, ht]
  · exact received_heardAlone hr fun t => ⟨_, rfl⟩
  · have started : (goodFrame s).controller.station ≠ .starting := by simpa using hr.1
    have other : rx.sender ≠ own (goodFrame s) := by simpa [own] using hr.2
    have e : effect (.malformedFrame rx.sender) s = finish (goodFrame s) := by
      rw [effect_malformedFrame, receiveUnheard, if_neg started, if_neg other]
    rw [e]
    have link := (heard_goodFrame s).link
    refine ⟨by simp, by simpa using link.1, by simpa using link.2.1, by simpa using link.2.2, by simp, by simp, ?_⟩
    exact isolationEnds_finish s (goodFrame s).link
  · rw [exec_effect, effect_checkError]; rfl

end Sys2Proof.Machine
end

section
/-! PROOFS. What a mark event does to the Scene Agreement Unit and to the queue (O9). -/

namespace Sys2Proof.Machine

/-! ### The stage step and the return from RESYNC -/

theorem resyncAtMark_of_agreed {s : State} (h : s.scene.unit = .agreed) : resyncAtMark s = s := by
  unfold resyncAtMark; rw [h]

theorem resyncAtMark_of_resync {s : State} {f : FetchState} {g : Generation} (hu : s.scene.unit = .resync)
    (hf : s.scene.fetch = some f) (hg : s.scene.applied.generation = some g) :
    (resyncAtMark s).scene = { s.scene with
      unit := if newer f.wanted g then .resync else .agreed, fetch := if newer f.wanted g then some f else none } := by
  unfold resyncAtMark
  rw [hu, hf, hg]
  dsimp only
  split
  · rw [← hu, ← hf]
  · rfl

theorem pending_of_not_held {p : PendingRecord} (h : recordHeld p = false) : p = emptyRecord := by
  cases p
  simp only [recordHeld, PerField.toList, List.any_cons, List.any_nil, Bool.or_eq_false_iff, Option.isSome_eq_false_iff,
    Option.isNone_iff_eq_none] at h
  obtain ⟨h0, h1, h2, h3, h4, h5, h6, h7, h8, h9, -⟩ := h
  subst h0 h1 h2 h3 h4 h5 h6 h7 h8 h9
  rfl

/-! ### The mark event, seen from the unit and the queue -/

/-- A mark event applies, then stages: between the two the planner and the bank leave the unit's record and the queue. -/
theorem markEvent_agreement (o : MarkOrder) {s : State} (hl : listening s) : ∃ u v : State,
    (u.scene = s.scene ∧ u.link = s.link ∧ u.peers = s.peers ∧ u.loader = s.loader ∧ u.controller = s.controller) ∧
    v.scene = (applyStaged u).scene ∧ (markEvent o s).scene = (resyncAtMark (stagePending v)).scene ∧
    (markEvent o s).link = (applyStaged u).link := by
  have turn (b : Bool) {f : State → State} (hf : ∀ t, (f t).scene = t.scene ∧ (f t).link = t.link ∧ (f t).peers = t.peers ∧
      (f t).loader = t.loader ∧ (f t).controller = t.controller) (t : State) : (inTurn b f t).scene = t.scene ∧
      (inTurn b f t).link = t.link ∧ (inTurn b f t).peers = t.peers ∧ (inTurn b f t).loader = t.loader ∧
      (inTurn b f t).controller = t.controller := by
    unfold inTurn; split
    · exact hf t
    · exact ⟨rfl, rfl, rfl, rfl, rfl⟩
  have bank (t : State) : (bankMark t).scene = t.scene ∧ (bankMark t).link = t.link ∧ (bankMark t).peers = t.peers ∧
      (bankMark t).loader = t.loader ∧ (bankMark t).controller = t.controller := ⟨rfl, rfl, rfl, rfl, rfl⟩
  have planner (t : State) : (plannerMark t).scene = t.scene ∧ (plannerMark t).link = t.link ∧ (plannerMark t).peers = t.peers ∧
      (plannerMark t).loader = t.loader ∧ (plannerMark t).controller = t.controller := by simp
  obtain ⟨scene1, link1, peers1, loader1, controller1⟩ := turn (decide (o.bank = .markFirst)) bank s
  obtain ⟨scene2, link2, peers2, loader2, controller2⟩ := turn (decide (o.planner = .markFirst)) planner
    (inTurn (decide (o.bank = .markFirst)) bankMark s)
  unfold markEvent; dsimp only
  rw [unitListens_iff.2 hl]
  generalize inTurn (decide (o.planner = .markFirst)) plannerMark (inTurn (decide (o.bank = .markFirst)) bankMark s) = u at *
  obtain ⟨scene4, link4, -⟩ := turn (decide (o.planner = .sceneFirst)) planner (applyStaged u)
  obtain ⟨scene5, link5, -⟩ := turn (decide (o.bank = .markBetween)) bank
    (inTurn (decide (o.planner = .sceneFirst)) plannerMark (applyStaged u))
  refine ⟨u, inTurn (decide (o.bank = .markBetween)) bankMark
    (inTurn (decide (o.planner = .sceneFirst)) plannerMark (applyStaged u)), ⟨scene2.trans scene1, link2.trans link1,
    peers2.trans peers1, loader2.trans loader1, controller2.trans controller1⟩, scene5.trans scene4, ?_, ?_⟩
  · exact (turn (decide (o.bank = .markLast)) bank _).1
  · refine (turn (decide (o.bank = .markLast)) bank _).2.1.trans (Eq.trans ?_ (link5.trans link4))
    show (resyncAtMark (stagePending _)).link = _
    simp [inTurn]


/-! ### What a command that brings a mark event does to the unit and the queue -/

/-- The state in which a mark event is taken: the cycle timer has taken its part (R44, R46). -/
def markTimed (n : CycleNumber) (s : State) : State := restartCycle (adoptNumber n s)

theorem markTimed_keeps (n : CycleNumber) (s : State) : (markTimed n s).scene = s.scene ∧ (markTimed n s).link = s.link ∧
    (markTimed n s).peers = s.peers ∧ (markTimed n s).loader = s.loader ∧ (markTimed n s).controller = s.controller ∧
    (markTimed n s).planner = s.planner ∧ (markTimed n s).ramps = s.ramps ∧ (markTimed n s).protection = s.protection ∧
    (markTimed n s).draws = s.draws := by
  unfold markTimed restartCycle adoptNumber
  dsimp only
  split <;> exact ⟨rfl, rfl, rfl, rfl, rfl, rfl, rfl, rfl, rfl⟩

theorem effect_ownMark {ack : Bool} {o : MarkOrder} {n : CycleNumber} {stamp : Nat} {lost : Bool} {s : State}
    (hs : s.link.sending = some ⟨⟨.mark n, stamp, lost⟩, false⟩) (hn : s.controller.station ≠ .starting) :
    effect (.ownMarkComplete ack o) s = finish (markEvent o (markTimed n (completed ack s))) := by
  have started : (completed ack s).controller.station ≠ .starting := by simpa using hn
  rw [effect_ownMarkComplete, hs]
  show finish (ownMark n o (completed ack s)) = _
  rw [ownMark, if_neg started]; rfl

section
variable {c : Instr} {s : State} (hl : listening s) (hb : bringsMark c s)
include hl hb

theorem mark_scene {v : SceneUnit} (h : ∀ o u, u.scene = s.scene → listening u → (markEvent o u).scene = v) :
    (effect c s).scene = v := by
  rcases hb with ⟨rx, n, o, rfl, hr⟩ | ⟨ack, o, n, stamp, lost, rfl, hs⟩
  · rw [effect_markReceived]
    refine received_of_heard (P := fun t => t.scene = v) ⟨hl.1, hr⟩ (fun t ht => ?_) (fun t ht => by simpa using ht)
      fun t ht => by simpa using ht
    obtain ⟨scene, -, -, -, controller, -⟩ := markTimed_keeps n { t with link := t.link.withdraw FrameBody.isMark }
    exact h o (markTimed n { t with link := t.link.withdraw FrameBody.isMark }) (scene.trans ht.scene)
      (by unfold listening; rw [controller]; exact ht.listening hl)
  · obtain ⟨scene, -, -, -, controller, -⟩ := markTimed_keeps n (completed ack s)
    rw [effect_ownMark hs hl.1]
    have e := h o (markTimed n (completed ack s)) (scene.trans (by simp))
      (by unfold listening; rw [controller]; simpa [listening] using hl)
    simpa using e

/-- A mark event that queues no SCENE leaves those that wait. -/
theorem mark_noSceneQueued (h : ∀ o u, u.scene = s.scene → (s.peers.emptyingDue = false → u.peers = s.peers) →
      u.loader = s.loader → listening u → (markEvent o u).link = u.link) : noSceneQueued s (effect c s) := by
  refine noSceneQueued_of_waitsWithin ?_
  have quiet := scenes_quietOn s.link.bodies
  rcases hb with ⟨rx, n, o, rfl, hr⟩ | ⟨ack, o, n, stamp, lost, rfl, hs⟩
  · rw [effect_markReceived]
    refine quiet.received_heard ⟨hl.1, hr⟩ (fun t ht hw => ?_) (waitsWithin_bodies _ _)
    obtain ⟨scene, link, peers, loader, controller, -⟩ := markTimed_keeps n { t with link := t.link.withdraw FrameBody.isMark }
    have e := h o (markTimed n { t with link := t.link.withdraw FrameBody.isMark }) (scene.trans ht.scene)
      (fun hd => by rw [peers]; exact ht.peers.trans (goodFrame_peers hd)) (loader.trans ht.loader)
      (by unfold listening; rw [controller]; exact ht.listening hl)
    show waitsWithin _ _ (markEvent o (markTimed n { t with link := t.link.withdraw FrameBody.isMark })).link
    rw [e, link]
    exact quiet.withdraw _ hw
  · obtain ⟨scene, link, peers, loader, controller, -⟩ := markTimed_keeps n (completed ack s)
    rw [effect_ownMark hs hl.1]
    refine quiet.finish ?_
    rw [h o (markTimed n (completed ack s)) (scene.trans (by simp)) (fun _ => peers.trans (by simp)) (loader.trans (by simp))
      (by unfold listening; rw [controller]; simpa [listening] using hl), link]
    refine quiet.fewer (l := s.link) ?_ (waitsWithin_bodies _ _)
    simp [completed_eq, Link.bodies, Function.comp_def]

/-- With a free place and no SCENE in transmission, the SCENE that a mark event queues waits afterwards. -/
theorem mark_sceneWaits {sc : Scene} (hd : s.peers.emptyingDue = false) (hq : queueHasPlace s) (hf : noSceneInFlight s)
    (h : ∀ o u, u.scene = s.scene → u.peers = s.peers → u.loader = s.loader → listening u → queueHasPlace u →
      noSceneInFlight u → .scene sc ∈ (markEvent o u).link.bodies) : sceneWaits sc (effect c s) := by
  rw [sceneWaits, ← mem_bodies]
  rcases hb with ⟨rx, n, o, rfl, hr⟩ | ⟨ack, o, n, stamp, lost, rfl, hs⟩
  · have ht := heard_goodFrame s
    obtain ⟨scene, link, peers, loader, controller, -⟩ :=
      markTimed_keeps n { goodFrame s with link := (goodFrame s).link.withdraw FrameBody.isMark }
    rw [effect_markReceived, received_awake ⟨hl.1, hr⟩ hq.2.1 (by simpa using hq.2.1), mem_bodies_finish (by simp [FrameBody.kind])]
    refine h o (markTimed n { goodFrame s with link := (goodFrame s).link.withdraw FrameBody.isMark }) (scene.trans ht.scene)
      (peers.trans (goodFrame_peers hd)) (loader.trans ht.loader) (by unfold listening; rw [controller]; exact ht.listening hl)
      (queueHasPlace_congr (s := goodFrame s) controller (by rw [link]; exact withdraw_placesHeld_le _ _)
        (goodFrame_hasPlace hq)) ?_
    intro x y hx
    rw [link] at hx
    exact goodFrame_noSceneInFlight hf x y hx
  · obtain ⟨scene, link, peers, loader, controller, -⟩ := markTimed_keeps n (completed ack s)
    rw [effect_ownMark hs hl.1, mem_bodies_finish (by simp [FrameBody.kind])]
    refine h o (markTimed n (completed ack s)) (scene.trans (by simp)) (peers.trans (by simp)) (loader.trans (by simp))
      (by unfold listening; rw [controller]; simpa [listening] using hl)
      (queueHasPlace_congr (s := s) (controller.trans (by rw [completed_eq])) ?_ hq) ?_
    · rw [link, completed_eq]
      simp [Link.placesHeld]
    · intro x y hx
      rw [link, completed_eq] at hx
      cases hx

end

/-! ### What a mark event leaves in the unit's record -/

/-- The unit's record after the stage step, over the applied generation `g` (R27). -/
def SceneUnit.pendingStaged (g : Generation) (u : SceneUnit) : SceneUnit :=
  if recordHeld u.pending then
    { u with staged := some (stagedFrom u.pending g u.applied.content), pending := emptyRecord, conflict := none }
  else u

/-- The unit's record after the apply step (R26). -/
def SceneUnit.stagedApplied (sc : Scene) (u : SceneUnit) : SceneUnit :=
  { u with applied := asApplied sc, staged := none, conflict := none }

theorem stagePending_scene {s : State} {g : Generation} (hg : s.scene.applied.generation = some g) :
    (stagePending s).scene = s.scene.pendingStaged g := by
  unfold SceneUnit.pendingStaged
  split
  next h => rw [stagePending_of_held hg h]; rfl
  next h => rw [stagePending_of_not_held (Bool.eq_false_of_not_eq_true h)]

section
variable {o : MarkOrder} {s : State} (hl : listening s)
include hl

theorem markEvent_agreed_staged {sc : Scene} (hu : s.scene.unit = .agreed) (hs : s.scene.staged = some sc) :
    (markEvent o s).scene = (s.scene.stagedApplied sc).pendingStaged sc.generation := by
  obtain ⟨u, v, ⟨scene, -⟩, hv, he, -⟩ := markEvent_agreement o hl
  have applied : v.scene = s.scene.stagedApplied sc := by
    rw [hv, applyStaged_scene_of_staged (by rw [scene, hs]), scene]; rfl
  have staged : (stagePending v).scene = (s.scene.stagedApplied sc).pendingStaged sc.generation := by
    rw [stagePending_scene (g := sc.generation) (by rw [applied]; rfl), applied]
  rw [he, resyncAtMark_of_agreed, staged]
  rw [staged]
  unfold SceneUnit.pendingStaged
  split <;> exact hu

theorem markEvent_agreed_not_staged {g : Generation} (hu : s.scene.unit = .agreed) (hs : s.scene.staged = none)
    (hg : s.scene.applied.generation = some g) : (markEvent o s).scene = s.scene.pendingStaged g := by
  obtain ⟨u, v, ⟨scene, -⟩, hv, he, -⟩ := markEvent_agreement o hl
  rw [applyStaged_of_not_staged (by rw [scene, hs]), scene] at hv
  have staged : (stagePending v).scene = s.scene.pendingStaged g := by
    rw [stagePending_scene (g := g) (by rw [hv, hg]), hv]
  rw [he, resyncAtMark_of_agreed, staged]
  rw [staged]
  unfold SceneUnit.pendingStaged
  split <;> exact hu

/-- A mark in RESYNC, whose record is empty (R36, R40). -/
theorem markEvent_resync {f : FetchState} {w : SceneUnit} {g : Generation} (hu : s.scene.unit = .resync)
    (hf : s.scene.fetch = some f) (hp : s.scene.pending = emptyRecord)
    (hw : (∃ sc, s.scene.staged = some sc ∧ w = s.scene.stagedApplied sc ∧ g = sc.generation) ∨
      (s.scene.staged = none ∧ w = s.scene ∧ s.scene.applied.generation = some g)) :
    (markEvent o s).scene = { w with
      unit := if newer f.wanted g then .resync else .agreed, fetch := if newer f.wanted g then some f else none } := by
  obtain ⟨u, v, ⟨scene, -⟩, hv, he, -⟩ := markEvent_agreement o hl
  have record : v.scene = w ∧ w.unit = .resync ∧ w.fetch = some f ∧ w.applied.generation = some g ∧ w.pending = emptyRecord := by
    rcases hw with ⟨sc, hs, rfl, rfl⟩ | ⟨hs, rfl, hg⟩
    · rw [hv, applyStaged_scene_of_staged (by rw [scene, hs]), scene]
      exact ⟨rfl, hu, hf, rfl, hp⟩
    · rw [hv, applyStaged_of_not_staged (by rw [scene, hs]), scene]
      exact ⟨rfl, hu, hf, hg, hp⟩
  obtain ⟨e, unit, fetch, applied, pending⟩ := record
  rw [he, stagePending_of_not_held (by rw [e, pending]; exact recordHeld_empty),
    resyncAtMark_of_resync (f := f) (g := g) (by rw [e, unit]) (by rw [e, fetch]) (by rw [e, applied]), e]

theorem markEvent_link_of_quiet (h : s.scene.staged = none ∨ ¬noLowerZone s) : (markEvent o s).link = s.link := by
  obtain ⟨u, v, ⟨scene, link, peers, loader, -⟩, -, -, e⟩ := markEvent_agreement o hl
  rw [e, ← link]
  cases hs : s.scene.staged with
  | none => rw [applyStaged_of_not_staged (by rw [scene, hs])]
  | some sc =>
    have lower := h.resolve_left (by rw [hs]; simp)
    unfold applyStaged
    rw [scene, hs]
    dsimp only
    rw [announce_of_lower]
    · simp
    · exact fun hz => lower ((noLowerZone_congr (by simpa using peers) (by simpa using loader)).1 hz)

theorem markEvent_announces {sc : Scene} (hs : s.scene.staged = some sc) (hz : noLowerZone s) (hq : queueHasPlace s)
    (hf : noSceneInFlight s) : .scene sc ∈ (markEvent o s).link.bodies := by
  obtain ⟨u, v, ⟨scene, link, peers, loader, controller⟩, -, -, e⟩ := markEvent_agreement o hl
  rw [e]
  unfold applyStaged
  rw [scene, hs]
  dsimp only
  refine announce_waits (g := sc.generation) (c := sc.content) (n := sc.origin) (d := sc.digest)
    ((noLowerZone_congr (by simpa using peers) (by simpa using loader)).2 hz) (by simp [asApplied])
    (queueHasPlace_congr (s := s) (by simpa using controller) (by simp [link]) hq) ?_
  intro x y hx
  exact hf x y (by simpa [link] using hx)

end

/-- Settles O9. -/
theorem markAppliesThenStages : Obligations.MarkAppliesThenStages := by
  intro c s g hl hb hg
  have announced {sc : Scene} (hs : s.scene.staged = some sc) : announces sc s (effect c s) := by
    refine fun hd => ⟨fun hz hq hf => ?_, fun hz => ?_⟩
    · exact mark_sceneWaits hl hb hd hq hf fun o u hu hp ho hlu hqu hfu =>
        markEvent_announces hlu (by rw [hu, hs]) ((noLowerZone_congr hp ho).2 hz) hqu hfu
    · exact mark_noSceneQueued hl hb fun o u hu hp ho hlu =>
        markEvent_link_of_quiet hlu (.inr fun h => hz ((noLowerZone_congr (hp hd) ho).1 h))
  have quiet (hs : s.scene.staged = none) : noSceneQueued s (effect c s) :=
    mark_noSceneQueued hl hb fun o u hu _ _ hlu => markEvent_link_of_quiet hlu (.inl (by rw [hu, hs]))
  refine ⟨fun hu => ⟨_, exec_effect _ s, ?_, fun sc hs => ?_, fun hs => ?_⟩, fun f hu hf hp =>
    ⟨_, exec_effect _ s, fun sc hs => ⟨?_, announced hs⟩, fun hs => ⟨quiet hs, ?_⟩⟩⟩
  · cases hs : s.scene.staged with
    | some sc =>
      rw [mark_scene hl hb fun o u hu' hlu => by
        rw [markEvent_agreed_staged hlu (by rw [hu', hu]) (by rw [hu', hs]), hu']]
      unfold SceneUnit.pendingStaged; split <;> exact hu
    | none =>
      rw [mark_scene hl hb fun o u hu' hlu => by
        rw [markEvent_agreed_not_staged (g := g) hlu (by rw [hu', hu]) (by rw [hu', hs]) (by rw [hu', hg]), hu']]
      unfold SceneUnit.pendingStaged; split <;> exact hu
  · have e : (effect c s).scene = (s.scene.stagedApplied sc).pendingStaged sc.generation :=
      mark_scene hl hb fun o u hu' hlu => by
        rw [markEvent_agreed_staged hlu (by rw [hu', hu]) (by rw [hu', hs]), hu']
    rw [e]
    cases hp : recordHeld s.scene.pending with
    | true =>
      rw [SceneUnit.pendingStaged, if_pos (by exact hp)]
      exact ⟨rfl, rfl, rfl, fun _ => rfl, fun h => (by cases h), announced hs⟩
    | false =>
      rw [SceneUnit.pendingStaged, if_neg (by rw [show (s.scene.stagedApplied sc).pending = s.scene.pending from rfl, hp]; decide)]
      exact ⟨rfl, rfl, pending_of_not_held hp, fun h => (by cases h), fun _ => rfl, announced hs⟩
  · have e : (effect c s).scene = s.scene.pendingStaged g :=
      mark_scene hl hb fun o u hu' hlu => by
        rw [markEvent_agreed_not_staged (g := g) hlu (by rw [hu', hu]) (by rw [hu', hs]) (by rw [hu', hg]), hu']
    rw [e]
    cases hp : recordHeld s.scene.pending with
    | true =>
      rw [SceneUnit.pendingStaged, if_pos hp]
      exact ⟨quiet hs, rfl, fun _ => ⟨rfl, rfl, rfl⟩, fun h => by cases h⟩
    | false =>
      rw [SceneUnit.pendingStaged, if_neg (by rw [hp]; decide)]
      exact ⟨quiet hs, rfl, fun h => by (cases h), fun _ => rfl⟩
  · exact mark_scene hl hb fun o u hu' hlu => markEvent_resync hlu (g := sc.generation) (w := s.scene.stagedApplied sc)
      (by rw [hu', hu]) (by rw [hu', hf]) (by rw [hu', hp]) (.inl ⟨sc, by rw [hu', hs], by rw [hu'], rfl⟩)
  · exact mark_scene hl hb fun o u hu' hlu => markEvent_resync hlu (g := g) (w := s.scene)
      (by rw [hu', hu]) (by rw [hu', hf]) (by rw [hu', hp]) (.inr ⟨by rw [hu', hs], hu'.symm, by rw [hu', hg]⟩)

end Sys2Proof.Machine
end

section
/-! PROOFS. What a mark event does to the gap set, the cut and the targets (O10). -/

namespace Sys2Proof.Machine

/-! ### Gapped positions -/

theorem mem_seats {p : Position} : p ∈ seats ↔ p ≠ .cabin := by cases p <;> decide

theorem fillsGaps_iff {r : Role} : fillsGaps r = true ↔ r ≠ .low := by cases r <;> simp [fillsGaps]

theorem entryGaps_iff {p : Position} {e : PeerEntry} : entryGaps p e = true ↔ ∃ r age, e = .known .lost r age ∧ r.kind = .zone ∧
    ∃ d ∈ r.roster, d.position = p ∧ d.role ≠ .low := by
  cases e with
  | known life r age =>
    cases life <;> simp [entryGaps, fillsGaps_iff]
  | _ => simp [entryGaps]

theorem mem_gappedPositions {table : PeerTable} {p : Position} : p ∈ gappedPositions table ↔
    p ≠ .cabin ∧ ∃ n r age, table.entries.get n = .known .lost r age ∧ r.kind = .zone ∧
      ∃ d ∈ r.roster, d.position = p ∧ d.role ≠ .low := by
  simp only [gappedPositions, List.mem_filter, mem_seats, List.any_eq_true, PerStation.mem_toList, entryGaps_iff]
  refine and_congr_right fun _ => ⟨?_, ?_⟩
  · rintro ⟨_, ⟨n, rfl⟩, r, age, h⟩; exact ⟨n, r, age, h⟩
  · rintro ⟨n, r, age, h⟩; exact ⟨_, ⟨n, rfl⟩, r, age, h⟩

/-! ### The mark event at the Gain Planner -/

/-- The gap set and the cut as a mark event leaves them, before the targets are worked out (R96, R101). -/
def remarked (s : State) : State :=
  { s with planner :=
    { s.planner with
      gapSet := if s.planner.gapReview then gappedPositions s.peers else s.planner.gapSet
      gapReview := false
      cut := if s.planner.fallReady then greatestDemand s else s.planner.cut
      fallReady := false } }

/-- The gap set and the cut stay as they were. -/
def termsStay (s : State) : Prop :=
  (remarked s).planner.cut = s.planner.cut ∧ (remarked s).planner.gapSet = s.planner.gapSet

theorem plannerMark_of_stay {s : State} (h : termsStay s) : plannerMark s = remarked s := by
  obtain ⟨hc, hg⟩ := h
  have gaps : (s.planner.gapReview && decide (gappedPositions s.peers ≠ s.planner.gapSet)) = false := by
    simp only [remarked] at hg
    cases hr : s.planner.gapReview with
    | false => rfl
    | true => rw [hr, if_pos rfl] at hg; simp [hg]
  have falls : (s.planner.fallReady && decide (greatestDemand s ≠ s.planner.cut)) = false := by
    simp only [remarked] at hc
    cases hr : s.planner.fallReady with
    | false => rfl
    | true => rw [hr, if_pos rfl] at hc; simp [hc]
  unfold plannerMark; dsimp only
  rw [gaps, falls]
  rfl

theorem plannerMark_of_change {s : State} (h : ¬termsStay s) : plannerMark s = handTargets .release (remarked s) := by
  have changed : (s.planner.gapReview && decide (gappedPositions s.peers ≠ s.planner.gapSet) ||
      (s.planner.fallReady && decide (greatestDemand s ≠ s.planner.cut))) = true := by
    by_contra hc
    simp only [Bool.or_eq_true, Bool.and_eq_true, decide_eq_true_eq, not_or, not_and, not_not] at hc
    refine h ⟨?_, ?_⟩
    · show (if s.planner.fallReady = true then greatestDemand s else s.planner.cut) = _
      split
      next hf => exact hc.2 hf
      · rfl
    · show (if s.planner.gapReview = true then gappedPositions s.peers else s.planner.gapSet) = _
      split
      next hf => exact hc.1 hf
      · rfl
  unfold plannerMark; dsimp only
  rw [if_pos changed]
  rfl

theorem plannerMark_terms (s : State) : (plannerMark s).planner.cut = (remarked s).planner.cut ∧
    (plannerMark s).planner.gapSet = (remarked s).planner.gapSet ∧ (plannerMark s).planner.fallReady = false ∧
    (plannerMark s).planner.gapReview = false := by
  by_cases h : termsStay s
  · rw [plannerMark_of_stay h]; exact ⟨rfl, rfl, rfl, rfl⟩
  · rw [plannerMark_of_change h]; simp [remarked]

theorem targetNow_of_applied {s t : State} (hi : t.loader.image = s.loader.image) (hg : t.planner.gapSet = s.planner.gapSet)
    (hc : t.planner.cut = s.planner.cut) (hd : t.planner.duck = s.planner.duck) (hs : t.scene.applied = s.scene.applied)
    (d : RosterEntry) : targetNow t d = targetNow s d := by
  simp only [targetNow, componentsFor, hi, hg, hc, hd, hs]

/-! ### The targets after a mark event -/

section
variable {s : State} (hd : allDistinct (s.loader.image.roster.map RosterEntry.channel) = true)
include hd

/-- A change of gap set or cut hands every roster channel its new target at RELEASE. -/
theorem plannerMark_hands (hg : s.scene.applied.generation ≠ none) (h : ¬termsStay s) : targetsCurrent (plannerMark s) ∧
    ∀ s₀ : State, s.planner.channels = s₀.planner.channels → s.ramps = s₀.ramps → s.loader = s₀.loader → noneInFlight s₀ →
      newTargetsHandedAt .release s₀ (plannerMark s) := by
  have hands : handsTargets .release (remarked s) (plannerMark s) := by
    rw [plannerMark_of_change h]; exact handTargets_of_generation hg hd
  refine ⟨targetsCurrent_of_hands hands (by simp [remarked]) fun d => by rw [plannerMark_of_change h]; simp, ?_⟩
  intro s₀ hc hr hl hf
  exact newTargets_of_hands hands (by simp [remarked]) hc hr (by rw [← hl]; rfl) hf

/-- A scene applied hands every roster channel its new target at SCENE. -/
theorem applyStaged_hands {sc : Scene} (hs : s.scene.staged = some sc) : targetsCurrent (applyStaged s) ∧
    ∀ s₀ : State, s.planner.channels = s₀.planner.channels → s.ramps = s₀.ramps → s.loader = s₀.loader → noneInFlight s₀ →
      newTargetsHandedAt .scene s₀ (applyStaged s) := by
  have e : applyStaged s = announce (sceneAppliedNotice
      { s with scene := { s.scene with applied := asApplied sc, staged := none, conflict := none } }) := by
    unfold applyStaged; rw [hs]
  generalize hy : ({ s with
    scene := { s.scene with applied := asApplied sc, staged := none, conflict := none }
    equaliser := s.equaliser.sceneApplied s.loader.image (settingsOf (asApplied sc).content) } : State) = y
  have notice : sceneAppliedNotice { s with scene := { s.scene with applied := asApplied sc, staged := none, conflict := none } } =
      handTargets .scene y := by rw [← hy]; rfl
  have hands : handsTargets .scene y (applyStaged s) := by
    rw [e, notice]
    intro d hm
    refine handedFrom_congr rfl ⟨rfl, rfl⟩ ?_ (handTargets_of_generation (cause := .scene) (s := y) ?_ ?_ d hm)
    · simp [agreeAt]
    · rw [← hy]; exact Option.some_ne_none _
    · rw [← hy]; exact hd
  refine ⟨targetsCurrent_of_hands hands (by rw [← hy]; simp) fun d => ?_, ?_⟩
  · rw [e, notice, ← handTargets_targetNow .scene y d]
    exact targetNow_congr (by simp) (by simp) (by simp) (by simp) (by simp) d
  · intro s₀ hc hr hl hf
    exact newTargets_of_hands hands (by rw [← hy]; simp) (by rw [← hy]; exact hc) (by rw [← hy]; exact hr)
      (by rw [← hy, ← hl]) hf

end

/-- The targets after a mark event that meets the planner and the unit, in whichever order. -/
structure TargetsMarked (s t : State) : Prop where
  current : s.scene.staged ≠ none ∨ ¬termsStay s → targetsCurrent t
  release : noneInFlight s → s.scene.staged = none → newTargetsHandedAt .release s t
  scene : noneInFlight s → termsStay s → newTargetsHandedAt .scene s t

theorem newTargets_of_same {cls : RateClass} {s t : State} (h : t.planner.channels = s.planner.channels) :
    newTargetsHandedAt cls s t := fun d _ hne => absurd (by rw [h]) hne

section
variable {s : State} (hg : s.scene.applied.generation ≠ none)
  (hd : allDistinct (s.loader.image.roster.map RosterEntry.channel) = true)
include hg hd

/-- With nothing staged the planner alone acts. -/
theorem plannerMark_marked (hs : s.scene.staged = none) : TargetsMarked s (plannerMark s) := by
  by_cases h : termsStay s
  · have same : (plannerMark s).planner.channels = s.planner.channels := by rw [plannerMark_of_stay h]; rfl
    exact ⟨fun hc => by rcases hc with hc | hc <;> contradiction, fun _ _ => newTargets_of_same same,
      fun _ _ => newTargets_of_same same⟩
  · obtain ⟨current, release⟩ := plannerMark_hands hd hg h
    exact ⟨fun _ => current, fun hf _ => release s rfl rfl rfl hf, fun _ hst => absurd hst h⟩

theorem markFirst_marked : TargetsMarked s (applyStaged (plannerMark s)) := by
  cases hs : s.scene.staged with
  | none =>
    rw [applyStaged_of_not_staged (by simpa using hs)]
    exact plannerMark_marked hg hd hs
  | some sc =>
    obtain ⟨current, scene⟩ := applyStaged_hands (s := plannerMark s) (by simpa using hd) (sc := sc) (by simpa using hs)
    refine ⟨fun _ => current, fun _ h => (by rw [hs] at h; cases h), fun hf hst => scene s ?_ ?_ (by simp) hf⟩
    · rw [plannerMark_of_stay hst]; rfl
    · rw [plannerMark_of_stay hst]; rfl

theorem sceneFirst_marked : TargetsMarked s (plannerMark (applyStaged s)) := by
  cases hs : s.scene.staged with
  | none =>
    rw [applyStaged_of_not_staged hs]
    exact plannerMark_marked hg hd hs
  | some sc =>
    obtain ⟨current, scene⟩ := applyStaged_hands hd hs
    have greatest : greatestDemand (applyStaged s) = greatestDemand s :=
      greatestDemand_of_state (ownDemand_congr (by simp) (by simp) (by simp) (by simp)) (by simp) (by simp) (by simp)
    have stay : termsStay (applyStaged s) ↔ termsStay s := by
      unfold termsStay remarked; simp [greatest]
    have quiet (hst : termsStay s) := plannerMark_of_stay (stay.2 hst)
    refine ⟨fun _ => ?_, fun _ h => (by rw [hs] at h; cases h), fun hf hst => ?_⟩
    · by_cases hst : termsStay s
      · rw [quiet hst]
        intro d hm
        obtain ⟨cut, gaps⟩ := stay.2 hst
        exact (current d hm).trans
          (targetNow_of_applied (s := applyStaged s) (t := remarked (applyStaged s)) rfl gaps cut rfl rfl d).symm
      · exact (plannerMark_hands (s := applyStaged s) (by simpa using hd)
          (by rw [applyStaged_scene_of_staged hs]; exact Option.some_ne_none _) (fun h => hst (stay.1 h))).1
    · rw [quiet hst]
      exact scene s rfl rfl rfl hf

end

/-! ### The mark event as a whole -/

/-- The blocks that a mark event's targets rest on are the same. -/
structure SameTerms (s t : State) : Prop where
  scene : t.scene = s.scene
  peers : t.peers = s.peers
  loader : t.loader = s.loader
  controller : t.controller = s.controller
  planner : t.planner = s.planner
  ramps : t.ramps = s.ramps
  protection : t.protection = s.protection
  draws : t.draws = s.draws

theorem SameTerms.greatest {s t : State} (h : SameTerms s t) : greatestDemand t = greatestDemand s :=
  greatestDemand_of_state (ownDemand_congr h.loader (by rw [h.protection]) (by rw [h.protection]) (by rw [h.protection]))
    h.loader h.draws h.peers

theorem SameTerms.trans {s t u : State} (h : SameTerms s t) (h' : SameTerms t u) : SameTerms s u :=
  ⟨h'.scene.trans h.scene, h'.peers.trans h.peers, h'.loader.trans h.loader, h'.controller.trans h.controller,
    h'.planner.trans h.planner, h'.ramps.trans h.ramps, h'.protection.trans h.protection, h'.draws.trans h.draws⟩

/-- What is said of the planner and the targets after a mark event. -/
def markFollows (s t : State) : Prop :=
  t.planner.fallReady = false ∧ t.planner.gapReview = false ∧
  t.planner.settleTimer = s.planner.settleTimer ∧ t.planner.duck = s.planner.duck ∧
  t.planner.cut = (if s.planner.fallReady then greatestDemand s else s.planner.cut) ∧
  t.planner.gapSet = (if s.planner.gapReview then gappedPositions s.peers else s.planner.gapSet) ∧
  (s.scene.staged ≠ none ∨ t.planner.cut ≠ s.planner.cut ∨ t.planner.gapSet ≠ s.planner.gapSet → targetsCurrent t) ∧
  (noneInFlight s →
    (s.scene.staged = none → newTargetsHandedAt .release s t) ∧
    (t.planner.cut = s.planner.cut → t.planner.gapSet = s.planner.gapSet → newTargetsHandedAt .scene s t))

theorem markFollows_start {s u t : State} (h : SameTerms s u) (hm : markFollows u t) : markFollows s t := by
  simpa only [markFollows, newTargetsHandedAt, noneInFlight, h.greatest, h.scene, h.peers, h.loader, h.planner, h.ramps] using hm

theorem markFollows_end {s w t : State} (hp : t.planner = w.planner) (hr : t.ramps = w.ramps) (hl : t.loader = w.loader)
    (hs : t.scene.applied = w.scene.applied) (hm : markFollows s w) : markFollows s t := by
  have targets (d : RosterEntry) : targetNow t d = targetNow w d :=
    targetNow_of_applied (by rw [hl]) (by rw [hp]) (by rw [hp]) (by rw [hp]) hs d
  simpa only [markFollows, newTargetsHandedAt, targetsCurrent, targets, hp, hr, hl] using hm

theorem TargetsMarked.follows {s w : State} (h : TargetsMarked s w)
    (hp : w.planner.cut = (remarked s).planner.cut ∧ w.planner.gapSet = (remarked s).planner.gapSet ∧
      w.planner.fallReady = false ∧ w.planner.gapReview = false)
    (hk : w.planner.settleTimer = s.planner.settleTimer ∧ w.planner.duck = s.planner.duck) : markFollows s w := by
  obtain ⟨cut, gaps, ready, review⟩ := hp
  have stay : termsStay s ↔ w.planner.cut = s.planner.cut ∧ w.planner.gapSet = s.planner.gapSet := by
    rw [termsStay, cut, gaps]
  refine ⟨ready, review, hk.1, hk.2, cut, gaps, fun hc => h.current (hc.imp_right ?_), fun hf =>
    ⟨h.release hf, fun hcut hgaps => h.scene hf (stay.2 ⟨hcut, hgaps⟩)⟩⟩
  rintro (hc | hc) hst
  · exact hc (stay.1 hst).1
  · exact hc (stay.1 hst).2

theorem markEvent_follows (o : MarkOrder) {s : State} (hl : listening s) (hg : s.scene.applied.generation ≠ none)
    (hd : allDistinct (s.loader.image.roster.map RosterEntry.channel) = true) : markFollows s (markEvent o s) := by
  have bank (b : Bool) (t : State) : SameTerms t (inTurn b bankMark t) := by
    unfold inTurn; split <;> exact ⟨rfl, rfl, rfl, rfl, rfl, rfl, rfl, rfl⟩
  have first := bank (decide (o.bank = .markFirst)) s
  unfold markEvent; dsimp only
  rw [unitListens_iff.2 hl]
  generalize inTurn (decide (o.bank = .markFirst)) bankMark s = x at *
  have hg' : x.scene.applied.generation ≠ none := by rwa [first.scene]
  have hd' : allDistinct (x.loader.image.roster.map RosterEntry.channel) = true := by rwa [first.loader]
  have met : markFollows x (inTurn (decide (o.planner = .sceneFirst)) plannerMark
      (inTurn true applyStaged (inTurn (decide (o.planner = .markFirst)) plannerMark x))) := by
    cases hp : o.planner with
    | markFirst =>
      obtain ⟨cut, gaps, ready, review⟩ := plannerMark_terms x
      refine (markFirst_marked hg' hd').follows ⟨?_, ?_, ?_, ?_⟩ ⟨by simp, by simp⟩
      · simpa using cut
      · simpa using gaps
      · simpa using ready
      · simpa using review
    | sceneFirst =>
      have greatest : greatestDemand (applyStaged x) = greatestDemand x :=
        greatestDemand_of_state (ownDemand_congr (by simp) (by simp) (by simp) (by simp)) (by simp) (by simp) (by simp)
      obtain ⟨cut, gaps, ready, review⟩ := plannerMark_terms (applyStaged x)
      refine (sceneFirst_marked hg' hd').follows ⟨cut.trans ?_, gaps.trans ?_, ready, review⟩ ⟨by simp, by simp⟩
      · simp [remarked, greatest]
      · simp [remarked]
  generalize inTurn (decide (o.planner = .sceneFirst)) plannerMark
      (inTurn true applyStaged (inTurn (decide (o.planner = .markFirst)) plannerMark x)) = w at met ⊢
  have between := bank (decide (o.bank = .markBetween)) w
  generalize inTurn (decide (o.bank = .markBetween)) bankMark w = v at between ⊢
  have last := bank (decide (o.bank = .markLast)) (inTurn true (fun s => resyncAtMark (stagePending s)) v)
  have staged : (resyncAtMark (stagePending v)).planner = v.planner ∧ (resyncAtMark (stagePending v)).ramps = v.ramps ∧
      (resyncAtMark (stagePending v)).loader = v.loader ∧ (resyncAtMark (stagePending v)).scene.applied = v.scene.applied := by
    refine ⟨by simp, by simp, by simp, ?_⟩
    unfold resyncAtMark stagePending
    repeat' split
    all_goals rfl
  obtain ⟨planner, ramps, loader, applied⟩ := staged
  refine markFollows_start first (markFollows_end ?_ ?_ ?_ ?_ met)
  · rw [last.planner]; exact planner.trans between.planner
  · rw [last.ramps]; exact ramps.trans between.ramps
  · rw [last.loader]; exact loader.trans between.loader
  · rw [last.scene]; exact applied.trans (by rw [between.scene])

/-- Settles O10. -/
theorem markMovesGapSetCutAndTargets : Obligations.MarkMovesGapSetCutAndTargets := by
  refine ⟨fun s p => mem_gappedPositions, fun c s g hl hb hg hu hn hi hd => ⟨_, exec_effect _ s, fun hk => ?_⟩⟩
  suffices h : ∃ o u, effect c s = finish (markEvent o u) ∧ SameTerms s u by
    obtain ⟨o, u, e, same⟩ := h
    rw [e] at hk ⊢
    rw [finish_of_railKept (by simpa using same.controller) hk]
    have follows := markEvent_follows o (s := u) (by unfold listening; rw [same.controller]; exact hl)
      (by rw [same.scene, hg]; exact Option.some_ne_none _) (by rw [same.loader]; exact hd)
    exact markFollows_start same follows
  rcases hb with ⟨rx, n, o, rfl, hr⟩ | ⟨ack, o, n, stamp, lost, rfl, hs⟩
  · have isolated := hi.resolve_left Bool.noConfusion
    refine ⟨o, markTimed n { goodFrame s with link := (goodFrame s).link.withdraw FrameBody.isMark }, ?_, ?_⟩
    · rw [effect_markReceived, received_awake ⟨hl.1, hr⟩ hn (by simpa using hn)]; rfl
    · obtain ⟨scene, -, peers, loader, controller, planner, ramps, protection, draws⟩ :=
        markTimed_keeps n { goodFrame s with link := (goodFrame s).link.withdraw FrameBody.isMark }
      have heard := goodFrame_of_not_isolated isolated
      exact ⟨scene.trans (by rw [heard]), peers.trans (by rw [heard]), loader.trans (by rw [heard]),
        controller.trans (by rw [heard]), planner.trans (by rw [heard]), ramps.trans (by rw [heard]),
        protection.trans (by rw [heard]), draws.trans (by rw [heard])⟩
  · refine ⟨o, markTimed n (completed ack s), effect_ownMark hs hl.1, ?_⟩
    obtain ⟨scene, -, peers, loader, controller, planner, ramps, protection, draws⟩ := markTimed_keeps n (completed ack s)
    exact ⟨scene.trans (by rw [completed_eq]), peers.trans (by rw [completed_eq]), loader.trans (by rw [completed_eq]),
      controller.trans (by rw [completed_eq]), planner.trans (by rw [completed_eq]), ramps.trans (by rw [completed_eq]),
      protection.trans (by rw [completed_eq]), draws.trans (by rw [completed_eq])⟩

end Sys2Proof.Machine
end

section
/-! PROOFS. An operation on every channel, seen at one; and CLEAR (O20). -/

namespace Sys2Proof.Machine

/-! ### An operation on every channel, seen at one -/

/-- What a state shows of one channel is changed by an operation on every channel as by the operation on that channel alone, when
the operation on another leaves it and it decides its own change. -/
theorem allChannels_foldl_at {β : Type} (view : State → β) {f : State → Channel → State} (n : Channel)
    (other : ∀ s m, m ≠ n → view (f s m) = view s) (own : ∀ s t, view s = view t → view (f s n) = view (f t n)) (s : State) :
    view (allChannels.foldl f s) = view (f s n) := by
  have nodup : allChannels.Nodup := by decide
  have others (l : List Channel) (hl : n ∉ l) (t : State) : view (l.foldl f t) = view t :=
    List.foldlRecOn (motive := fun u => view u = view t) l f rfl fun u hu m hm =>
      (other u m (fun e => hl (e ▸ hm))).trans hu
  obtain ⟨before, after, e⟩ := List.append_of_mem (mem_allChannels n)
  rw [e] at nodup ⊢
  have apart := List.nodup_middle.1 nodup
  rw [List.nodup_cons, List.mem_append, not_or] at apart
  rw [List.foldl_append, List.foldl_cons, others after apart.1.2]
  exact own _ _ (others before apart.1.1 s)

theorem placeAll_get (c : Claim) (k : SilencingKind) (s : State) (n : Channel) :
    (placeAll c k s).ramps.get n = ((s.ramps.get n).place s.loader.image.duckHold c k).record := by
  have e := allChannels_foldl_at (fun s : State => (s.ramps.get n, s.loader)) (f := fun s m => placeClaim c k m s) n
    (fun s m hm => by simp [placeClaim, Ne.symm hm]) (fun s t h => by
      simp only [Prod.mk.injEq] at h
      simp [placeClaim, h.1, h.2]) s
  simp only [Prod.mk.injEq] at e
  rw [placeAll, e.1]
  simp [placeClaim]

/-! ### A fault record through the closing of the window -/

/-- A property of one fault record that a channel silent notice keeps outlasts the handing of targets. -/
theorem recordWith_handInvariant (n : Channel) {Q : FaultRecord → Prop} (hs : ∀ m {r}, Q r → Q (FaultRecord.silenced m r)) :
    HandInvariant fun s => Q (s.protection.records.get n) where
  frame hst h := by
    simp only [channelState, Prod.mk.injEq] at hst
    rwa [hst.2.1]
  hand cause s d _ h := by
    unfold handTarget; dsimp only; split
    · exact h
    · rw [applyRamp_records]; split
      next hn => rw [hn.1] at h; exact hs _ h
      next => exact h

/-- And one that the end of an offset condition keeps too outlasts the release of the rail. -/
theorem recordWith_windowInvariant (n : Channel) {Q : FaultRecord → Prop} (hs : ∀ m {r}, Q r → Q (FaultRecord.silenced m r))
    (ho : ∀ {r}, Q r → Q (FaultRecord.offsetClears r)) : WindowInvariant fun s => Q (s.protection.records.get n) := by
  refine { recordWith_handInvariant n hs with clearHigh := fun {s} h => ?_, offsets := fun {s} b h => ?_ }
  · unfold clearRailFault; dsimp only
    split
    · rw [foldl_field (fun t => t.protection.records) (g := fun s n => releaseFaultClaim n s) (fun _ _ => by simp)]
      exact (recordWith_handInvariant n hs).withDemand (f := unmarkFault .railHigh) h
    · exact h
  · simp only [clearOffsets, PerChannel.get_of]
    split
    · exact ho h
    · exact h

/-! ### CLEAR_FAULTS -/

/-- What the clearing of one channel's record rests on and changes. -/
def clearView (n : Channel) (s : State) : RampRecord × FaultRecord × Condition × Bool × Loader :=
  (s.ramps.get n, s.protection.records.get n, s.protection.conditions.offset.get n, s.protection.active.railHigh, s.loader)

theorem clearChannel_other {n m : Channel} (h : m ≠ n) (s : State) : clearView n (clearChannel m s) = clearView n s := by
  unfold clearChannel releaseFaultClaim; dsimp only
  split
  · split <;> simp [clearView, State.setOffset, PerChannel.get_set, Ne.symm h]
  · rfl

theorem clearView_releaseFaultClaim (n : Channel) (s : State) : clearView n (releaseFaultClaim n s) =
    (if channelReason (s.protection.records.get n) || s.protection.active.railHigh then s.ramps.get n
      else (s.ramps.get n).remove .fault, (clearView n s).2) := by
  unfold releaseFaultClaim clearView
  split <;> simp

theorem clearChannel_congr {n : Channel} {s t : State} (h : clearView n s = clearView n t) :
    clearView n (clearChannel n s) = clearView n (clearChannel n t) := by
  have parts := h
  simp only [clearView, Prod.mk.injEq] at parts
  obtain ⟨ramps, records, offset, high, loader⟩ := parts
  have roster : inRoster s n = inRoster t n := by simp only [inRoster, loader]
  unfold clearChannel; dsimp only
  rw [roster, records, offset]
  split
  · rw [clearView_releaseFaultClaim, clearView_releaseFaultClaim]
    simp [clearView, State.setOffset, ramps, high, loader]
  · exact h

theorem clearChannels_at (b : PerChannel Bool) (n : Channel) (s : State) :
    clearView n (clearChannels b s) = clearView n (if b.get n then clearChannel n s else s) := by
  refine allChannels_foldl_at (clearView n) (f := fun s n => if b.get n then clearChannel n s else s) n (fun s m hm => ?_)
    (fun s t h => ?_) s
  · split
    · exact clearChannel_other hm s
    · rfl
  · split
    · exact clearChannel_congr h
    · exact h

/-- CLEAR_FAULTS on a named roster channel that is not CLEAR (R158). -/
theorem clearChannels_named {b : PerChannel Bool} {n : Channel} {s : State} (hb : b.get n = true) (hr : inRoster s n = true)
    (hc : (s.protection.records.get n).state ≠ .clear) :
    (clearChannels b s).protection.records.get n = (s.protection.records.get n).cleared ∧
    (clearChannels b s).protection.conditions.offset.get n = (s.protection.conditions.offset.get n).afterClearing ∧
    (s.protection.active.railHigh = false → ((clearChannels b s).ramps.get n).claims.fault = none) := by
  have e := clearChannels_at b n s
  rw [if_pos hb, clearChannel, if_pos ⟨hr, hc⟩, clearView_releaseFaultClaim] at e
  have reason : channelReason (s.protection.records.get n).cleared = false := rfl
  simp only [clearView, State.setOffset, PerChannel.get_set_self, Prod.mk.injEq] at e
  obtain ⟨ramps, records, offset, -, -⟩ := e
  refine ⟨by rw [records]; simp, by rw [offset], fun hh => ?_⟩
  rw [ramps]
  simp [reason, hh, remove_fault_claim]

theorem silenced_cleared (m : OvercurrentMode) {r r' : FaultRecord} (h : r.cleared = r'.cleared ∧ r.state ≠ .clear) :
    (r.silenced m).cleared = r'.cleared ∧ (r.silenced m).state ≠ .clear := by
  obtain ⟨e, hc⟩ := h
  rw [← e]
  unfold FaultRecord.silenced
  cases hs : r.state with
  | clear => exact absurd hs hc
  | _ => dsimp only; repeat' split
         all_goals exact ⟨rfl, by simp [hs]⟩

/-! ### CLEAR at an awake station -/

theorem received_ifAddressed {rx : Reception} {target : Nat} {f : State → State} {s : State} (hr : routed rx s)
    (hn : s.controller.station ≠ .resting) (ht : target = s.loader.own.val ∨ target = 16)
    (hf : (f (goodFrame s)).controller.station ≠ .resting) :
    received rx (ifAddressed target f) s = finish (f (goodFrame s)) := by
  have addressed : addressed target (goodFrame s) = true := by simpa [addressed, own] using ht
  have e : ifAddressed target f (goodFrame s) = f (goodFrame s) := by rw [ifAddressed, if_pos addressed]
  rw [received_awake hr hn (by rw [e]; exact hf), e]

/-- Settles O20. -/
theorem clearFaultsStickyAndCounts : Obligations.ClearFaultsStickyAndCounts := by
  intro rx target s hr hn ht
  refine ⟨fun channels n d hb hd hc => ⟨_, exec_effect _ s, ?_⟩, fun kinds => ⟨_, exec_effect _ s, fun f => ?_⟩,
    ⟨_, exec_effect _ s, ?_⟩⟩
  · rw [effect_clearFaults, received_ifAddressed hr hn ht (by simpa using hn)]
    have heard : ((goodFrame s).protection.records.get n).cleared = (s.protection.records.get n).cleared ∧
        ((goodFrame s).protection.records.get n).state ≠ .clear :=
      (recordWith_handInvariant n (Q := fun r => r.cleared = (s.protection.records.get n).cleared ∧ r.state ≠ .clear)
        (fun m _ h => silenced_cleared m h)).goodFrame (s := s) ⟨rfl, hc⟩
    have roster : inRoster (goodFrame s) n = true := by simp [inRoster, hd]
    obtain ⟨record, offset, claim⟩ := clearChannels_named hb roster heard.2
    rw [heard.1] at record
    refine ⟨(recordAt_windowInvariant n (r := (s.protection.records.get n).cleared) (fun _ => rfl) rfl).finish record,
      fun hh => ?_, fun ho hk => ?_⟩
    · exact (rampAt_windowInvariant n (Q := fun r => r.claims.fault = none) (fun _ _ _ _ h => take_leaves_fault h)
        fun h => remove_leaves_fault _ h).finish (claim (by simpa using hh))
    · rw [finish_of_railKept (by simp) hk]
      refine offset.trans ?_
      simp [Condition.afterClearing, ho]
  · rw [effect_clearSticky, received_ifAddressed hr hn ht (by simpa [clearStickyFlags] using hn)]
    have sticky : (finish (clearStickyFlags kinds (goodFrame s))).protection.sticky =
        stickyAfter kinds s.protection.active s.protection.sticky := by simp [clearStickyFlags]
    rw [sticky]
    simp only [stickyAfter, PerFault.get_of]
    cases kinds.get f <;> cases s.protection.active.get f <;> simp
  · rw [effect_clearCounts, received_ifAddressed hr hn ht (by simpa [clearCounts] using hn)]
    refine ⟨by simp [clearCounts], by simp [clearCounts], fun n => ?_⟩
    refine (recordWith_windowInvariant n (Q := fun r => r.occurrences = 0) (fun m r h => ?_) fun {r} h => ?_).finish ?_
    · unfold FaultRecord.silenced; repeat' split
      all_goals exact h
    · unfold FaultRecord.offsetClears; split <;> exact h
    · simp [clearCounts]

end Sys2Proof.Machine
end

section
/-! PROOFS. The number conflict (O22) and the REST (O21). -/

namespace Sys2Proof.Machine

/-! ### A silent channel under a HARD claim -/

/-- The channel is silent under a HARD claim `c`. -/
def RampRecord.SilentUnder (c : Claim) (r : RampRecord) : Prop := r.phase = .silent ∧ r.claims.get c = some .hard

section
variable {c : Claim} {r : RampRecord}

theorem RampRecord.SilentUnder.take (h : r.SilentUnder c) (hold : Nat) (t : Gain) (cls : RateClass) :
    (r.take hold t cls).record.SilentUnder c := by
  obtain ⟨hp, hc⟩ := h
  refine ⟨?_, by rw [take_claims]; exact hc⟩
  unfold RampRecord.take
  rw [hp]

/-- The end of another claim leaves a channel silent (R122). -/
theorem RampRecord.SilentUnder.remove {d : Claim} (h : r.SilentUnder c) (hd : c ≠ d) : (r.remove d).SilentUnder c := by
  obtain ⟨hp, hc⟩ := h
  refine ⟨?_, by rw [remove_get, if_neg hd]; exact hc⟩
  have held : r.claims.set d none ≠ .empty := fun e => by
    have gone := ClaimSet.get_set_ne r.claims none hd
    rw [e, hc] at gone
    cases c <;> cases gone
  unfold RampRecord.remove
  split
  · exact hp
  · dsimp only
    rw [if_neg held]
    exact hp

theorem RampRecord.SilentUnder.place {d : Claim} (h : r.SilentUnder c) (hold : Nat) (k : SilencingKind) :
    (r.place hold d k).record.SilentUnder c := by
  obtain ⟨hp, hc⟩ := h
  unfold RampRecord.place
  split
  next he =>
    rw [engage_of_silent hold k (by exact hp)]
    refine ⟨hp, ?_⟩
    by_cases hd : c = d
    · subst hd
      unfold placementEngages at he
      rw [hc] at he
      have weaker : ¬kindRank .hard < kindRank k := by cases k <;> decide
      exact absurd (of_decide_eq_true he) weaker
    · exact (ClaimSet.get_set_ne _ _ hd).trans hc
  · exact ⟨hp, hc⟩

/-- A HARD claim that joins silences the channel at once (R116, R117). -/
theorem RampRecord.place_hard_silences (hold : Nat) (h : r.claims.get c = none) : (r.place hold c .hard).record.SilentUnder c := by
  unfold RampRecord.place
  rw [if_pos (by unfold placementEngages; rw [h])]
  dsimp only
  refine ⟨?_, ?_⟩
  · by_cases hp : r.phase = .silent
    · rw [engage_of_silent hold .hard (by exact hp)]; exact hp
    · rw [engage_hard hold (by exact hp)]; rfl
  · rw [engage_claims]; simp

theorem silentUnder_windowInvariant (hc : c ≠ .fault) (n : Channel) : WindowInvariant fun s => (s.ramps.get n).SilentUnder c :=
  rampAt_windowInvariant n (Q := RampRecord.SilentUnder c) (fun hold t cls _ h => h.take hold t cls) fun h => h.remove hc

end

/-! ### The number conflict -/

/-- The station once it has entered CONFLICT (R186). -/
def Controller.conflicting : Controller :=
  { station := .conflict, rail := .off, railGoodTimer := none, stabiliseTimer := none, downTimer := none, railRetryTimer := none,
    stop := .conflict }

/-- The channels, the controller and the window as CONFLICT is entered, before the waiting frames are dropped. -/
def conflictWindow (s : State) : State :=
  closeWindow { leaveReady .hard (placeAll .conflict .hard s) with controller := .conflicting }

theorem askConflict_of_listening {s : State} (h : listening s) :
    askConflict s = dropWaiting { conflictWindow s with speed := { (conflictWindow s).speed with spacingTimer := none } } := by
  unfold askConflict
  cases hs : s.controller.station with
  | starting => exact absurd hs h.1
  | unconfigured => exact absurd hs h.2
  | _ => rfl

theorem conflictWindow_silent {s : State} {n : Channel} (h : (s.ramps.get n).claims.conflict = none) :
    ((conflictWindow s).ramps.get n).SilentUnder .conflict := by
  refine (silentUnder_windowInvariant (by decide) n).closeWindow ?_
  have placed : ((placeAll .conflict .hard s).ramps.get n).SilentUnder .conflict := by
    rw [placeAll_get]; exact RampRecord.place_hard_silences _ h
  show ((leaveReady .hard (placeAll .conflict .hard s)).ramps.get n).SilentUnder .conflict
  unfold leaveReady; split
  · rw [placeAll_get]; exact placed.place _ _
  · exact placed

theorem conflict_handInvariant (n : Channel) : HandInvariant fun s => (s.ramps.get n).claims.conflict = none :=
  (rampAt_windowInvariant n (Q := fun r => r.claims.conflict = none) (fun hold t cls r h => by rw [take_claims, h])
    fun {r} h => by
      have e := remove_get .fault .conflict r
      simpa [ClaimSet.get, h] using e).toHandInvariant

/-- Settles O22. -/
theorem numberConflictEntersConflict : Obligations.NumberConflictEntersConflict := by
  intro s hl ha hc
  generalize hv : ({ goodFrame s with link := { (goodFrame s).link with conflictReported := true } } : State) = v
  have v_active : v.protection.active = s.protection.active := by rw [← hv]; simp
  have v_sticky : v.protection.sticky = s.protection.sticky := by rw [← hv]; simp
  have v_station : v.controller.station = s.controller.station := by rw [← hv]; simp
  have v_claims (n : Channel) : (v.ramps.get n).claims.conflict = none := by
    rw [← hv]; exact (conflict_handInvariant n).goodFrame (hc n)
  have v_reported : v.link.conflictReported = true := by rw [← hv]
  generalize hw : queueAlert (.station .numberConflict) .active (withDemand (markFault .numberConflict) v) = w
  have w_listening : listening w := by rw [← hw]; simpa [listening, v_station] using hl
  have w_claims (n : Channel) : (w.ramps.get n).claims.conflict = none := by
    rw [← hw]
    exact (conflict_handInvariant n).queueAlert _ _ ((conflict_handInvariant n).withDemand
      ((conflict_handInvariant n).markFault (by decide) (v_claims n)))
  have w_active : w.protection.active.numberConflict = true := by rw [← hw]; simp [markFault, PerFault.set]
  have w_sticky : w.protection.sticky.numberConflict = true := by rw [← hw]; simp [markFault, PerFault.set]
  have w_reported : w.link.conflictReported = true := by rw [← hw]; simpa using v_reported
  have e : effect .numberConflict s = finish (askConflict w) := by
    have started : (goodFrame s).controller.station ≠ .starting := by simpa using hl.1
    rw [effect_numberConflict, receiveUnheard, if_neg started, if_pos (by simp [own]), reportConflict, hv, raiseFault,
      if_neg (by rw [show v.protection.active.get .numberConflict = v.protection.active.numberConflict from rfl, v_active, ha]; decide),
      hw]
  refine ⟨_, exec_effect _ s, ?_⟩
  rw [e, askConflict_of_listening w_listening, finish_of_not_railDown (by simp [dropWaiting, conflictWindow, Controller.conflicting])]
  have active : (conflictWindow w).protection.active.numberConflict = true := by
    rw [conflictWindow, closeWindow_active]; simpa [PerFault.set] using w_active
  refine ⟨by simp [dropWaiting, conflictWindow, Controller.conflicting], by simp [dropWaiting, conflictWindow, Controller.conflicting],
    by simp [dropWaiting, conflictWindow, Controller.conflicting], by simp [dropWaiting, conflictWindow, Controller.conflicting], rfl,
    by simpa [dropWaiting, conflictWindow] using w_reported, by simpa [dropWaiting] using active,
    by simpa [dropWaiting, conflictWindow] using w_sticky, rfl, rfl, rfl, fun n => ?_⟩
  obtain ⟨phase, claim⟩ := conflictWindow_silent (w_claims n)
  exact ⟨claim, phase⟩

/-! ### A placement and the gain -/

section
variable {r : RampRecord} {c : Claim} {hold : Nat}

theorem RampRecord.fallSilent_gain (r : RampRecord) : r.fallSilent.currentGain = .silent := rfl

theorem RampRecord.engage_silent_gain {k : SilencingKind} (h : r.currentGain = .silent) : (r.engage hold k).currentGain = .silent := by
  have fade : r.startFade.currentGain = .silent := by
    rw [RampRecord.startFade, if_pos (by rw [h]; rfl)]; rfl
  unfold RampRecord.engage
  split
  any_goals exact h
  any_goals exact r.fallSilent_gain
  any_goals exact fade
  rw [if_pos h]; exact r.fallSilent_gain

/-- A placement leaves a silent channel silent. -/
theorem RampRecord.place_silent_gain {k : SilencingKind} (h : r.currentGain = .silent) :
    (r.place hold c k).record.currentGain = .silent := by
  unfold RampRecord.place; split
  · exact RampRecord.engage_silent_gain h
  · exact h

/-- Above the floor a SOFT placement starts a fade at the gain there is (R118). -/
theorem RampRecord.place_soft_gain {g : Int} (h : r.currentGain = .level g) (hg : -120 < g) :
    (r.place hold c .soft).record.currentGain = .level g := by
  have sounds (q : RampRecord) (hq : q.currentGain = .level g) : q.startFade.currentGain = .level g := by
    rw [RampRecord.startFade, if_neg]
    · exact hq
    · rw [hq]
      exact fun e => absurd (of_decide_eq_true e) (not_le.2 hg)
  unfold RampRecord.place; split
  · unfold RampRecord.engage
    split
    any_goals exact h
    all_goals first | exact sounds _ h | contradiction
  · exact h

end

/-! ### REST -/

/-- The state in which a REST is taken (R164, R172, R182). -/
def restHeard (asserted : Bool) (s : State) : State := goodFrame (withWakeLine asserted s)

theorem effect_rest {rx : Reception} {asserted : Bool} {s : State} (hr : routed rx s) :
    effect (.restReceived rx asserted) s = finish (handleRest asserted (restHeard asserted s)) := by
  have started : (goodFrame (withWakeLine asserted s)).controller.station ≠ .starting := by simpa [withWakeLine] using hr.1
  have other : rx.sender ≠ own (goodFrame (withWakeLine asserted s)) := by simpa [own, withWakeLine] using hr.2
  rw [effect_restReceived, receiveUnheard, if_neg started, if_neg other]; rfl

section
variable (b : Bool) (s : State)

theorem applyRamp_wakeLine (n : Channel) (r : RampResult) :
    applyRamp n r (withWakeLine b s) = withWakeLine b (applyRamp n r s) := by
  unfold applyRamp; dsimp only
  split <;> rfl

theorem handTarget_wakeLine (cause : RateClass) (d : RosterEntry) :
    handTarget cause (withWakeLine b s) d = withWakeLine b (handTarget cause s d) := by
  by_cases h : targetNow s d = (s.planner.channels.get d.channel).handedTarget
  · rw [handTarget_of_eq h, handTarget_of_eq (s := withWakeLine b s) h]; rfl
  · rw [handTarget_of_ne h, handTarget_of_ne (s := withWakeLine b s) h, ← applyRamp_wakeLine]; rfl

theorem handTargets_wakeLine (cause : RateClass) : handTargets cause (withWakeLine b s) = withWakeLine b (handTargets cause s) := by
  have key (l : List RosterEntry) (t : State) :
      l.foldl (handTarget cause) (withWakeLine b t) = withWakeLine b (l.foldl (handTarget cause) t) := by
    induction l generalizing t with
    | nil => rfl
    | cons d l ih => rw [List.foldl_cons, List.foldl_cons, handTarget_wakeLine, ih]
  cases hg : s.scene.applied.generation with
  | none => rw [handTargets_no_generation hg, handTargets_no_generation (s := withWakeLine b s) hg]
  | some g =>
    unfold handTargets
    rw [show (withWakeLine b s).scene = s.scene from rfl, hg]
    exact key _ s

theorem reviewDemand_wakeLine : reviewDemand (withWakeLine b s) = withWakeLine b (reviewDemand s) := by
  by_cases h1 : s.planner.cut < greatestDemand s
  · have e (t : State) (h : t.planner.cut < greatestDemand t) : reviewDemand t = handTargets .protect
        { t with planner := { t.planner with cut := greatestDemand t, settleTimer := none, fallReady := false } } := if_pos h
    rw [e s h1, e (withWakeLine b s) h1, ← handTargets_wakeLine]; rfl
  by_cases h2 : greatestDemand s = s.planner.cut
  · have e (t : State) (h : ¬t.planner.cut < greatestDemand t) (h' : greatestDemand t = t.planner.cut) : reviewDemand t =
        { t with planner := { t.planner with settleTimer := none, fallReady := false } } := (if_neg h).trans (if_pos h')
    rw [e s h1 h2, e (withWakeLine b s) h1 h2]; rfl
  by_cases h3 : s.planner.settleTimer = none ∧ s.planner.fallReady = false
  · have e (t : State) (h : ¬t.planner.cut < greatestDemand t) (h' : ¬greatestDemand t = t.planner.cut)
        (h'' : t.planner.settleTimer = none ∧ t.planner.fallReady = false) :
        reviewDemand t = { t with planner := { t.planner with settleTimer := some (ms 500) } } :=
      (if_neg h).trans ((if_neg h').trans (if_pos h''))
    rw [e s h1 h2 h3, e (withWakeLine b s) h1 h2 h3]; rfl
  · have e (t : State) (h : ¬t.planner.cut < greatestDemand t) (h' : ¬greatestDemand t = t.planner.cut)
        (h'' : ¬(t.planner.settleTimer = none ∧ t.planner.fallReady = false)) : reviewDemand t = t :=
      (if_neg h).trans ((if_neg h').trans (if_neg h''))
    rw [e s h1 h2 h3, e (withWakeLine b s) h1 h2 h3]

theorem emptyTable_wakeLine : emptyTable (withWakeLine b s) = withWakeLine b (emptyTable s) := by
  have review : (emptyTable (withWakeLine b s)).planner.gapReview = (emptyTable s).planner.gapReview := by
    unfold emptyTable; dsimp only [withWakeLine]
    split <;> simp
  have bare : emptied (withWakeLine b s) = withWakeLine b (emptied s) := by
    unfold emptied
    rw [review]; rfl
  rw [emptyTable_eq, emptyTable_eq, bare]
  show (if s.peers.entries.toList.any (fun e => (countedDemand e).isSome) = true then _ else _) = _
  split
  · exact reviewDemand_wakeLine b _
  · rfl

theorem duckFlagClear_wakeLine : duckFlagClear (withWakeLine b s) = withWakeLine b (duckFlagClear s) := by
  cases h : s.planner.duck with
  | off => rw [duckFlagClear_of_off h, duckFlagClear_of_off (s := withWakeLine b s) h]
  | waiting => rw [duckFlagClear_of_waiting h, duckFlagClear_of_waiting (s := withWakeLine b s) h]; rfl
  | on =>
    rw [duckFlagClear_of_on h, duckFlagClear_of_on (s := withWakeLine b s) h]
    exact handTargets_wakeLine b (unducked s) .scene

/-- The wake line is no part of what hearing a frame rests on. -/
theorem restHeard_eq : restHeard b s = withWakeLine b (goodFrame s) := by
  unfold restHeard
  cases hi : s.link.isolated with
  | false => rw [goodFrame_of_not_isolated hi, goodFrame_of_not_isolated (s := withWakeLine b s) hi]; rfl
  | true =>
    rw [goodFrame_of_isolated hi, goodFrame_of_isolated (s := withWakeLine b s) hi, ← duckFlagClear_wakeLine]
    congr 1
    show (if s.peers.emptyingDue = true then _ else _) = _
    split
    · exact emptyTable_wakeLine b { s with link := heardLink s }
    · rfl

end

theorem takeRest_of_rail {s : State}
    (h : s.controller.station = .ready ∨ s.controller.station = .stabilising ∨ s.controller.station = .railUp) :
    takeRest s = restFromRail s := by
  unfold takeRest
  rcases h with h | h | h <;> rw [h]

theorem takeRest_of_off {s : State} (h : s.controller.station = .quiet ∨ s.controller.station = .shutdown) :
    takeRest s = enterResting { s with controller := { s.controller with railRetryTimer := none } } := by
  unfold takeRest
  rcases h with h | h <;> rw [h]

theorem takeRest_of_other {s : State} (h : s.controller.station = .railDown ∨ s.controller.station = .resting ∨
    s.controller.station = .unconfigured ∨ s.controller.station = .conflict) : takeRest s = s := by
  unfold takeRest
  rcases h with h | h | h | h <;> rw [h]

/-- A claim held on every channel outlasts the release of the rail, unless it is the FAULT claim. -/
theorem claimed_windowInvariant {c : Claim} (hc : c ≠ .fault) (n : Channel) :
    WindowInvariant fun s => ((s.ramps.get n).claims.get c).isSome = true :=
  rampAt_windowInvariant n (Q := fun r => (r.claims.get c).isSome = true) (fun hold t cls r h => by rw [take_claims]; exact h)
    fun {r} h => by rw [remove_get, if_neg hc]; exact h

theorem finish_claimed {c : Claim} (hc : c ≠ .fault) {n : Channel} {s : State} (h : ((s.ramps.get n).claims.get c).isSome = true) :
    (((finish s).ramps.get n).claims.get c).isSome = true := (claimed_windowInvariant hc n).finish h

/-- RAIL_DOWN as a REST enters it, before the controller looks whether every channel is silent (R182). -/
theorem restFromRail_controller (s : State) : (restFromRail s).controller =
    { s.controller with station := .railDown, stabiliseTimer := none, railGoodTimer := none } := by
  simp [restFromRail]

theorem restFromRail_claims (s : State) (n : Channel) : ((restFromRail s).ramps.get n).claims.rest.isSome = true ∧
    (s.controller.station = .ready → ((restFromRail s).ramps.get n).claims.rail.isSome = true) := by
  have rest : (((placeAll .rest .soft s).ramps.get n).claims.get .rest).isSome = true := by rw [placeAll_claims]; rfl
  have ramps : (restFromRail s).ramps = (leaveReady .soft (placeAll .rest .soft s)).ramps := rfl
  rw [ramps]
  by_cases h : (placeAll .rest .soft s).controller.station = .ready
  · have e : leaveReady .soft (placeAll .rest .soft s) = placeAll .rail .soft (placeAll .rest .soft s) := if_pos h
    have restStays := placeAll_claims .rail .soft (placeAll .rest .soft s) n .rest
    have rail := placeAll_claims .rail .soft (placeAll .rest .soft s) n .rail
    rw [e]
    rw [rest] at restStays
    exact ⟨restStays, fun _ => rail⟩
  · rw [leaveReady_of_not_ready h]
    exact ⟨rest, fun hr => absurd (by simpa using hr) h⟩

/-- A channel whose gain two SOFT placements leave keeps it as RAIL_DOWN is entered. -/
theorem restFromRail_gain {s : State} {n : Channel} {g : Gain} (h : (s.ramps.get n).currentGain = g)
    (hp : ∀ r : RampRecord, r.currentGain = g → ∀ hold c, (r.place hold c .soft).record.currentGain = g) :
    ((restFromRail s).ramps.get n).currentGain = g := by
  have placed : ((placeAll .rest .soft s).ramps.get n).currentGain = g := by rw [placeAll_get]; exact hp _ h _ _
  have ramps : (restFromRail s).ramps = (leaveReady .soft (placeAll .rest .soft s)).ramps := rfl
  rw [ramps]
  unfold leaveReady; split
  · rw [placeAll_get]; exact hp _ placed _ _
  · exact placed

/-! ### RESTING -/

/-- What entering RESTING leaves of the queue, the timers and the controller (R170, R184). -/
theorem enterResting_leaves (s : State) :
    (enterResting s).controller = { s.controller with station := .resting, rail := .off, stop := .rest } ∧
    (enterResting s).link = { s.link with waiting := [] } ∧ (enterResting s).cycle.cycle = .stopped ∧
    (enterResting s).cycle.presence = .stopped ∧ (enterResting s).scene = s.scene := by
  unfold enterResting; dsimp only
  split
  · exact ⟨rfl, rfl, rfl, rfl, rfl⟩
  · simp [dropWaiting]

theorem enterResting_empties {s : State} (h : s.link.isolated = false) : tableEmptied s (enterResting s) := by
  unfold enterResting; dsimp only
  rw [if_neg (by simp [dropWaiting, h])]
  exact emptyTable_tableEmptied _

theorem enterResting_defers {s : State} (h : s.link.isolated = true) :
    (enterResting s).peers = { s.peers with emptyingDue := true } := by
  unfold enterResting; dsimp only
  rw [if_pos (by simpa [dropWaiting] using h)]
  rfl

theorem finish_resting {s : State} (h : s.controller.station = .resting) : finish s = refreshPresence s :=
  finish_of_not_railDown (by rw [h]; decide)

/-- Settles O21. -/
theorem restRefusedOrTaken : Obligations.RestRefusedOrTaken := by
  intro rx s hr
  have station (b : Bool) : (restHeard b s).controller = s.controller := by rw [restHeard_eq]; simp [withWakeLine]
  have ramps (b : Bool) : (restHeard b s).ramps = (goodFrame s).ramps := by rw [restHeard_eq]; rfl
  have loader (b : Bool) : (restHeard b s).loader = s.loader := by rw [restHeard_eq]; simp [withWakeLine]
  refine ⟨⟨_, exec_effect _ s, ?_⟩, fun hs => ⟨_, exec_effect _ s, ?_⟩, fun hs => ⟨_, exec_effect _ s, ?_⟩,
    fun hs => ⟨_, exec_effect _ s, ?_⟩⟩
  · rw [effect_rest hr]
    have e : handleRest true (restHeard true s) = (restHeard true s).count LinkCounters.addRestRefused := rfl
    rw [e, restHeard_eq]
    refine ⟨by simp [State.count, withWakeLine], ?_, by simp [State.count, withWakeLine]⟩
    simp only [finish_keeps]
    show (LinkCounters.addRestRefused (goodFrame s).link.counters).restsRefused = _
    rw [show (goodFrame s).link.counters = s.link.counters by simp]
    rfl
  · have e : effect (.restReceived rx false) s = finish (restFromRail (restHeard false s)) := by
      rw [effect_rest hr]
      exact congrArg finish (takeRest_of_rail (by rw [station]; exact hs))
    rw [e]
    have controller := restFromRail_controller (restHeard false s)
    rw [station] at controller
    have down : (restFromRail (restHeard false s)).controller.station = .railDown := by rw [controller]
    refine ⟨by simp [controller], by simp [controller], by simp [controller], fun n => ?_, fun hready n => ?_,
      fun hd hq => ?_, fun hq => ?_⟩
    · exact finish_claimed (c := .rest) (by decide) (restFromRail_claims _ n).1
    · exact finish_claimed (c := .rail) (by decide) ((restFromRail_claims _ n).2 (by rw [station]; exact hready))
    · refine finish_released down (by unfold railDriven; rw [controller]; exact hd) (List.all_eq_true.2 fun d hm => decide_eq_true ?_)
      have hm' : d ∈ s.loader.image.roster := by
        rw [← loader false]; simpa [restFromRail] using hm
      exact restFromRail_gain (by rw [ramps]; exact hq d hm') fun r h hold c => RampRecord.place_silent_gain h
    · obtain ⟨d, hm, g, hg, hlow⟩ := hq
      have sounds : ((restFromRail (restHeard false s)).ramps.get d.channel).currentGain = .level g :=
        restFromRail_gain (by rw [ramps]; exact hg) fun r h hold c => RampRecord.place_soft_gain h hlow
      have hm' : d ∈ (restFromRail (restHeard false s)).loader.image.roster := by
        rw [← loader false] at hm; simpa [restFromRail] using hm
      rw [finish_while_sounding (allSilent_eq_false_of_sounds hm' (by rw [sounds]; simp))]
      simp [controller]
  · have e : effect (.restReceived rx false) s = finish (enterResting
        { restHeard false s with controller := { (restHeard false s).controller with railRetryTimer := none } }) := by
      rw [effect_rest hr]
      exact congrArg finish (takeRest_of_off (by rw [station]; exact hs))
    have heard : (restHeard false s).scene = s.scene ∧ (restHeard false s).link.isolated = false ∧
        (restHeard false s).peers = (goodFrame s).peers := by
      rw [restHeard_eq]
      exact ⟨by simp [withWakeLine], (heard_goodFrame s).link.1, rfl⟩
    obtain ⟨scene, isolated, peers⟩ := heard
    generalize hv : ({ restHeard false s with controller := { (restHeard false s).controller with railRetryTimer := none } } : State)
      = v at e
    have v_peers : v.peers = (goodFrame s).peers := by rw [← hv]; exact peers
    have v_isolated : v.link.isolated = false := by rw [← hv]; exact isolated
    have v_retry : v.controller.railRetryTimer = none := by rw [← hv]
    have v_scene : v.scene = s.scene := by rw [← hv]; exact scene
    obtain ⟨controller, link, cycle, presence, -⟩ := enterResting_leaves v
    rw [e, finish_resting (by rw [controller])]
    refine ⟨by simp [controller], by simp [controller], by simp [controller, v_retry], by simp [refreshPresence, link], cycle, presence,
      ?_, by simp [v_scene]⟩
    obtain ⟨due, entries⟩ := enterResting_empties v_isolated
    refine ⟨due, fun n => (entries n).trans ?_⟩
    simp only [v_peers, goodFrame_self]
  · have e : effect (.restReceived rx false) s = finish (restHeard false s) := by
      rw [effect_rest hr]
      exact congrArg finish (takeRest_of_other (by rw [station]; exact hs))
    rw [e, restHeard_eq]
    exact ⟨by simp [withWakeLine], by simp [withWakeLine]⟩

end Sys2Proof.Machine
end

section
/-! PROOFS. The PROBEs (O23). -/

namespace Sys2Proof.Machine

/-! ### The ANSWERs that the queue holds -/

theorem goodFrame_answersHeld (s : State) : (goodFrame s).link.answersHeld = s.link.answersHeld := by
  rw [goodFrame_link]
  simp [heardLink, Link.lineFrameEnded, Link.answersHeld, Link.sendingBody, List.filter_map, Function.comp_def]

theorem finish_link (s : State) : (finish s).link = s.link.refreshed (ownReport (takeSilence s)) := by
  simp [finish, refreshPresence, Link.refreshed]

theorem finish_answersHeld (s : State) : (finish s).link.answersHeld = s.link.answersHeld := by
  rw [finish_link, answersHeld_eq, answersHeld_eq, refreshed_places]
  rfl

/-! ### A PROBE received -/

section
variable {rx : Reception} {p : Probe} {sel : ItemSelector} {contents : State → AnswerContents} {s : State} (hr : routed rx s)
  (hn : s.controller.station ≠ .resting)
include hr hn

theorem probed_awake : probed rx p sel contents s = finish (respond rx.sender p sel contents (goodFrame s)) :=
  received_awake hr hn (by simpa using hn)

/-- A PROBE for the own number with a free place is answered with the item as the frame heard leaves it (R168, R174). -/
theorem probed_answers (hc : s.controller.station ≠ .conflict) (ht : p.target = s.loader.own.val) (ha : s.link.answersHeld < 4)
    (hp : s.link.placesHeld < 8) : ∃ f ∈ (probed rx p sel contents s).link.waiting,
      f.body = .answer ⟨rx.sender, p.tag, sel, p.index, contents (goodFrame s)⟩ := by
  have target : p.target = (own (goodFrame s)).val := by simpa [own] using ht
  have place : queueHasPlace (goodFrame s) := goodFrame_hasPlace ⟨hr.1, hn, hc, hp⟩
  rw [probed_awake hr hn, ← mem_bodies, mem_bodies_finish (by simp [FrameBody.kind]), respond, if_pos target,
    if_neg (by rw [goodFrame_answersHeld]; omega)]
  exact (giveFrame_waits place (sceneInTransmission_of_notScene (by simp [answerTo, FrameBody.kind]) _)).2.1

theorem probed_dropped (ht : p.target = s.loader.own.val) (ha : 4 ≤ s.link.answersHeld) :
    (probed rx p sel contents s).link.answersHeld = s.link.answersHeld ∧ (probed rx p sel contents s).link.counters =
      { s.link.counters with queueDrops := countUp 65535 s.link.counters.queueDrops } := by
  have target : p.target = (own (goodFrame s)).val := by simpa [own] using ht
  have e : respond rx.sender p sel contents (goodFrame s) = { goodFrame s with link := (goodFrame s).link.countDrop } := by
    rw [respond, if_pos target, if_pos (by rw [goodFrame_answersHeld]; exact ha)]
  rw [probed_awake hr hn, finish_answersHeld, e]
  refine ⟨goodFrame_answersHeld s, ?_⟩
  simp only [finish_keeps]
  rw [goodFrame_link]
  rfl

theorem probed_elsewhere (ht : p.target ≠ s.loader.own.val) :
    (probed rx p sel contents s).link.answersHeld = s.link.answersHeld ∧
    (probed rx p sel contents s).link.counters = s.link.counters := by
  have e : respond rx.sender p sel contents (goodFrame s) = goodFrame s := by
    rw [respond, if_neg (by simpa [own] using ht)]
  rw [probed_awake hr hn, finish_answersHeld, e, goodFrame_answersHeld]
  exact ⟨rfl, by simp⟩

end

/-- Every PROBE command is a PROBE received, at most after the wake line's level has come with it. -/
theorem effect_of_mem_probes {rx : Reception} {p : Probe} {level : Bool} {sel : ItemSelector} {c : Instr}
    (h : c ∈ probes rx p level sel) (s : State) : ∃ sel' contents u, (u = s ∨ u = withWakeLine level s) ∧
      effect c s = probed rx p sel' contents u := by
  simp only [probes, List.mem_cons, List.not_mem_nil, or_false] at h
  rcases h with rfl | rfl | rfl | rfl | rfl | rfl | rfl | rfl | rfl | rfl
  case inr.inr.inr.inr.inr.inl => exact ⟨_, _, _, .inr rfl, effect_probeStation rx p level s⟩
  all_goals exact ⟨_, _, _, .inl rfl, rfl⟩

theorem stationOf_val (n : Station) : stationOf n.val = some n := by simp [stationOf]

theorem channelOf_val (n : Channel) : channelOf n.val = some n := by simp [channelOf]

/-- Settles O23. -/
theorem probesAnsweredOrDropped : Obligations.ProbesAnsweredOrDropped := by
  refine ⟨fun rx p s hr hn hc ht ha hp => ?_, fun rx p level sel s c hr hn hm => ?_⟩
  · have answered (sel : ItemSelector) (contents : State → AnswerContents) :
        ∃ f ∈ (probed rx p sel contents s).link.waiting,
          f.body = .answer ⟨rx.sender, p.tag, sel, p.index, contents (goodFrame s)⟩ := probed_answers hr hn hc ht ha hp
    have scene : (goodFrame s).scene = s.scene := by simp
    have speed : (goodFrame s).speed = s.speed := by simp
    have loader : (goodFrame s).loader = s.loader := by simp
    have counters : (goodFrame s).link.counters = s.link.counters := by simp
    refine ⟨⟨_, exec_effect _ s, ?_⟩, ⟨_, exec_effect _ s, ?_⟩, ⟨_, exec_effect _ s, ?_⟩, fun n hi => ⟨_, exec_effect _ s, ?_⟩,
      fun hi => ⟨_, exec_effect _ s, ?_⟩, ⟨_, exec_effect _ s, answered _ _⟩, fun n hi => ⟨channelItem n (goodFrame s),
      ⟨_, exec_effect _ s, ?_⟩, fun hd => ?_, fun hd => ?_⟩, fun level => ⟨_, exec_effect _ s, ?_⟩, ⟨_, exec_effect _ s, ?_⟩,
      fun r hsrc => ⟨_, exec_effect _ s, ?_⟩, fun hsrc => ⟨_, exec_effect _ s, ?_⟩, ⟨_, exec_effect _ s, ?_⟩,
      fun sel => ⟨_, exec_effect _ s, answered _ _⟩⟩
    · have a := answered .sceneApplied sceneAppliedContents
      rwa [sceneAppliedContents, scene] at a
    · have a := answered .sceneStaged sceneStagedContents
      have e : sceneStagedContents (goodFrame s) = sceneStagedContents s := by unfold sceneStagedContents; rw [scene]
      rw [e] at a
      exact a
    · have a := answered .pending pendingContents
      rwa [pendingContents, scene] at a
    · have a := answered .peer (peerItemContents p.index)
      have e : peerItemContents p.index (goodFrame s) = peerContents ((goodFrame s).peers.entries.get n) := by
        rw [peerItemContents, hi, stationOf_val]
      rw [e] at a
      exact a
    · have a := answered .peer (peerItemContents p.index)
      have e : peerItemContents p.index (goodFrame s) = .noSuchItem := by
        rw [peerItemContents, stationOf, dif_neg (by omega)]
      rwa [e] at a
    · have a := answered .channel (channelItemContents p.index)
      have e : channelItemContents p.index (goodFrame s) = .channel (channelItem n (goodFrame s)) := by
        rw [channelItemContents, hi, channelOf_val]
      rwa [e] at a
    · have e : plannerPart n (goodFrame s) = ⟨.silent, none, none⟩ := by unfold plannerPart; rw [loader, hd]
      unfold channelItem
      rw [e]; exact ⟨rfl, rfl, rfl⟩
    · obtain ⟨d, hd⟩ := Option.ne_none_iff_exists'.1 hd
      have e : plannerPart n (goodFrame s) = (goodFrame s).planner.channels.get n := by unfold plannerPart; rw [loader, hd]
      unfold channelItem
      rw [e]
    · exact probed_answers (s := withWakeLine level s) hr hn hc ht ha hp
    · have a := answered .linkCounts (fun s => .linkCounts (linkCountsItem s))
      have e : linkCountsItem (goodFrame s) = linkCountsItem s := by
        unfold linkCountsItem; rw [counters]; simp
      rw [e] at a
      exact a
    · have a := answered .speed (fun s => .speed (speedItem s))
      simp only [speedItem, speed, hsrc, Option.map_some] at a
      exact a
    · have a := answered .speed (fun s => .speed (speedItem s))
      simp only [speedItem, speed, hsrc, Option.map_none] at a
      exact a
    · have a := answered .config (fun s => .config s.loader.item)
      simp only [loader] at a
      exact a
  · obtain ⟨sel', contents, u, hu, e⟩ := effect_of_mem_probes hm s
    have link : u.link = s.link := by rcases hu with rfl | rfl <;> rfl
    have loader : u.loader = s.loader := by rcases hu with rfl | rfl <;> rfl
    have controller : u.controller = s.controller := by rcases hu with rfl | rfl <;> rfl
    have hr' : routed rx u := by unfold routed; rw [controller, loader]; exact hr
    have hn' : u.controller.station ≠ .resting := by rwa [controller]
    refine ⟨fun ht ha => ⟨_, exec_effect _ s, ?_⟩, fun ht => ⟨_, exec_effect _ s, ?_⟩⟩
    · rw [e, ← link]
      exact probed_dropped hr' hn' (by rw [loader]; exact ht) (by rw [link]; exact ha)
    · rw [e, ← link]
      exact probed_elsewhere hr' hn' (by rw [loader]; exact ht)

end Sys2Proof.Machine
end

section
/-! PROOFS. The speed timers and the offers (O30). -/

namespace Sys2Proof.Machine

/-! ### The offer -/

theorem moveToward_spec (base desired : Int) : moveToward base desired - base ≤ 4 ∧ base - moveToward base desired ≤ 4 ∧
    (desired - base ≤ 4 ∧ base - desired ≤ 4 → moveToward base desired = desired) := by
  unfold moveToward
  split
  · omega
  · split <;> omega

theorem speedOffer_of_staged {s : State} {sc : Scene} (h : s.scene.staged = some sc) : speedOffer s =
    some ⟨sc.generation, 0, { PerField.all none with speedStep := some (moveToward sc.content.speedStep s.speed.desired) }⟩ := by
  unfold speedOffer; rw [h]

theorem speedOffer_of_applied {s : State} {g : Generation} (h : s.scene.staged = none) (hg : s.scene.applied.generation = some g) :
    speedOffer s = some ⟨g, 0, { PerField.all none with
      speedStep := some (moveToward s.scene.applied.content.speedStep s.speed.desired) }⟩ := by
  unfold speedOffer; rw [h, hg]

theorem speedOffer_spec {s : State} {o : Offer} (h : speedOffer s = some o) : o.rank = 0 ∧
    ∃ v base : Int, o.values = { PerField.all none with speedStep := some v } ∧
      ((∃ sc, s.scene.staged = some sc ∧ o.base = sc.generation ∧ base = sc.content.speedStep) ∨
        (s.scene.staged = none ∧ s.scene.applied.generation = some o.base ∧ base = s.scene.applied.content.speedStep)) ∧
      v - base ≤ 4 ∧ base - v ≤ 4 ∧ (((s.speed.desired : Int) - base ≤ 4 ∧ base - s.speed.desired ≤ 4) → v = s.speed.desired) := by
  cases hs : s.scene.staged with
  | some sc =>
    rw [speedOffer_of_staged hs] at h
    cases h
    exact ⟨rfl, _, _, rfl, .inl ⟨sc, rfl, rfl, rfl⟩, moveToward_spec _ _⟩
  | none =>
    cases hg : s.scene.applied.generation with
    | some g =>
      rw [speedOffer_of_applied hs hg] at h
      cases h
      exact ⟨rfl, _, _, rfl, .inr ⟨rfl, rfl, rfl⟩, moveToward_spec _ _⟩
    | none =>
      unfold speedOffer at h
      rw [hs, hg] at h
      cases h

theorem offersSpeed_iff {st : StationState} :
    offersSpeed st = true ↔ st ∈ [StationState.quiet, .railUp, .stabilising, .ready, .railDown, .shutdown] := by
  cases st <;> simp [offersSpeed]

/-- The nine conditions of R84. -/
theorem offerDue_iff {s : State} : offerDue s = true ↔
    (s.speed.state = .fresh ∨ s.speed.state = .stale) ∧ s.scene.unit = .agreed ∧
    s.controller.station ∈ [StationState.quiet, .railUp, .stabilising, .ready, .railDown, .shutdown] ∧
    (s.speed.desired : Int) ≠ s.scene.applied.content.speedStep ∧
    ((s.loader.image.minimumChange : Int) ≤ s.speed.desired - s.scene.applied.content.speedStep ∨
      (s.loader.image.minimumChange : Int) ≤ s.scene.applied.content.speedStep - s.speed.desired ∨ s.speed.desired = 0) ∧
    s.speed.offerWaiting = false ∧ s.speed.spacingTimer = none ∧
    (∀ e, s.scene.pending.speedStep = some e → e.value ≠ s.speed.desired) ∧
    (∀ sc, s.scene.staged = some sc → sc.content.speedStep ≠ s.speed.desired) := by
  have source : s.speed.state ≠ .noSource ↔ s.speed.state = .fresh ∨ s.speed.state = .stale := by
    cases s.speed.state <;> simp
  have gap : (s.loader.image.minimumChange : Int) ≤ stepGap s.speed.desired s.scene.applied.content.speedStep ↔
      (s.loader.image.minimumChange : Int) ≤ s.speed.desired - s.scene.applied.content.speedStep ∨
        (s.loader.image.minimumChange : Int) ≤ s.scene.applied.content.speedStep - s.speed.desired := le_max_iff
  have pending : (match s.scene.pending.speedStep with
      | some e => decide (e.value ≠ s.speed.desired)
      | none => true) = true ↔ ∀ e, s.scene.pending.speedStep = some e → e.value ≠ s.speed.desired := by
    cases s.scene.pending.speedStep <;> simp
  have staged : (match s.scene.staged with
      | some sc => decide (sc.content.speedStep ≠ s.speed.desired)
      | none => true) = true ↔ ∀ sc, s.scene.staged = some sc → sc.content.speedStep ≠ s.speed.desired := by
    cases s.scene.staged <;> simp
  rw [← source, ← offersSpeed_iff, ← pending, ← staged, ← or_assoc, ← gap]
  unfold offerDue
  simp only [Bool.and_eq_true, Bool.or_eq_true, decide_eq_true_eq, Bool.not_eq_true', and_assoc] <;> rfl

/-! ### Staleness and the fall -/

/-- The offer check that may follow leaves the unit's record (R79). -/
theorem checkIfChanged_speed (before : Nat) (s : State) : (checkIfChanged before s).speed.state = s.speed.state ∧
    (checkIfChanged before s).speed.source = s.speed.source ∧ (checkIfChanged before s).speed.desired = s.speed.desired ∧
    (checkIfChanged before s).speed.fallTimer = s.speed.fallTimer := by
  unfold checkIfChanged; split <;> simp

theorem checkIfChanged_of_same {before : Nat} {s : State} (h : s.speed.desired = before) : checkIfChanged before s = s := if_pos h

section
variable {s : State} {r : SpeedSource} (hf : s.speed.state = .fresh) (hs : s.speed.source = some r)
include hf hs

theorem isOld_iff : s.speed.isOld = true ↔ 2000 ≤ r.age := by
  unfold SpeedUnit.isOld
  rw [hs]
  simp only [hf, ms, decide_true, Bool.true_and]
  exact decide_eq_true_iff

end

/-! ### The spacing timer -/

/-- With a free place the due offer is queued (R85, R86). -/
theorem queueSpeedOffer_waits {o : Offer} {s : State} (ha : admitsFrames s = true) (hp : s.link.placesHeld < 8) :
    (queueSpeedOffer o s).speed = { s.speed with offerWaiting := true, spacingTimer := some 1000 } ∧
    .offer o ∈ (queueSpeedOffer o s).link.bodies := by
  obtain ⟨waits, ended, -⟩ := give_waits (b := .offer o) hp rfl
  refine ⟨?_, by rw [queueSpeedOffer_link, ha]; exact waits⟩
  unfold queueSpeedOffer; dsimp only
  rw [ha, ended]
  rfl

/-- Settles O30. -/
theorem speedTimersAndOffers : Obligations.SpeedTimersAndOffers := by
  refine ⟨fun s o h => speedOffer_spec h, fun s => offerDue_iff, fun s => ⟨fun r hf hs ha => ?_, fun r hf hs ha => ?_,
    fun k hk hst => ⟨fun hp => ?_, fun hp => ?_⟩, fun k hk => ⟨fun hd => ?_, fun o hd ho hp => ?_⟩⟩⟩
  · rw [exec_effect, effect_speedStale, if_neg]
    rw [isOld_iff hf hs]; omega
  · refine ⟨_, exec_effect _ s, ?_⟩
    rw [effect_speedStale, if_pos ((isOld_iff hf hs).2 ha)]
    obtain ⟨state, source, desired, fall⟩ := checkIfChanged_speed s.speed.desired
      { s with speed := s.speed.goesStale s.loader.image.stalePolicy }
    rw [state, source, desired, fall]
    cases hpol : s.loader.image.stalePolicy with
    | hold => exact ⟨rfl, rfl, fun _ => ⟨rfl, rfl⟩, by simp, by simp⟩
    | zero => exact ⟨rfl, rfl, by simp, by simp, fun _ => rfl⟩
    | fall =>
      by_cases h0 : s.speed.desired = 0
      · simp [SpeedUnit.goesStale, h0]
      · simp [SpeedUnit.goesStale, h0, ms]
  · refine ⟨_, exec_effect _ s, ?_⟩
    rw [effect_fallTimerExpiry, if_pos (by rw [hk]; rfl)]
    obtain ⟨state, source, desired, fall⟩ := checkIfChanged_speed s.speed.desired
      { s with speed := s.speed.falls s.loader.image.stalePolicy }
    have falls : s.speed.falls s.loader.image.stalePolicy =
        { s.speed with desired := s.speed.desired - 1, fallTimer := if 1 < s.speed.desired then some (ms 1000) else none } := by
      unfold SpeedUnit.falls
      rw [hp, hst]
      simp only [← hst]
    rw [state, source, desired, fall, falls]
    exact ⟨rfl, rfl, rfl, rfl⟩
  · have falls : s.speed.falls s.loader.image.stalePolicy = { s.speed with fallTimer := none } := by
      unfold SpeedUnit.falls
      rcases hp with hp | hp <;> rw [hp]
    rw [exec_effect, effect_fallTimerExpiry, if_pos (by rw [hk]; rfl), falls,
      checkIfChanged_of_same (before := s.speed.desired) (s := { s with speed := { s.speed with fallTimer := none } }) rfl]
  · rw [exec_effect, effect_offerSpacingExpiry, if_pos (by rw [hk]; rfl), offerCheck_of_not_due hd]
  · refine ⟨_, exec_effect _ s, ?_⟩
    have admits : admitsFrames { s with speed := { s.speed with spacingTimer := none } } = true := by
      obtain ⟨-, -, station, -⟩ := offerDue_iff.1 hd
      have h : StationState.admits s.controller.station = true := by
        have := offersSpeed_iff.2 station
        revert this
        show offersSpeed s.controller.station = true → _
        cases s.controller.station <;> decide
      exact h
    have e : effect .offerSpacingExpiry s = queueSpeedOffer o { s with speed := { s.speed with spacingTimer := none } } := by
      have content : speedOffer { s with speed := { s.speed with spacingTimer := none } } = some o := ho
      rw [effect_offerSpacingExpiry, if_pos (by rw [hk]; rfl), offerCheck, if_pos hd, content]
    obtain ⟨speed, waits⟩ := queueSpeedOffer_waits (o := o) (s := { s with speed := { s.speed with spacingTimer := none } }) admits hp
    rw [e, speed]
    exact ⟨rfl, rfl, mem_bodies.1 waits⟩

end Sys2Proof.Machine
end

section
/-! PROOFS. A station fault that becomes active, rail-good, the controller's timers and the wake line (O40, O41, O42). -/

namespace Sys2Proof.Machine

/-! ### A station fault becomes active -/

/-- The state in which a fault that becomes active has its ALERT queued, before its action (R156, R160). -/
def raised (f : StationFault) (s : State) : State := queueAlert (.station f) .active (withDemand (markFault f) s)

/-- What follows the ALERT of a fault that becomes active (R124, R156, R181, R185, R186). -/
def faultAction : StationFault → State → State
  | .thermalShut => askShutdown
  | .railLow => askRailUp
  | .railHigh => placeAll .fault .hard
  | .numberConflict => askConflict
  | .thermalWarn | .railSag | .railFail | .eqMemory | .configBad => id

section
variable {f : StationFault} {s : State}

theorem raiseFault_of_active (h : s.protection.active.get f = true) : raiseFault f s = s := if_pos h

theorem raiseFault_of_inactive (h : s.protection.active.get f = false) : raiseFault f s = faultAction f (raised f s) := by
  unfold raiseFault
  rw [if_neg (by rw [h]; decide)]
  cases f <;> rfl

@[simp] theorem raised_protection (f : StationFault) (s : State) :
    (raised f s).protection.active = s.protection.active.set f true ∧
    (raised f s).protection.sticky = s.protection.sticky.set f true ∧
    (raised f s).protection.conditions = s.protection.conditions := by
  simp [raised, markFault]

@[simp] theorem raised_keeps (f : StationFault) (s : State) : (raised f s).controller = s.controller ∧
    (raised f s).pins = s.pins ∧ (raised f s).loader = s.loader ∧ (raised f s).scene = s.scene ∧
    (raised f s).peers = s.peers := by
  simp [raised, markFault]

theorem raised_waits (h : queueHasPlace s) : .alert ⟨.station f, .active⟩ ∈ (raised f s).link.bodies :=
  (giveFrame_waits (b := .alert ⟨.station f, .active⟩) (s := withDemand (markFault f) s)
    (queueHasPlace_congr (s := s) (by simp [markFault]) (by simp [markFault]) h)
    (sceneInTransmission_of_notScene (by simp [FrameBody.kind]) _)).2.1

end

theorem alertWaits_finish {a : Alert} {s : State} (h : .alert a ∈ s.link.bodies) : alertWaits a (finish s) :=
  mem_bodies.1 ((mem_bodies_finish (by simp [FrameBody.kind])).2 h)

/-- A command that leaves the queue, but for what its end refreshes, queues no ALERT. -/
theorem noAlertQueued_finish {s t : State} (h : t.link = s.link) : noAlertQueued s (finish t) :=
  noAlertQueued_of_waitsWithin ((waitsWithin_quietOn (k := .alert) (by decide) _).finish (by rw [h]; exact waitsWithin_bodies _ _))

/-! ### The RAIL claim as the station leaves READY -/

theorem RampRecord.place_hard_claim (hold : Nat) (c : Claim) (r : RampRecord) :
    (r.place hold c .hard).record.claims.get c = some .hard := by
  obtain ⟨absent, present, -⟩ := placementKeepsTheStrongerKind hold c .hard r
  cases h : r.claims.get c with
  | none => rw [(absent h).2]; cases c <;> rfl
  | some held =>
    cases held with
    | hard => rw [(present _ h).1 (.inl rfl), h]
    | soft => rw [((present _ h).2 (by simp)).2]; cases c <;> rfl
    | duckHold => rw [((present _ h).2 (by simp)).2]; cases c <;> rfl

theorem claimHard_windowInvariant {c : Claim} (hc : c ≠ .fault) (n : Channel) :
    WindowInvariant fun s => (s.ramps.get n).claims.get c = some .hard :=
  rampAt_windowInvariant n (Q := fun r => r.claims.get c = some .hard) (fun hold t cls r h => by rw [take_claims]; exact h)
    fun {r} h => by rw [remove_get, if_neg hc]; exact h

/-- To the channels, entering RAIL_UP is leaving READY and the closing of the rail window. -/
theorem enterRailUp_ramps (s : State) : (enterRailUp s).ramps = (closeWindow (railRising (leaveReady .hard s))).ramps := by
  unfold enterRailUp railRising; dsimp only
  split <;> simp

theorem enterRailUp_railClaim {s : State} (h : s.controller.station = .ready) (n : Channel) :
    ((enterRailUp s).ramps.get n).claims.rail = some .hard := by
  have placed : ((railRising (leaveReady .hard s)).ramps.get n).claims.get .rail = some .hard := by
    unfold railRising leaveReady
    rw [if_pos h]
    simp only [placeAll_get, RampRecord.place_hard_claim]
  rw [enterRailUp_ramps]
  exact (claimHard_windowInvariant (c := .rail) (by decide) n).closeWindow placed

/-- Out of another state entering RAIL_UP places and removes no claim but FAULT. -/
theorem enterRailUp_unclaimed {c : Claim} (hc : c ≠ .fault) {n : Channel} {s : State} (hs : s.controller.station ≠ .ready)
    (h : (s.ramps.get n).claims.get c = none) : ((enterRailUp s).ramps.get n).claims.get c = none := by
  rw [enterRailUp_ramps, leaveReady_of_not_ready hs]
  exact (rampAt_windowInvariant n (Q := fun r => r.claims.get c = none) (fun hold t cls r h => by rw [take_claims]; exact h)
    fun {r} h => by rw [remove_get, if_neg hc]; exact h).closeWindow (s := railRising s) h

theorem finish_enterRailUp (s : State) : finish (enterRailUp s) = refreshPresence (enterRailUp s) := by
  refine finish_of_not_railDown ?_
  rw [enterRailUp_controller]
  obtain e | e := railUpEnd_cases s <;> simp [e]

/-! ### Rail-good -/

/-- Settles O40. -/
theorem railGoodArrivesOrIsLost : Obligations.RailGoodArrivesOrIsLost := by
  refine fun s => ⟨fun k hs hk => ⟨_, exec_effect _ s, ?_⟩, fun hs => ?_, fun hs hr hl => ⟨_, exec_effect _ s, ?_⟩, fun hr => ?_⟩
  · rw [effect_railGoodArrival]; dsimp only
    rw [if_pos ⟨hs, by rw [hk]; rfl⟩, finish_of_not_railDown (by simp [enterStabilising])]
    simp [enterStabilising, unmarkFault, PerFault.set, ms]
  · rw [exec_effect, effect_railGoodArrival]; dsimp only
    rw [if_neg fun h => hs h.1]
  · have open_ : railWindow s = true := by rcases hs with hs | hs <;> simp [railWindow, railEnable, hs, hr]
    generalize hu : lowPresent { s with pins := { s.pins with railGood := false } } = u
    have u_keeps : u.controller = s.controller ∧ u.pins.railGood = false ∧ u.link = s.link ∧ u.protection.active = s.protection.active := by
      rw [← hu]; exact ⟨rfl, rfl, rfl, rfl⟩
    obtain ⟨u_controller, u_pins, u_link, u_active⟩ := u_keeps
    have asked : raiseFault .railLow u = enterRailUp (raised .railLow u) := by
      rw [raiseFault_of_inactive (by rw [u_active]; exact hl)]
      unfold faultAction askRailUp; dsimp only
      rcases hs with hs | hs <;> simp [u_controller, hs]
    have down : railUpEnd (raised .railLow u) = .railUp := by simp [railUpEnd, u_pins]
    rw [effect_railGoodLoss]; dsimp only
    rw [if_pos open_, hu, asked]
    refine ⟨?_, ?_, ?_, ?_, ?_, ?_, ?_, fun hq => ?_, fun hready n => ?_⟩
    · simp [enterRailUp_controller, down]
    · rw [finish_enterRailUp]; simp [enterRailUp_controller, u_pins]
    · simp [enterRailUp_controller, u_pins]
    · simp [enterRailUp_controller, u_pins]
    · simp [PerFault.set]
    · rw [finish_enterRailUp]; simp [enterRailUp_active, PerFault.set, u_pins]
    · simp [u_pins]
    · refine alertWaits_finish ?_
      rw [show (enterRailUp (raised .railLow u)).link = (raised .railLow u).link by simp]
      exact raised_waits (queueHasPlace_congr u_controller (by rw [u_link]) hq)
    · rw [finish_enterRailUp]
      have claim := enterRailUp_railClaim (s := raised .railLow u) (by simp [u_controller, hready]) n
      simpa using claim
  · have closed : railWindow s = false := by rcases hr with hr | hr <;> simp [railWindow, railEnable, hr]
    rw [exec_effect, effect_railGoodLoss]; dsimp only
    rw [if_neg (by rw [closed]; decide)]

/-! ### The controller's timers -/

/-- What the removal of the last claim, RAIL, leaves of a silent channel with a level target (R123). -/
theorem RampRecord.remove_last_rail {r : RampRecord} {l : Int} (hc : r.claims = { ClaimSet.empty with rail := some .hard })
    (hp : r.phase = .silent) (ht : r.target = .level l) :
    (r.remove .rail).phase = .open ∧ (r.remove .rail).currentGain = .level (-120) := by
  have held : r.claims.get .rail = some .hard := by rw [hc]; rfl
  have last : r.claims.set .rail none = .empty := by rw [hc]; rfl
  unfold RampRecord.remove
  rw [held]; dsimp only
  rw [if_pos last]
  unfold RampRecord.leaveSilence
  rw [hp, ht]
  exact ⟨rfl, rfl⟩

theorem finish_enterReady (s : State) : finish (enterReady s) = refreshPresence (enterReady s) :=
  finish_of_not_railDown (by simp [enterReady])

/-- Settles O41. -/
theorem controllerTimers : Obligations.ControllerTimers := by
  refine fun s k => ⟨fun hs hk => ⟨_, exec_effect _ s, ?_⟩, fun hs hk => ⟨_, exec_effect _ s, ?_⟩, fun hs hk => ⟨_, exec_effect _ s, ?_⟩,
    fun hs hk => ⟨_, exec_effect _ s, ?_⟩⟩
  · rw [effect_railGoodTimerExpiry, if_pos ⟨hs, by rw [hk]; rfl⟩]
    generalize hu : ({ s with controller := { s.controller with
      station := .quiet, rail := .off, railGoodTimer := none, railRetryTimer := some (ms 1000) } } : State) = u
    have failed : railFailed s = raiseFault .railFail u := by rw [← hu]; rfl
    have u_keeps : u.controller = { s.controller with
        station := .quiet, rail := .off, railGoodTimer := none, railRetryTimer := some (ms 1000) } ∧
        u.link = s.link ∧ u.protection.active = s.protection.active := by rw [← hu]; exact ⟨rfl, rfl, rfl⟩
    obtain ⟨u_controller, u_link, u_active⟩ := u_keeps
    have raise (h : s.protection.active.railFail = false) : raiseFault .railFail u = raised .railFail u :=
      raiseFault_of_inactive (by rw [u_active]; exact h)
    have stay (h : s.protection.active.railFail = true) : raiseFault .railFail u = u :=
      raiseFault_of_active (by rw [u_active]; exact h)
    have controller : (raiseFault .railFail u).controller = u.controller := by
      cases h : s.protection.active.railFail with
      | true => rw [stay h]
      | false => rw [raise h]; simp
    have active : (raiseFault .railFail u).protection.active.railFail = true := by
      cases h : s.protection.active.railFail with
      | true => rw [stay h, u_active, h]
      | false => rw [raise h]; simp [PerFault.set]
    rw [failed]
    refine ⟨?_, ?_, ?_, ?_, ?_, fun h hq => ?_, fun h => ?_⟩
    · simp [controller, u_controller]
    · rw [finish_of_not_railDown (by rw [controller, u_controller]; nofun)]; simp [controller, u_controller]
    · simp [controller, u_controller]
    · simp [controller, u_controller, ms]
    · rw [finish_of_not_railDown (by rw [controller, u_controller]; nofun)]; simpa using active
    · rw [raise h]
      refine alertWaits_finish (raised_waits ?_)
      rw [queueHasPlace, u_controller, u_link]
      exact ⟨nofun, nofun, nofun, hq.2.2.2⟩
    · rw [stay h]; exact noAlertQueued_finish u_link
  · rw [effect_railRetryTimerExpiry, if_pos ⟨hs, by rw [hk]; rfl⟩, finish_enterRailUp]
    simp [enterRailUp_controller]
  · rw [effect_stabiliseTimerExpiry, if_pos ⟨hs, by rw [hk]; rfl⟩, finish_enterReady]
    have ramps (n : Channel) : ((refreshPresence (enterReady s)).ramps.get n) = (s.ramps.get n).remove .rail := by
      rw [show (refreshPresence (enterReady s)).ramps = (enterReady s).ramps from rfl, enterReady, removeAll_get]
    refine ⟨by simp [enterReady], by simp [enterReady], fun n => ?_, fun n l hc hp ht => ?_⟩
    · rw [ramps]; exact remove_claim_self .rail _
    · rw [ramps]; exact RampRecord.remove_last_rail hc hp ht
  · rw [effect_downTimerExpiry, if_pos ⟨hs, by rw [hk]; rfl⟩]
    generalize hu : ({ s with controller := { s.controller with downTimer := none } } : State) = u
    have u_keeps : u.link = s.link ∧ u.scene = s.scene ∧ u.peers = s.peers := by rw [← hu]; exact ⟨rfl, rfl, rfl⟩
    obtain ⟨u_link, u_scene, u_peers⟩ := u_keeps
    obtain ⟨controller, link, cycle, presence, scene⟩ := enterResting_leaves u
    rw [finish_resting (by rw [controller])]
    refine ⟨by simp [controller], by simp [controller], by simp [controller], by simp [refreshPresence, link], by simpa using cycle,
      by simpa using presence, by simp [u_scene], by simp [link, u_link], fun hi => ?_, fun hi => ?_⟩
    · obtain ⟨due, entries⟩ := enterResting_empties (s := u) (by rw [u_link]; exact hi)
      rw [u_peers] at entries
      exact ⟨due, entries⟩
    · have deferred := enterResting_defers (s := u) (by rw [u_link]; exact hi)
      rw [u_peers] at deferred
      exact deferred

/-! ### The wake line -/

theorem leftResting_unclaimed {s : State} (h : s.controller.station = .resting) (n : Channel) :
    ((leftResting s).ramps.get n).claims.rest = none := by
  have removed : ((removeAll .rest s).ramps.get n).claims.get .rest = none := by rw [removeAll_get]; exact remove_claim_self _ _
  unfold leftResting; split
  · exact removed
  · exact enterRailUp_unclaimed (by decide) (by simp [h]) removed

/-- Settles O42. -/
theorem wakeLineRises : Obligations.WakeLineRises := by
  refine fun s => ⟨fun hs => ⟨_, exec_effect _ s, ?_⟩, fun hs => ⟨_, exec_effect _ s, ?_⟩, fun hs => ⟨_, exec_effect _ s, ?_⟩,
    fun hs => ⟨_, exec_effect _ s, ?_⟩⟩ <;> rw [effect_wakeLineRise] <;>
    generalize hu : withWakeLine true s = u <;>
    have u_pins : u.pins = { s.pins with wakeLine := true } := by rw [← hu]; rfl
  · have u_keeps : u.controller = s.controller ∧ u.protection = s.protection ∧ u.scene = s.scene ∧ u.peers = s.peers ∧
        u.loader = s.loader := by rw [← hu]; exact ⟨rfl, rfl, rfl, rfl, rfl⟩
    obtain ⟨u_controller, u_protection, u_scene, u_peers, u_loader⟩ := u_keeps
    have resting : u.controller.station = .resting := by rw [u_controller]; exact hs
    have e : takeWakeLine u = wake u := by unfold takeWakeLine; rw [resting]
    have up : railUpEnd u = railUpEnd s := by simp [railUpEnd, u_pins]
    rw [e, finish_of_not_railDown (wake_not_railDown resting)]
    refine ⟨?_, fun n => ?_, ?_, ?_, ?_, ?_, ?_⟩
    · simpa [up, u_protection] using wake_station resting
    · have claim := leftResting_unclaimed resting n
      rw [wake_of_resting resting]
      simpa using claim
    · simpa [u_loader] using wake_cycle resting
    · simp [u_controller]
    · simp [u_scene]
    · simp [u_peers]
    · simp [u_pins]
  · have u_controller : u.controller = s.controller := by rw [← hu]; rfl
    have down : u.controller.station = .railDown := by rw [u_controller]; exact hs
    have e : takeWakeLine u = enterRailUp (removeAll .rest u) := by unfold takeWakeLine; rw [down]; rfl
    have up : railUpEnd (removeAll .rest u) = railUpEnd s := by simp [railUpEnd, u_pins]
    rw [e, finish_enterRailUp]
    refine ⟨by simp [enterRailUp_controller, up], by simp [enterRailUp_controller], fun n => ?_, by simp [u_controller]⟩
    have removed : ((removeAll .rest u).ramps.get n).claims.get .rest = none := by rw [removeAll_get]; exact remove_claim_self _ _
    have claim := enterRailUp_unclaimed (c := .rest) (by decide) (by simp [down]) removed
    exact claim
  · have u_keeps : u.controller = s.controller ∧ u.protection = s.protection ∧ u.scene = s.scene := by
      rw [← hu]; exact ⟨rfl, rfl, rfl⟩
    obtain ⟨u_controller, u_protection, u_scene⟩ := u_keeps
    have conflict : u.controller.station = .conflict := by rw [u_controller]; exact hs
    have e : takeWakeLine u = freshStart u := by unfold takeWakeLine; rw [conflict]
    rw [e, finish_of_not_railDown (by simp [freshStart])]
    refine ⟨by simp [freshStart], by simp [freshStart], fun n => ?_, by simp [freshStart], by simp [freshStart, unmarkFault, PerFault.set],
      by simp [freshStart, u_protection], by simp [freshStart], by simp [freshStart, u_controller], by simp [u_scene]⟩
    have ramps : (refreshPresence (freshStart u)).ramps = (removeAll .conflict u).ramps := rfl
    rw [ramps, removeAll_get]
    exact remove_claim_self .conflict _
  · have u_controller : u.controller = s.controller := by rw [← hu]; rfl
    have e : takeWakeLine u = u := by
      unfold takeWakeLine
      rw [u_controller]
      rcases hs with hs | hs | hs | hs | hs | hs | hs <;> rw [hs]
    have up : u.controller.station ≠ .railDown := by
      rw [u_controller]
      rcases hs with hs | hs | hs | hs | hs | hs | hs <;> rw [hs] <;> decide
    rw [e, finish_of_not_railDown up, ← hu]
    exact ⟨rfl, rfl, rfl, rfl, rfl⟩

end Sys2Proof.Machine
end

section
/-! PROOFS. The sense slots and the conditions (O35). -/

namespace Sys2Proof.Machine

/-! ### Conditions -/

/-- The six rows of R145: two consecutive readings recognise a condition or clear it. -/
theorem advance_table (past recovered : Bool) :
    Condition.advance true recovered ⟨false, 0⟩ = (⟨false, 1⟩, .unchanged) ∧
    Condition.advance true recovered ⟨false, 1⟩ = (⟨true, 0⟩, .recognised) ∧
    (∀ count, Condition.advance false recovered ⟨false, count⟩ = (⟨false, 0⟩, .unchanged)) ∧
    Condition.advance past true ⟨true, 0⟩ = (⟨true, 1⟩, .unchanged) ∧
    Condition.advance past true ⟨true, 1⟩ = (⟨false, 0⟩, .cleared) ∧
    (∀ count, Condition.advance past false ⟨true, count⟩ = (⟨true, 0⟩, .unchanged)) :=
  ⟨rfl, rfl, fun _ => rfl, rfl, rfl, fun _ => rfl⟩

theorem advance_recognises {past recovered : Bool} {c : Condition} (h : c = ⟨false, 1⟩) (hp : past = true) :
    c.advance past recovered = (⟨true, 0⟩, .recognised) := by
  rw [h, hp]; exact (advance_table past recovered).2.1

theorem advance_clears {past recovered : Bool} {c : Condition} (h : c = ⟨true, 1⟩) (hr : recovered = true) :
    c.advance past recovered = (⟨false, 0⟩, .cleared) := by
  rw [h, hr]; exact (advance_table past recovered).2.2.2.2.1

/-! ### Slots -/

theorem railWindow_iff {s : State} : railWindow s = true ↔ windowOpen s := by
  have station : (match s.controller.station with
      | .stabilising | .ready | .railDown => true
      | .starting | .unconfigured | .quiet | .railUp | .resting | .shutdown | .conflict => false) = true ↔
      s.controller.station = .stabilising ∨ s.controller.station = .ready ∨ s.controller.station = .railDown := by
    cases s.controller.station <;> simp
  have enable : railEnable s = true ↔ railDriven s := by simp [railEnable, railDriven]
  rw [windowOpen, ← station, ← enable, ← Bool.and_eq_true]
  rfl

theorem slotChannel_offset {slot : Fin 10} {n : Channel} (h : slot.val = n.val + 2) : slotChannel slot = some n := by
  unfold slotChannel
  rw [dif_pos (by omega)]
  exact congrArg some (Fin.ext (by simp [h]))

theorem slot_cases (slot : Fin 10) : slot = 0 ∨ slot = 1 ∨ ∃ n : Channel, slot.val = n.val + 2 := by
  rcases Nat.lt_or_ge slot.val 2 with h | h
  · rcases Nat.lt_or_ge slot.val 1 with h' | h'
    · exact .inl (Fin.ext (by show slot.val = 0; omega))
    · exact .inr (.inl (Fin.ext (by show slot.val = 1; omega)))
  · exact .inr (.inr ⟨⟨slot.val - 2, by omega⟩, by show slot.val = slot.val - 2 + 2; omega⟩)

section
variable {v : Int} {s : State}

theorem judgeSlot_rail : judgeSlot 0 v s = if railWindow s then judgeRail v s else s := rfl

theorem judgeSlot_temperature : judgeSlot 1 v s = if judgesTemperature s then judgeTemperature v s else s := rfl

theorem judgeSlot_offset {slot : Fin 10} {n : Channel} (h : slot.val = n.val + 2) :
    judgeSlot slot v s = if railWindow s && inRoster s n then judgeOffset n (v.natAbs : Int) s else s := by
  unfold judgeSlot
  rw [slotChannel_offset h]

theorem effect_slot {slot : Fin 10} (h : s.protection.scan = some slot) :
    effect (.senseSlot v) s = finish (judgeSlot slot v (slotRead slot v s)) := by
  rw [effect_senseSlot, h]

/-- A reading outside the rail window, of a channel absent from the roster, or a temperature in UNCONFIGURED is not judged (R146). -/
theorem judgeSlot_unjudged {slot : Fin 10}
    (h : (slot ≠ 1 ∧ ¬windowOpen s) ∨ (∃ n : Channel, slot.val = n.val + 2 ∧ descriptorOf s.loader.image n = none) ∨
      (slot = 1 ∧ s.controller.station = .unconfigured)) : judgeSlot slot v s = s := by
  rcases h with ⟨hn, hw⟩ | ⟨n, hn, hd⟩ | ⟨h1, hu⟩
  · have closed : railWindow s = false := Bool.eq_false_of_not_eq_true fun h => hw (railWindow_iff.1 h)
    rcases slot_cases slot with h0 | h1 | ⟨n, h⟩
    · rw [h0, judgeSlot_rail, closed]; rfl
    · exact absurd h1 hn
    · rw [judgeSlot_offset h, closed]; rfl
  · have absent : inRoster s n = false := by simp [inRoster, hd]
    rw [judgeSlot_offset hn, absent, Bool.and_false]; rfl
  · rw [h1, judgeSlot_temperature, judgesTemperature, hu]; rfl

end

/-- Settles O35. -/
theorem senseSlotsAndConditions : Obligations.SenseSlotsAndConditions := by
  refine ⟨advance_table, fun v s => ⟨fun slot hs => ⟨_, exec_effect _ s, ?_⟩, fun hs => ?_⟩⟩
  · have kept : (finish (judgeSlot slot v (slotRead slot v s))).protection.readings = s.protection.readings.keep slot v := by
      simp [slotRead]
    rw [effect_slot hs]
    refine ⟨by simp [slotRead], fun h => ?_, fun h => ?_, fun n hn => ?_, fun h hk => ?_⟩
    · rw [kept, h]; rfl
    · rw [kept, h]; rfl
    · rw [kept, Readings.keep, slotChannel_offset hn]
    · rw [judgeSlot_unjudged (s := slotRead slot v s) h] at hk ⊢
      rw [finish_of_railKept (s := s) (by simp [slotRead]) hk]
      rfl
  · rw [exec_effect, effect_senseSlot, hs]

end Sys2Proof.Machine
end

section
/-! PROOFS. A fault that silences its channel, and the overcurrent flag (O38). -/

namespace Sys2Proof.Machine

/-! ### The FAULT claim placed on one channel -/

theorem place_of_engaging {hold : Nat} {c : Claim} {k : SilencingKind} {r : RampRecord} (h : placementEngages c k r = true) :
    (r.place hold c k).record = ({ r with claims := r.claims.set c (some k) }).engage hold k := by
  rw [RampRecord.place, if_pos h]

/-- FAULT placed on a sounding channel tells of its silence exactly when it silences it (R125). -/
theorem place_fault_notice {hold : Nat} {k : SilencingKind} {r : RampRecord} (hg : r.currentGain ≠ .silent) :
    (r.place hold .fault k).notice = true ↔ (r.place hold .fault k).record.currentGain = .silent := by
  unfold RampRecord.place
  split
  · have held : ((({ r with claims := r.claims.set .fault (some k) } : RampRecord).engage hold k)).claims.fault = some k := by
      rw [engage_claims]; rfl
    simp [silencedUnderFault, held, hg]
  · simp [hg]

/-- And on a silent one at once, when it joins or is raised (R125). -/
theorem place_fault_notice_of_silent {hold : Nat} {k : SilencingKind} {r : RampRecord} (hg : r.currentGain = .silent)
    (h : r.claims.fault = none) : (r.place hold .fault k).notice = true := by
  have engages : placementEngages .fault k r = true := by unfold placementEngages; simp only [ClaimSet.get, h]
  rw [RampRecord.place, if_pos engages]
  simp [hg]

/-- DUCK_HOLD silences no channel that sounds (R117, R119). -/
theorem place_duckHold_sounds {hold : Nat} {c : Claim} {r : RampRecord} (hg : r.currentGain ≠ .silent) :
    (r.place hold c .duckHold).record.currentGain = r.currentGain := by
  unfold RampRecord.place
  split
  · dsimp only
    generalize hv : ({ r with claims := r.claims.set c (some .duckHold) } : RampRecord) = v
    have gain : v.currentGain = r.currentGain := by rw [← hv]
    by_cases ho : v.phase = .open
    · rw [RampRecord.engage_duckHold_of_open hold ho, if_neg (by rw [gain]; exact hg), RampRecord.startDip_currentGain, gain]
    · rw [RampRecord.engage_duckHold_of_held hold ho, gain]
  · rfl

/-! ### The record of a channel at the end of a command -/

theorem descriptorOf_some {image : Image} {n : Channel} {d : RosterEntry} (h : descriptorOf image n = some d) :
    d ∈ image.roster ∧ d.channel = n :=
  ⟨List.mem_of_find?_eq_some h, by simpa using List.find?_some h⟩

/-- A record that no notice moves, or that of a channel that sounds, is left by the end of the command. -/
theorem finish_record {n : Channel} {d : RosterEntry} {s : State} (hd : descriptorOf s.loader.image n = some d)
    (h : ((∀ m, (s.protection.records.get n).silenced m = s.protection.records.get n) ∧
        (s.protection.records.get n).offsetClears = s.protection.records.get n) ∨ (s.ramps.get n).currentGain ≠ .silent) :
    (finish s).protection.records.get n = s.protection.records.get n := by
  rcases h with ⟨silenced, clears⟩ | sounds
  · exact (recordAt_windowInvariant n silenced clears).finish (s := s) rfl
  · obtain ⟨hm, hc⟩ := descriptorOf_some hd
    rw [finish_while_sounding (allSilent_eq_false_of_sounds hm (by rw [hc]; exact sounds))]
    simp

theorem take_of_silent {hold : Nat} {t : Gain} {cls : RateClass} {r : RampRecord} (hp : r.phase = .silent) :
    (r.take hold t cls).record = { r with target := t, rateClass := cls } := by
  unfold RampRecord.take; rw [hp]

/-- A channel silent under a HARD FAULT claim that its record has a reason for. -/
def silentByFault (n : Channel) (s : State) : Prop :=
  channelReason (s.protection.records.get n) = true ∧ (s.ramps.get n).phase = .silent ∧
    (s.ramps.get n).currentGain = .silent ∧ (s.ramps.get n).claims.fault = some .hard

/-- It stays so through the release of the rail: targets move no silent channel, and the claim goes with its last reason alone. -/
theorem silentByFault_windowInvariant (n : Channel) : WindowInvariant (silentByFault n) := by
  have hand : HandInvariant (silentByFault n) :=
    { frame := fun hst h => by
        simp only [channelState, Prod.mk.injEq] at hst
        unfold silentByFault
        rw [hst.1, hst.2.1]
        exact h
      hand := fun cause s d _ h => by
        unfold handTarget; dsimp only; split
        · exact h
        · obtain ⟨reason, phase, gain, claim⟩ := h
          refine ⟨?_, ?_⟩
          · rw [applyRamp_records]; split
            next hn => rw [channelReason_silenced, ← hn.1]; exact reason
            next => exact reason
          · rw [applyRamp_get]; split
            next hn =>
              subst hn
              rw [take_of_silent (r := s.ramps.get d.channel) phase]
              exact ⟨phase, gain, claim⟩
            next => exact ⟨phase, gain, claim⟩ }
  refine { hand with clearHigh := fun {s} h => ?_, offsets := fun {s} b h => ?_ }
  · unfold clearRailFault; dsimp only
    split
    · refine foldl_invariant (P := silentByFault n) (hand.withDemand (f := unmarkFault .railHigh) h) (fun t m ht => ?_) allChannels
      unfold releaseFaultClaim
      split
      · exact ht
      next hr =>
        have hm : n ≠ m := fun e => hr (by rw [← e, ht.1]; rfl)
        unfold silentByFault
        rw [removeClaim_get, if_neg hm]
        exact ht
    · exact h
  · refine ⟨?_, h.2⟩
    simp only [clearOffsets, PerChannel.get_of]
    split
    · rw [channelReason_offsetClears]; exact h.1
    · exact h.1

/-! ### What silences and what reports -/

section
variable {fault : ChannelFault} {kind : SilencingKind} {destination : RecordState} {n : Channel} {s : State}

/-- The state that a fault takes its channel's record to (R149, R150). -/
def strikeState (kind : SilencingKind) (destination : RecordState) (r : RampRecord) : RecordState :=
  if kind = .duckHold ∧ r.currentGain ≠ .silent then .ducking else destination

/-- The record as the fault leaves it, before the notice of a channel that falls silent (R151). -/
def strikeRecord (fault : ChannelFault) (kind : SilencingKind) (destination : RecordState) (n : Channel) (s : State) : FaultRecord :=
  { s.protection.records.get n with
    state := strikeState kind destination (s.ramps.get n), lastFault := some fault
    retryTimer := if strikeState kind destination (s.ramps.get n) = .retryWait ∧ (s.ramps.get n).currentGain = .silent then some 800
      else (s.protection.records.get n).retryTimer }

theorem silenceChannel_eq : silenceChannel fault kind destination n s =
    placeClaim .fault kind n (queueAlert (.channel fault n) (.record (strikeState kind destination (s.ramps.get n)))
      (s.setRecord n (strikeRecord fault kind destination n s))) := by
  have state : (if kind = .duckHold ∧ ¬decide ((s.ramps.get n).currentGain = .silent) = true then RecordState.ducking else destination) =
      strikeState kind destination (s.ramps.get n) := by
    unfold strikeState
    simp only [decide_eq_true_eq, ne_eq]
  unfold silenceChannel; dsimp only
  rw [state]
  simp only [decide_eq_true_eq, ms]
  rfl

theorem silenceChannel_record : (silenceChannel fault kind destination n s).protection.records.get n =
    if ((s.ramps.get n).place s.loader.image.duckHold .fault kind).notice = true then
      (strikeRecord fault kind destination n s).silenced s.loader.image.protection.overcurrentMode
    else strikeRecord fault kind destination n s := by
  rw [silenceChannel_eq, placeClaim, applyRamp_records]
  simp [State.setRecord]

theorem silenceChannel_ramps (m : Channel) : (silenceChannel fault kind destination n s).ramps.get m =
    if m = n then ((s.ramps.get n).place s.loader.image.duckHold .fault kind).record else s.ramps.get m := by
  rw [silenceChannel_eq, placeClaim, applyRamp_get]
  simp [State.setRecord]

theorem silenceChannel_waits (h : queueHasPlace s) :
    .alert ⟨.channel fault n, .record (strikeState kind destination (s.ramps.get n))⟩ ∈
      (silenceChannel fault kind destination n s).link.bodies := by
  rw [silenceChannel_eq]
  have waits := (giveFrame_waits (b := .alert ⟨.channel fault n, .record (strikeState kind destination (s.ramps.get n))⟩)
    (s := s.setRecord n (strikeRecord fault kind destination n s)) h (sceneInTransmission_of_notScene (by simp [FrameBody.kind]) _)).2.1
  simpa [queueAlert] using waits

/-- A record LATCHED, or REPORTED for another fault than DC_OFFSET, is moved by no notice. -/
theorem silenced_of_latched {r : FaultRecord} (h : r.state = .latched) : (∀ m, r.silenced m = r) ∧ r.offsetClears = r := by
  refine ⟨fun m => ?_, ?_⟩
  · unfold FaultRecord.silenced; rw [h]
  · unfold FaultRecord.offsetClears; rw [h]; exact if_neg (by simp)

theorem silenced_of_waiting {r : FaultRecord} {k : Nat} (h : r.state = .retryWait) (ht : r.retryTimer = some k) :
    (∀ m, r.silenced m = r) ∧ r.offsetClears = r := by
  refine ⟨fun m => ?_, ?_⟩
  · unfold FaultRecord.silenced; rw [h, ht]; simp
  · unfold FaultRecord.offsetClears; rw [h]; exact if_neg (by simp)

theorem silenced_of_reported {r : FaultRecord} (h : r.state = .reported) (hl : r.lastFault ≠ some .dcOffset) :
    (∀ m, r.silenced m = r) ∧ r.offsetClears = r := by
  refine ⟨fun m => ?_, ?_⟩
  · unfold FaultRecord.silenced; rw [h]
  · exact if_neg fun e => hl e.2

/-- A strike silences by FAULT or leaves the channel sounding, so that the end of the command leaves its record (R149 to R151). -/
theorem finish_struck {d : RosterEntry} (hd : descriptorOf s.loader.image n = some d)
    (hs : destination = .latched ∨ destination = .retryWait) (ht : (s.protection.records.get n).retryTimer = none) :
    (finish (silenceChannel fault kind destination n s)).protection.records.get n =
      { s.protection.records.get n with
        state := strikeState kind destination (s.ramps.get n), lastFault := some fault
        retryTimer := if strikeState kind destination (s.ramps.get n) = .retryWait ∧ ((s.ramps.get n).currentGain = .silent ∨
            ((s.ramps.get n).place s.loader.image.duckHold .fault kind).notice = true) then some 800 else none } := by
  have roster : descriptorOf (silenceChannel fault kind destination n s).loader.image n = some d := by simpa using hd
  have record := silenceChannel_record (fault := fault) (kind := kind) (destination := destination) (n := n) (s := s)
  have ramp := silenceChannel_ramps (fault := fault) (kind := kind) (destination := destination) (n := n) (s := s) n
  rw [if_pos rfl] at ramp
  generalize hp : (s.ramps.get n).place s.loader.image.duckHold .fault kind = placed at record ramp ⊢
  generalize he : strikeState kind destination (s.ramps.get n) = entered
  have struck : strikeRecord fault kind destination n s = { s.protection.records.get n with
      state := entered, lastFault := some fault
      retryTimer := if entered = .retryWait ∧ (s.ramps.get n).currentGain = .silent then some 800 else none } := by
    unfold strikeRecord; rw [he, ht]
  rw [struck] at record
  have after : (silenceChannel fault kind destination n s).protection.records.get n = { s.protection.records.get n with
      state := entered, lastFault := some fault
      retryTimer := if entered = .retryWait ∧ ((s.ramps.get n).currentGain = .silent ∨ placed.notice = true) then some 800 else none } ∧
      (entered = .latched ∨ (entered = .retryWait ∧ ((s.ramps.get n).currentGain = .silent ∨ placed.notice = true)) ∨
        placed.record.currentGain ≠ .silent) := by
    rw [record]
    by_cases hg : (s.ramps.get n).currentGain = .silent
    · have settled : entered = destination := by rw [← he]; exact if_neg fun h => h.2 hg
      rcases hs with hs | hs <;> rw [settled, hs]
      · rw [(silenced_of_latched rfl).1, ite_self]
        exact ⟨rfl, .inl rfl⟩
      · rw [(silenced_of_waiting (k := 800) rfl (if_pos ⟨rfl, hg⟩)).1, ite_self]
        exact ⟨by simp [hg], .inr (.inl ⟨rfl, .inl hg⟩)⟩
    · have notice : placed.notice = true ↔ placed.record.currentGain = .silent := by rw [← hp]; exact place_fault_notice hg
      by_cases hk : kind = .duckHold
      · have dips : entered = .ducking := by rw [← he]; exact if_pos ⟨hk, hg⟩
        have sounds : placed.record.currentGain ≠ .silent := by rw [← hp, hk, place_duckHold_sounds hg]; exact hg
        rw [if_neg fun h => sounds (notice.1 h), dips]
        exact ⟨by simp, .inr (.inr sounds)⟩
      · have settled : entered = destination := by rw [← he]; exact if_neg fun h => hk h.1
        rcases hs with hs | hs <;> rw [settled, hs]
        · rw [(silenced_of_latched rfl).1, ite_self]
          exact ⟨rfl, .inl rfl⟩
        · by_cases hn : placed.notice = true
          · rw [if_pos hn]
            exact ⟨by simp [FaultRecord.silenced, hg, hn, ms], .inr (.inl ⟨rfl, .inr hn⟩)⟩
          · rw [if_neg hn]
            exact ⟨by simp [hg, hn], .inr (.inr fun h => hn (notice.2 h))⟩
  obtain ⟨after, stays⟩ := after
  rw [finish_record roster ?_, after]
  rcases stays with hl | ⟨hw, hn⟩ | sounds
  · exact .inl (by rw [after]; exact silenced_of_latched hl)
  · exact .inl (by rw [after]; exact silenced_of_waiting (k := 800) hw (if_pos ⟨hw, hn⟩))
  · exact .inr (by rw [ramp]; exact sounds)

/-- A fault in mode REPORT (R150, R153, R160). -/
theorem reportFault_keeps_ramps : (reportFault fault n s).ramps = s.ramps ∧ (reportFault fault n s).protection.records.get n =
    { s.protection.records.get n with state := .reported, lastFault := some fault } := by
  unfold reportFault; dsimp only
  split <;> simp [State.setRecord]

theorem reportFault_waits (h : queueHasPlace s) (hr : (s.protection.records.get n).state ≠ .reported) :
    .alert ⟨.channel fault n, .record .reported⟩ ∈ (reportFault fault n s).link.bodies := by
  unfold reportFault; dsimp only
  rw [if_neg hr]
  exact (giveFrame_waits (b := .alert ⟨.channel fault n, .record .reported⟩)
    (s := s.setRecord n { s.protection.records.get n with state := .reported, lastFault := some fault }) h
    (sceneInTransmission_of_notScene (by simp [FrameBody.kind]) _)).2.1

theorem reportFault_quiet (hr : (s.protection.records.get n).state = .reported) : (reportFault fault n s).link = s.link := by
  unfold reportFault; dsimp only
  rw [if_pos hr]
  rfl

end

/-! ### The overcurrent flag -/

/-- Where in RAIL_DOWN something sounds on a driven rail, the command's end releases nothing (R183). -/
theorem finish_of_railDownSounds {s : State} (h : railDownSounds s) : finish s = refreshPresence s := by
  have kept : takeSilence s = s := if_neg fun ⟨hd, he, ha⟩ => by rw [h hd he] at ha; cases ha
  rw [finish, kept]

section
variable {n : Channel} {s : State}

/-- The state in which a counted overcurrent acts (R150). -/
def overcurrentCounted (n : Channel) (s : State) : State := s.setRecord n (s.protection.records.get n).overloaded

theorem overcurrentCounted_keeps : (overcurrentCounted n s).ramps = s.ramps ∧ (overcurrentCounted n s).loader = s.loader ∧
    (overcurrentCounted n s).controller = s.controller ∧ (overcurrentCounted n s).link = s.link ∧
    (overcurrentCounted n s).protection.records.get n = (s.protection.records.get n).overloaded := by
  simp [overcurrentCounted, State.setRecord]

theorem effect_overcurrent {d : RosterEntry} (hl : listening s) (hd : descriptorOf s.loader.image n = some d)
    (hm : s.loader.image.protection.overcurrentMode ≠ .ignore) : effect (.overcurrentFlag n) s = finish (takeOvercurrent n s) := by
  rw [effect_overcurrentFlag, if_pos ⟨unitListens_iff.2 hl, by simp [inRoster, hd], hm⟩]

theorem takeOvercurrent_fresh (h : (s.protection.records.get n).state = .clear ∨ (s.protection.records.get n).state = .reported) :
    takeOvercurrent n s = overcurrentStrikes n (overcurrentCounted n s) := by
  unfold takeOvercurrent; dsimp only
  rcases h with h | h <;> rw [h] <;> rfl

theorem takeOvercurrent_held (h : (s.protection.records.get n).state = .ducking ∨ (s.protection.records.get n).state = .retryWait ∨
    (s.protection.records.get n).state = .latched) : takeOvercurrent n s = overcurrentCounted n s := by
  unfold takeOvercurrent; dsimp only
  rcases h with h | h | h <;> rw [h] <;> rfl

theorem overcurrentStrikes_silences (h : s.loader.image.protection.overcurrentMode = .retry ∨
    s.loader.image.protection.overcurrentMode = .latch) : overcurrentStrikes n s =
      silenceChannel .overcurrent s.loader.image.protection.overcurrentKind
        (if s.loader.image.protection.overcurrentMode = .latch ∨ (s.protection.records.get n).retriesUsed = 4 then .latched
          else .retryWait) n s := by
  unfold overcurrentStrikes overcurrentDestination; dsimp only
  rcases h with h | h <;> rw [h]

/-- A HARD FAULT claim joins a coherent channel: it is silent, its record has a reason, and its notice has come. -/
theorem silenceChannel_hard {fault : ChannelFault} {destination : RecordState} (hs : destination = .latched ∨ destination = .retryWait)
    (hc : (s.ramps.get n).coherent) (hf : (s.ramps.get n).claims.fault = none) :
    silentByFault n (silenceChannel fault .hard destination n s) ∧
      ((s.ramps.get n).place s.loader.image.duckHold .fault .hard).notice = true := by
  obtain ⟨phase, claim⟩ := RampRecord.place_hard_silences (c := .fault) s.loader.image.duckHold (r := s.ramps.get n) hf
  have coherent : ((s.ramps.get n).place s.loader.image.duckHold .fault .hard).record.coherent := place_coherent _ _ _ hc
  have gain := coherent.2 phase
  have ramp := silenceChannel_ramps (fault := fault) (kind := .hard) (destination := destination) (n := n) (s := s) n
  rw [if_pos rfl] at ramp
  refine ⟨⟨?_, by rw [ramp]; exact phase, by rw [ramp]; exact gain, by rw [ramp]; exact claim⟩, ?_⟩
  · have reason : channelReason (strikeRecord fault .hard destination n s) = true := by
      have settled : strikeState .hard destination (s.ramps.get n) = destination := if_neg (by simp)
      unfold channelReason strikeRecord
      rw [settled]
      rcases hs with hs | hs <;> rw [hs]
    rw [silenceChannel_record]
    split
    · rw [channelReason_silenced]; exact reason
    · exact reason
  · by_cases hg : (s.ramps.get n).currentGain = .silent
    · exact place_fault_notice_of_silent hg hf
    · exact (place_fault_notice hg).2 gain

end

/-- Settles O38. -/
theorem overcurrentSilencesItsChannel : Obligations.OvercurrentSilencesItsChannel := by
  intro n d s p r hl hp hr hd
  subst hp hr
  obtain ⟨ramps, loader, controller, link, record⟩ := overcurrentCounted_keeps (n := n) (s := s)
  refine ⟨fun hm hs hfits placed destination entered hplaced hdest hentered => ⟨_, exec_effect _ s, ?_⟩,
    fun hm hs => ⟨_, exec_effect _ s, ?_⟩, fun hm hs => ⟨_, exec_effect _ s, ?_⟩, fun hm => ?_⟩
  · have destinations : destination = .latched ∨ destination = .retryWait := by rw [hdest]; split <;> simp
    have e : takeOvercurrent n s = silenceChannel .overcurrent s.loader.image.protection.overcurrentKind destination n
        (overcurrentCounted n s) := by
      rw [takeOvercurrent_fresh hs, overcurrentStrikes_silences (by rw [loader]; exact hm), loader, record, hdest]
      rfl
    have state : strikeState s.loader.image.protection.overcurrentKind destination ((overcurrentCounted n s).ramps.get n) = entered := by
      rw [ramps, hentered]; rfl
    rw [effect_overcurrent hl hd (by rcases hm with hm | hm <;> rw [hm] <;> decide), e]
    refine ⟨?_, fun hk => ?_, fun hq => ?_, fun hkind hc hf => ?_⟩
    · rw [finish_struck (d := d) (by rw [loader]; exact hd) destinations (by
          rw [record]; exact hfits.2.2 (by rcases hs with hs | hs <;> rw [hs] <;> decide)), state, record, ramps, loader, ← hplaced]
      rfl
    · rw [finish_of_railKept (s := s) (by simp [controller]) hk]
      have ramp := silenceChannel_ramps (fault := .overcurrent) (kind := s.loader.image.protection.overcurrentKind)
        (destination := destination) (n := n) (s := overcurrentCounted n s) n
      rw [if_pos rfl, ramps, loader, ← hplaced] at ramp
      exact ramp
    · have waits := silenceChannel_waits (fault := .overcurrent) (kind := s.loader.image.protection.overcurrentKind)
        (destination := destination) (n := n) (queueHasPlace_congr (t := overcurrentCounted n s) controller (by rw [link]) hq)
      rw [state] at waits
      exact alertWaits_finish waits
    · rw [hkind]
      obtain ⟨silent, notice⟩ := silenceChannel_hard (fault := .overcurrent) (n := n) (s := overcurrentCounted n s) destinations
        (by rw [ramps]; exact hc) (by rw [ramps]; exact hf)
      obtain ⟨-, phase, gain, claim⟩ := (silentByFault_windowInvariant n).finish silent
      refine ⟨claim, phase, gain, fun _ => ?_, fun hdown hdriven hothers => ?_⟩
      · rw [hplaced, hkind]
        rw [ramps, loader] at notice
        exact notice
      · refine finish_released (by simpa [controller] using hdown) (by simpa [railDriven, controller] using hdriven)
          (List.all_eq_true.2 fun e he => decide_eq_true ?_)
        rw [silenceChannel_ramps, ramps]
        split
        next hn =>
          have own := silent.2.2.1
          rw [silenceChannel_ramps, if_pos rfl, ramps] at own
          exact own
        next hn => exact hothers e (by simpa [loader] using he) hn
  · have e : takeOvercurrent n s = reportFault .overcurrent n (overcurrentCounted n s) := by
      rw [takeOvercurrent_fresh hs]
      unfold overcurrentStrikes; dsimp only
      rw [loader, hm]
    obtain ⟨still, reported⟩ := reportFault_keeps_ramps (fault := .overcurrent) (n := n) (s := overcurrentCounted n s)
    rw [record] at reported
    rw [effect_overcurrent hl hd (by rw [hm]; decide), e]
    refine ⟨?_, fun hk => ?_, fun hc hq => ?_, fun hrep => ?_⟩
    · rw [finish_record (d := d) (by simpa [loader] using hd) (.inl (by rw [reported]; exact silenced_of_reported rfl (by simp))), reported]
      rfl
    · rw [finish_of_railKept (s := s) (by simp [controller]) hk]
      exact still.trans ramps
    · exact alertWaits_finish (reportFault_waits (queueHasPlace_congr (t := overcurrentCounted n s) controller (by rw [link]) hq)
        (by rw [record]; show (s.protection.records.get n).state ≠ .reported; rw [hc]; decide))
    · exact noAlertQueued_finish ((reportFault_quiet (by rw [record]; exact hrep)).trans link)
  · rw [effect_overcurrent hl hd hm, takeOvercurrent_held hs]
    refine ⟨noAlertQueued_finish link, fun hsounds hdown => ?_, fun hk => ?_⟩
    · rw [finish_of_railDownSounds (railDownSounds_frame (t := overcurrentCounted n s) ramps controller (by rw [loader]) hsounds)]
      exact congrArg Controller.rail controller
    · rw [finish_of_railKept (s := s) controller hk]
      exact ⟨ramps, record⟩
  · rw [exec_effect, effect_overcurrentFlag, if_neg fun h => h.2.2 hm]

end Sys2Proof.Machine
end

section
/-! PROOFS. The offset conditions (O37). -/

namespace Sys2Proof.Machine

section
variable {fault : ChannelFault} {kind : SilencingKind} {n : Channel} {s : State}

/-- A strike toward LATCHED leaves no notice to wait for: a channel that dips sounds on (R149, R153). -/
theorem silenceChannel_latched_record : (silenceChannel fault kind .latched n s).protection.records.get n =
    { s.protection.records.get n with state := strikeState kind .latched (s.ramps.get n), lastFault := some fault } := by
  have never : strikeState kind .latched (s.ramps.get n) ≠ .retryWait := by unfold strikeState; split <;> simp
  have struck : strikeRecord fault kind .latched n s =
      { s.protection.records.get n with state := strikeState kind .latched (s.ramps.get n), lastFault := some fault } := by
    unfold strikeRecord
    rw [if_neg fun h => never h.1]
  rw [silenceChannel_record, struck]
  split
  next hn =>
    refine (silenced_of_latched ?_).1 _
    refine if_neg fun h => h.2 ?_
    by_contra hg
    have silent := (place_fault_notice hg).1 hn
    rw [h.1, place_duckHold_sounds hg] at silent
    exact hg silent
  · rfl

/-- The state in which a dip taken over by DC_OFFSET has its ALERT queued, before the claim (R153, R160). -/
def dipTaken (n : Channel) (s : State) : State :=
  if (s.protection.records.get n).lastFault = some .dcOffset then
    s.setRecord n { s.protection.records.get n with lastFault := some .dcOffset }
  else queueAlert (.channel .dcOffset n) (.record .ducking) (s.setRecord n { s.protection.records.get n with lastFault := some .dcOffset })

theorem offsetOnDip_eq : offsetOnDip kind n s = placeClaim .fault kind n (dipTaken n s) := rfl

theorem dipTaken_keeps : (dipTaken n s).ramps = s.ramps ∧ (dipTaken n s).loader = s.loader ∧
    (dipTaken n s).protection.records.get n = { s.protection.records.get n with lastFault := some .dcOffset } := by
  unfold dipTaken; split <;> simp [State.setRecord]

theorem offsetOnDip_ramps (m : Channel) : (offsetOnDip kind n s).ramps.get m =
    if m = n then ((s.ramps.get n).place s.loader.image.duckHold .fault kind).record else s.ramps.get m := by
  obtain ⟨ramps, loader, -⟩ := dipTaken_keeps (n := n) (s := s)
  rw [offsetOnDip_eq, placeClaim, applyRamp_get, ramps, loader]

/-- A dip led by DC_OFFSET goes on to LATCHED when the channel falls silent (R151, R153). -/
theorem offsetOnDip_record (h : (s.protection.records.get n).state = .ducking) :
    (offsetOnDip kind n s).protection.records.get n = { s.protection.records.get n with
      state := if ((s.ramps.get n).place s.loader.image.duckHold .fault kind).notice then .latched else .ducking
      lastFault := some .dcOffset } := by
  obtain ⟨ramps, loader, record⟩ := dipTaken_keeps (n := n) (s := s)
  rw [offsetOnDip_eq, placeClaim, applyRamp_records, ramps, loader, record]
  cases ((s.ramps.get n).place s.loader.image.duckHold .fault kind).notice
  · simp [h]
  · simp [FaultRecord.silenced, dipLeadsToLatched, h]

theorem offsetOnDip_waits (hq : queueHasPlace s) (h : (s.protection.records.get n).lastFault ≠ some .dcOffset) :
    .alert ⟨.channel .dcOffset n, .record .ducking⟩ ∈ (offsetOnDip kind n s).link.bodies := by
  have waits := (giveFrame_waits (b := .alert ⟨.channel .dcOffset n, .record .ducking⟩)
    (s := s.setRecord n { s.protection.records.get n with lastFault := some .dcOffset }) hq
    (sceneInTransmission_of_notScene (by simp [FrameBody.kind]) _)).2.1
  rw [offsetOnDip_eq, dipTaken, if_neg h]
  simpa [queueAlert] using waits

theorem offsetOnDip_quiet (h : (s.protection.records.get n).lastFault = some .dcOffset) : (offsetOnDip kind n s).link = s.link := by
  rw [offsetOnDip_eq, dipTaken, if_pos h]
  simp [State.setRecord]

theorem offsetOnWait_ramps (m : Channel) : (offsetOnWait kind n s).ramps.get m =
    if m = n then ((s.ramps.get n).place s.loader.image.duckHold .fault kind).record else s.ramps.get m := by
  unfold offsetOnWait placeClaim; dsimp only
  rw [applyRamp_get]
  simp [State.setRecord]

theorem offsetOnWait_record : (offsetOnWait kind n s).protection.records.get n =
    { s.protection.records.get n with state := .latched, lastFault := some .dcOffset, retryTimer := none } := by
  unfold offsetOnWait placeClaim; dsimp only
  rw [applyRamp_records]
  split
  · rw [(silenced_of_latched _).1] <;> simp [State.setRecord]
  · simp [State.setRecord]

theorem offsetOnWait_waits (hq : queueHasPlace s) :
    .alert ⟨.channel .dcOffset n, .record .latched⟩ ∈ (offsetOnWait kind n s).link.bodies := by
  have waits := (giveFrame_waits (b := .alert ⟨.channel .dcOffset n, .record .latched⟩)
    (s := s.setRecord n { s.protection.records.get n with state := .latched, lastFault := some .dcOffset, retryTimer := none }) hq
    (sceneInTransmission_of_notScene (by simp [FrameBody.kind]) _)).2.1
  unfold offsetOnWait; dsimp only
  simpa [queueAlert] using waits

/-! ### What an offset reading touches -/

theorem placeClaim_other {m : Channel} (h : m ≠ n) (c : Claim) : channelView m (placeClaim c kind n s) = channelView m s :=
  applyRamp_other h _ _

theorem latchOffset_other {m : Channel} (h : m ≠ n) : channelView m (latchOffset kind n s) = channelView m s := by
  unfold latchOffset
  split
  · exact silenceChannel_other h _ _ _ _
  · exact silenceChannel_other h _ _ _ _
  · rw [offsetOnDip_eq, placeClaim_other h, dipTaken]
    split
    · exact setRecord_other h _ _
    · rw [queueAlert, giveFrame_channelView, setRecord_other h]
  · unfold offsetOnWait; dsimp only
    rw [placeClaim_other h, queueAlert, giveFrame_channelView, setRecord_other h]
  · rfl

theorem reportOffset_other {m : Channel} (h : m ≠ n) : channelView m (reportOffset n s) = channelView m s := by
  unfold reportOffset; split
  any_goals exact reportFault_other h _ _
  all_goals rfl

theorem judgeOffset_other {m : Channel} (h : m ≠ n) (v : Int) : channelView m (judgeOffset n v s) = channelView m s := by
  unfold judgeOffset offsetRecognised; dsimp only
  split
  · rfl
  · split
    · rw [latchOffset_other h, setRecord_other h]; rfl
    · rw [reportOffset_other h, setRecord_other h]; rfl
    · rfl
  · rw [setRecord_other h]; rfl

end

/-! ### The second reading -/

section
variable {n : Channel} {s : State}

/-- The state in which a recognised DC_OFFSET has been counted (R148, R153). -/
def offsetCounted (n : Channel) (s : State) : State := s.setRecord n (s.protection.records.get n).struck

theorem offsetCounted_keeps : (offsetCounted n s).ramps = s.ramps ∧ (offsetCounted n s).loader = s.loader ∧
    (offsetCounted n s).controller = s.controller ∧ (offsetCounted n s).link = s.link ∧
    (offsetCounted n s).protection.records.get n = (s.protection.records.get n).struck := by
  simp [offsetCounted, State.setRecord]

theorem judgeOffset_recognised {v : Int} (hc : s.protection.conditions.offset.get n = ⟨false, 1⟩)
    (hv : s.loader.image.protection.offsetThreshold < v) : judgeOffset n v s = offsetRecognised n (s.setOffset n ⟨true, 0⟩) := by
  unfold judgeOffset; dsimp only
  rw [advance_recognises hc (by simpa using hv)]

theorem judgeOffset_cleared {v : Int} (hc : s.protection.conditions.offset.get n = ⟨true, 1⟩)
    (hv : 2 * v ≤ s.loader.image.protection.offsetThreshold) : judgeOffset n v s =
      (s.setOffset n ⟨false, 0⟩).setRecord n (s.protection.records.get n).offsetClears := by
  unfold judgeOffset; dsimp only
  rw [advance_clears hc (by simpa using (by omega : v ≤ s.loader.image.protection.offsetThreshold / 2))]
  rfl

end

/-- Settles O37. -/
theorem offsetFaultsFollowTheTable : Obligations.OffsetFaultsFollowTheTable := by
  intro n d v s slot p r hp hr hs hslot hw hd
  subst hp hr
  refine ⟨_, exec_effect _ s, fun hk => ?_⟩
  have judged : judgeSlot slot v (slotRead slot v s) = judgeOffset n v.natAbs (slotRead slot v s) := by
    have open_ : railWindow (slotRead slot v s) = true := railWindow_iff.2 hw
    have present : inRoster (slotRead slot v s) n = true := by simp [inRoster, slotRead, hd]
    rw [judgeSlot_offset hslot, open_, present]
    rfl
  rw [effect_slot hs, judged] at hk ⊢
  generalize hu : slotRead slot v s = u at hk ⊢
  have u_keeps : u.ramps = s.ramps ∧ u.loader = s.loader ∧ u.controller = s.controller ∧ u.link = s.link ∧
      u.protection.records = s.protection.records ∧ u.protection.conditions = s.protection.conditions := by
    rw [← hu]; exact ⟨rfl, rfl, rfl, rfl, rfl, rfl⟩
  obtain ⟨u_ramps, u_loader, u_controller, u_link, u_records, u_conditions⟩ := u_keeps
  have ends := finish_of_railKept (s := s) (by simp [u_controller]) hk
  have ramps : (finish (judgeOffset n v.natAbs u)).ramps = (judgeOffset n v.natAbs u).ramps := by rw [ends]; rfl
  have protection : (finish (judgeOffset n v.natAbs u)).protection = (judgeOffset n v.natAbs u).protection := by rw [ends]; rfl
  rw [ramps, protection]
  refine ⟨fun hc hv => ?_, fun hc hv => ?_, fun m hm => ?_⟩
  · rw [judgeOffset_recognised (s := u) (by rw [u_conditions]; exact hc) (by rw [u_loader]; exact hv)]
    generalize hx : u.setOffset n ⟨true, 0⟩ = x
    have x_keeps : x.ramps = s.ramps ∧ x.loader = s.loader ∧ x.controller = s.controller ∧ x.link = s.link ∧
        x.protection.records = s.protection.records ∧ x.protection.conditions.offset.get n = ⟨true, 0⟩ := by
      rw [← hx]; exact ⟨u_ramps, u_loader, u_controller, u_link, u_records, by simp [State.setOffset]⟩
    obtain ⟨x_ramps, x_loader, x_controller, x_link, x_records, x_condition⟩ := x_keeps
    obtain ⟨y_ramps, y_loader, y_controller, y_link, y_record⟩ := offsetCounted_keeps (n := n) (s := x)
    rw [x_ramps] at y_ramps
    rw [x_loader] at y_loader
    rw [x_controller] at y_controller
    rw [x_link] at y_link
    rw [x_records] at y_record
    have place (hq : queueHasPlace s) : queueHasPlace (offsetCounted n x) := queueHasPlace_congr y_controller (by rw [y_link]) hq
    have condition : (offsetRecognised n x).protection.conditions.offset.get n = ⟨true, 0⟩ := by simp [x_condition]
    refine ⟨condition, fun hm placed hplaced => ?_, fun hm => ?_, fun hm => ?_⟩
    · have e : offsetRecognised n x = latchOffset s.loader.image.protection.dcOffsetKind n (offsetCounted n x) := by
        unfold offsetRecognised; dsimp only
        rw [x_loader, hm]
        rfl
      rw [e]
      generalize hy : offsetCounted n x = y at *
      have state : (y.protection.records.get n).state = (s.protection.records.get n).state := by rw [y_record]; rfl
      refine ⟨fun hs entered he => ?_, fun hs => ?_, fun hs => ?_, fun hs => ?_⟩
      · have strikes : latchOffset s.loader.image.protection.dcOffsetKind n y =
            silenceChannel .dcOffset s.loader.image.protection.dcOffsetKind .latched n y := by
          unfold latchOffset
          rw [state]
          rcases hs with hs | hs <;> rw [hs]
        have settled : strikeState s.loader.image.protection.dcOffsetKind .latched (y.ramps.get n) = entered := by rw [he, y_ramps]; rfl
        rw [strikes]
        refine ⟨?_, ?_, fun hq => ?_⟩
        · rw [silenceChannel_latched_record, settled, y_record]; rfl
        · rw [silenceChannel_ramps, if_pos rfl, y_ramps, y_loader, hplaced]
        · rw [← settled]; exact alertWaits_finish (silenceChannel_waits (place hq))
      · have dips : latchOffset s.loader.image.protection.dcOffsetKind n y = offsetOnDip s.loader.image.protection.dcOffsetKind n y := by
          unfold latchOffset; rw [state, hs]
        have last : (y.protection.records.get n).lastFault = (s.protection.records.get n).lastFault := by rw [y_record]; rfl
        rw [dips]
        refine ⟨?_, ?_, fun hl hq => ?_, fun hl => ?_⟩
        · rw [offsetOnDip_record (by rw [state, hs]), y_ramps, y_loader, ← hplaced, y_record]; rfl
        · rw [offsetOnDip_ramps, if_pos rfl, y_ramps, y_loader, hplaced]
        · exact alertWaits_finish (offsetOnDip_waits (place hq) (by rw [last]; exact hl))
        · exact noAlertQueued_finish ((offsetOnDip_quiet (by rw [last]; exact hl)).trans y_link)
      · have waits : latchOffset s.loader.image.protection.dcOffsetKind n y = offsetOnWait s.loader.image.protection.dcOffsetKind n y := by
          unfold latchOffset; rw [state, hs]
        rw [waits]
        refine ⟨?_, ?_, fun hq => alertWaits_finish (offsetOnWait_waits (place hq))⟩
        · rw [offsetOnWait_record, y_record]; rfl
        · rw [offsetOnWait_ramps, if_pos rfl, y_ramps, y_loader, hplaced]
      · have stays : latchOffset s.loader.image.protection.dcOffsetKind n y = y := by unfold latchOffset; rw [state, hs]
        rw [stays]
        exact ⟨y_record, y_ramps, noAlertQueued_finish y_link⟩
    · have e : offsetRecognised n x = reportOffset n (offsetCounted n x) := by
        unfold offsetRecognised; dsimp only
        rw [x_loader, hm]
        rfl
      rw [e]
      generalize hy : offsetCounted n x = y at *
      have state : (y.protection.records.get n).state = (s.protection.records.get n).state := by rw [y_record]; rfl
      have fresh (h : (s.protection.records.get n).state = .clear ∨ (s.protection.records.get n).state = .reported) :
          reportOffset n y = reportFault .dcOffset n y := by
        unfold reportOffset
        rw [state]
        rcases h with h | h <;> rw [h]
      have held (h : (s.protection.records.get n).state = .ducking ∨ (s.protection.records.get n).state = .retryWait ∨
          (s.protection.records.get n).state = .latched) : reportOffset n y = y := by
        unfold reportOffset
        rw [state]
        rcases h with h | h | h <;> rw [h]
      refine ⟨by simp [y_ramps], fun h => ?_, fun h hq => ?_, fun h => ?_, fun h => by rw [held h]; exact y_record⟩
      · rw [fresh h, (reportFault_keeps_ramps (n := n)).2, y_record]; rfl
      · rw [fresh (.inl h)]
        exact alertWaits_finish (reportFault_waits (place hq) (by rw [state, h]; decide))
      · refine noAlertQueued_finish ?_
        by_cases hrep : (s.protection.records.get n).state = .reported
        · rw [fresh (.inr hrep), reportFault_quiet (by rw [state]; exact hrep)]; exact y_link
        · rw [held (by cases hst : (s.protection.records.get n).state <;> simp_all)]; exact y_link
    · have e : offsetRecognised n x = x := by
        unfold offsetRecognised; dsimp only
        rw [x_loader, hm]
      rw [e]
      exact ⟨x_ramps, x_records, noAlertQueued_finish x_link⟩
  · rw [judgeOffset_cleared (s := u) (by rw [u_conditions]; exact hc) (by rw [u_loader]; exact hv)]
    refine ⟨by simp [State.setRecord, State.setOffset], u_ramps, ?_⟩
    rw [u_records]
    simp [State.setRecord, FaultRecord.offsetClears]
  · have view := judgeOffset_other (s := u) hm v.natAbs
    simp only [channelView, Prod.mk.injEq] at view
    rw [u_ramps, u_records] at view
    exact view

end Sys2Proof.Machine
end

section
/-! PROOFS. The demands and the clip flag (O39). -/

namespace Sys2Proof.Machine

/-! ### The demands -/

/-- The greatest of some demands is no less than any of them, and is one of them. -/
theorem greatestOf_spec (d : Nat) (l : List PeerEntry) : d ≤ greatestOf d l ∧
    (∀ e ∈ l, ∀ k, countedDemand e = some k → k ≤ greatestOf d l) ∧
    (greatestOf d l = d ∨ ∃ e ∈ l, countedDemand e = some (greatestOf d l)) := by
  induction l with
  | nil => exact ⟨le_rfl, fun e he => absurd he List.not_mem_nil, .inl rfl⟩
  | cons e l ih =>
    obtain ⟨least, each, attained⟩ := ih
    have step : greatestOf d (e :: l) = max ((countedDemand e).getD 0) (greatestOf d l) := rfl
    rw [step]
    refine ⟨le_max_of_le_right least, fun f hf k hk => ?_, ?_⟩
    · rcases List.mem_cons.1 hf with rfl | hf
      · rw [hk]; exact le_max_left _ _
      · exact le_max_of_le_right (each f hf k hk)
    · rcases le_total ((countedDemand e).getD 0) (greatestOf d l) with h | h
      · rw [max_eq_right h]
        exact attained.imp_right fun ⟨f, hf, hk⟩ => ⟨f, List.mem_cons_of_mem _ hf, hk⟩
      · rw [max_eq_left h]
        cases hc : countedDemand e with
        | some k => exact .inr ⟨e, List.mem_cons_self, by rw [hc]; rfl⟩
        | none =>
          rw [hc] at h
          have zero : greatestOf d l = 0 := Nat.le_zero.1 h
          exact .inl (by rw [zero] at least; exact (Nat.le_zero.1 least).symm)

theorem cutMode_of_image {s : State} {m : CutMode} (h : s.loader.image.cutMode = some m) : cutMode s = m := by
  unfold cutMode; rw [h]

theorem greatestDemand_independent {s : State} (h : s.loader.image.cutMode = some .independent) : greatestDemand s = ownDemand s := by
  unfold greatestDemand; rw [cutMode_of_image h]

theorem greatestDemand_coupled {s : State} (h : s.loader.image.cutMode = some .coupled) :
    ownDemand s ≤ greatestDemand s ∧ (∀ n demand, demandTold (s.peers.entries.get n) demand → demand ≤ greatestDemand s) ∧
    (greatestDemand s = ownDemand s ∨ ∃ n, demandTold (s.peers.entries.get n) (greatestDemand s)) := by
  have e : greatestDemand s = greatestOf (ownDemand s) s.peers.entries.toList := by
    unfold greatestDemand; rw [cutMode_of_image h]
  obtain ⟨least, each, attained⟩ := greatestOf_spec (ownDemand s) s.peers.entries.toList
  rw [e]
  refine ⟨least, fun n k hk => each _ (PerStation.mem_toList.2 ⟨n, rfl⟩) k (demandTold_iff.1 hk), attained.imp_right ?_⟩
  rintro ⟨entry, hm, hk⟩
  obtain ⟨n, rfl⟩ := PerStation.mem_toList.1 hm
  exact ⟨n, demandTold_iff.2 hk⟩

/-! ### A cut that rises -/

/-- PROTECT is the fastest class, so that a ramp in flight takes no slower one (R105). -/
theorem classHanded_protect (r : RampRecord) (p : PlannedChannel) : classHanded .protect r p = .protect := by
  unfold classHanded
  split
  · split
    · rfl
    next held _ => cases held <;> rfl
  · rfl

/-- A cut that rises hands every roster channel the target its terms then give, a new one at PROTECT (R99, R104). -/
theorem reviewDemand_hands {s : State} (h : s.planner.cut < greatestDemand s) (hg : s.scene.applied.generation ≠ none)
    (hd : allDistinct (s.loader.image.roster.map RosterEntry.channel) = true) :
    targetsCurrent (reviewDemand s) ∧ newTargetsHandedAt .protect s (reviewDemand s) := by
  generalize hv : ({ s with planner := { s.planner with cut := greatestDemand s, settleTimer := none, fallReady := false } } : State) = v
  have v_keeps : v.scene = s.scene ∧ v.loader = s.loader ∧ v.planner.channels = s.planner.channels ∧ v.ramps = s.ramps := by
    rw [← hv]; exact ⟨rfl, rfl, rfl, rfl⟩
  obtain ⟨v_scene, v_loader, v_channels, v_ramps⟩ := v_keeps
  have e : reviewDemand s = handTargets .protect v := by rw [← hv]; exact if_pos h
  have hands : handsTargets .protect v (handTargets .protect v) :=
    handTargets_of_generation (by rw [v_scene]; exact hg) (by rw [v_loader]; exact hd)
  rw [e]
  refine ⟨targetsCurrent_of_hands hands (by simp) (by simp), fun d hm hne => ?_⟩
  obtain ⟨-, handed⟩ := hands d (by simpa using hm)
  rw [v_channels, classHanded_protect] at handed
  exact handed hne

/-! ### The clip flag -/

section
variable {n : Channel} {s : State}

theorem effect_clipFlag_taken {d : RosterEntry} (hl : listening s) (hd : descriptorOf s.loader.image n = some d) :
    effect (.clipFlag n) s = finish (takeClip n s) := by
  rw [effect_clipFlag, if_pos ⟨unitListens_iff.2 hl, by simp [inRoster, hd]⟩]

/-- The state in which a clip flag has reached the contribution and its timers (R154). -/
def clipped (s : State) : State := { s with protection := s.protection.clipped }

theorem clipped_rises (hg : s.protection.riseGuard = none) (hc : s.protection.clip < 24) : (clipped s).protection =
    { s.protection with clip := s.protection.clip + 1, riseGuard := some 400, clipFall := some 4000 } := if_pos ⟨hg, hc⟩

theorem clipped_guarded (h : s.protection.riseGuard ≠ none ∨ s.protection.clip = 24) : (clipped s).protection =
    { s.protection with clipFall := some 4000 } :=
  if_neg fun ⟨hg, hc⟩ => h.elim (fun hn => hn hg) fun he => by omega

theorem limitClip_eq : limitClip n s = if s.protection.clip = 0 ∧ (clipped s).protection.clip = 1 then
    queueAlert (.channel .clip n) .limiting (withDemand clipped s) else withDemand clipped s := by
  unfold limitClip
  have clip : (withDemand clipped s).protection.clip = (clipped s).protection.clip := by simp
  rw [← clip]
  rfl

/-- But for its ALERT, the flag ends as the compared demand leaves it. -/
theorem limitClip_view : (limitClip n s).planner = (withDemand clipped s).planner ∧
    (limitClip n s).ramps = (withDemand clipped s).ramps ∧ (limitClip n s).protection = (withDemand clipped s).protection ∧
    (limitClip n s).loader = s.loader ∧ (limitClip n s).peers = s.peers ∧ (limitClip n s).draws = s.draws ∧
    (limitClip n s).scene = s.scene := by
  rw [limitClip_eq]
  split <;> simp [clipped]

theorem limitClip_greatest : greatestDemand (limitClip n s) = greatestDemand (withDemand clipped s) := by
  obtain ⟨-, -, protection, loader, peers, draws, -⟩ := limitClip_view (n := n) (s := s)
  refine greatestDemand_congr ?_ ?_ (by rw [peers]; simp [clipped])
  · simp [ownDemand, thermalContribution, sagContribution, protection, clipped]
  · simp [cutMode, clipped]

theorem ownDemand_clipped_rises (hg : s.protection.riseGuard = none) (hc : s.protection.clip < 24) :
    ownDemand (clipped s) = ownDemand s + 1 := by
  have e : ownDemand (clipped s) = (clipped s).protection.clip + thermalContribution s + sagContribution s := by
    unfold ownDemand thermalContribution sagContribution
    rw [clipped_rises hg hc]
    rfl
  rw [e, clipped_rises hg hc, ownDemand]
  dsimp only
  omega

theorem ownDemand_clipped_guarded (h : s.protection.riseGuard ≠ none ∨ s.protection.clip = 24) : ownDemand (clipped s) = ownDemand s := by
  unfold ownDemand thermalContribution sagContribution
  rw [clipped_guarded h]
  rfl

/-- The state in which a clip flag in mode REPORT has been counted (R154). -/
theorem reportClip_of_clear (h : (s.protection.records.get n).state = .clear) :
    reportClip n s = reportFault .clip n (s.setRecord n (s.protection.records.get n).struck) := by
  unfold reportClip; dsimp only
  rw [h]

theorem reportClip_of_other (h : (s.protection.records.get n).state ≠ .clear) :
    reportClip n s = s.setRecord n (s.protection.records.get n).struck := by
  unfold reportClip; dsimp only
  split
  next hc => exact absurd hc h
  all_goals rfl

theorem finish_occurrences (k : Nat) (h : (s.protection.records.get n).occurrences = k) :
    ((finish s).protection.records.get n).occurrences = k := by
  refine (recordWith_windowInvariant n (Q := fun r => r.occurrences = k) (fun m r h => ?_) fun {r} h => ?_).finish h
  · unfold FaultRecord.silenced; repeat' split
    all_goals exact h
  · unfold FaultRecord.offsetClears; split <;> exact h

end

/-- Settles O39. -/
theorem clipFlagLimitsOrReports : Obligations.ClipFlagLimitsOrReports := by
  refine ⟨fun s => ⟨?_, greatestDemand_independent, greatestDemand_coupled⟩, fun n d s hl hd => ⟨fun hm => ⟨_, exec_effect _ s, ?_⟩,
    fun hm => ⟨_, exec_effect _ s, ?_⟩⟩⟩
  · simp only [ownDemand, thermalContribution, sagContribution, Bool.and_eq_true, decide_eq_true_eq]
  · have e : takeClip n s = limitClip n s := by unfold takeClip; rw [hm]
    rw [effect_clipFlag_taken hl hd, e]
    obtain ⟨planner, ramps, protection, loader, peers, draws, scene⟩ := limitClip_view (n := n) (s := s)
    have demand : (withDemand clipped s).protection.clip = (clipped s).protection.clip ∧
        (withDemand clipped s).protection.riseGuard = (clipped s).protection.riseGuard ∧
        (withDemand clipped s).protection.clipFall = (clipped s).protection.clipFall := by simp
    obtain ⟨clip, guard, fall⟩ := demand
    refine ⟨?_, fun hg hc => ⟨?_, ?_, fun h0 hq => ?_, fun h0 => ?_, fun hk => ⟨?_, fun hrise happlied hroster => ?_⟩⟩,
      fun h => ⟨?_, ?_, ?_, fun hk => ?_⟩⟩
    · simp only [finish_keeps, protection, fall]
      unfold clipped Protection.clipped
      split <;> rfl
    · simp only [finish_keeps, protection, clip, clipped_rises hg hc]
    · simp only [finish_keeps, protection, guard, clipped_rises hg hc]
    · have alert : limitClip n s = queueAlert (.channel .clip n) .limiting (withDemand clipped s) := by
        rw [limitClip_eq, if_pos ⟨h0, by rw [clipped_rises hg hc, h0]⟩]
      rw [alert]
      exact alertWaits_finish (giveFrame_waits (b := .alert ⟨.channel .clip n, .limiting⟩) (s := withDemand clipped s)
        (queueHasPlace_congr (s := s) (by simp [clipped]) (by simp [clipped]) hq) (sceneInTransmission_of_notScene (by simp [FrameBody.kind]) _)).2.1
    · refine noAlertQueued_finish ?_
      rw [limitClip_eq, if_neg fun h => by omega]
      simp [clipped]
    · refine finish_cutFollows (by simp) hk ?_
      refine cutFollows_congr (t := withDemand clipped s) (by rw [planner]) (by rw [planner]) (by rw [planner]) limitClip_greatest ?_
      exact withDemand_cutFollows rfl (by rw [ownDemand_clipped_rises hg hc]; omega)
    · have review : withDemand clipped s = reviewDemand (clipped s) := if_neg (by rw [ownDemand_clipped_rises hg hc]; omega)
      have fin := finish_of_railKept (s := s) (u := limitClip n s) (by simp) hk
      have greatest : greatestDemand (finish (limitClip n s)) = greatestDemand (clipped s) := by
        rw [fin, refreshPresence_greatestDemand, limitClip_greatest, review, (reviewDemand_demands _).2.2]
      rw [greatest] at hrise
      obtain ⟨current, handed⟩ := reviewDemand_hands (s := clipped s) hrise happlied hroster
      rw [← review] at current handed
      have same : (limitClip n s).loader.image.roster = (withDemand clipped s).loader.image.roster := by simp [clipped]
      have target (e : RosterEntry) : targetNow (limitClip n s) e = targetNow (withDemand clipped s) e :=
        targetNow_congr (by simp [clipped]) (by rw [planner]) (by rw [planner]) (by rw [planner]) (by simp [clipped]) e
      refine ⟨finish_targetsCurrent (by simp) hk ?_, finish_newTargets (by simp) hk ?_⟩
      · unfold targetsCurrent
        simp only [same, target, planner]
        exact current
      · unfold newTargetsHandedAt
        simp only [same, planner, ramps]
        exact handed
    · simp only [finish_keeps, protection, clip, clipped_guarded h]
    · simp only [finish_keeps, protection, guard, clipped_guarded h]
    · refine noAlertQueued_finish ?_
      rw [limitClip_eq, if_neg fun h' => by rw [clipped_guarded h] at h'; simp only at h'; omega]
      simp [clipped]
    · rw [finish_of_railKept (s := s) (by simp) hk]
      rw [withDemand_of_same (f := clipped) (ownDemand_clipped_guarded h)] at planner
      exact planner
  · have e : takeClip n s = reportClip n s := by unfold takeClip; rw [hm]
    rw [effect_clipFlag_taken hl hd, e]
    generalize hu : s.setRecord n (s.protection.records.get n).struck = u
    have u_keeps : u.controller = s.controller ∧ u.link = s.link ∧ u.planner = s.planner ∧ u.loader = s.loader ∧
        u.protection.clip = s.protection.clip ∧ u.protection.records.get n = (s.protection.records.get n).struck := by
      rw [← hu]; simp [State.setRecord]
    obtain ⟨u_controller, u_link, u_planner, u_loader, u_clip, u_record⟩ := u_keeps
    have state : (u.protection.records.get n).state = (s.protection.records.get n).state := by rw [u_record]; rfl
    have fresh (h : (s.protection.records.get n).state = .clear) : reportClip n s = reportFault .clip n u := by
      rw [reportClip_of_clear h, hu]
    have held (h : (s.protection.records.get n).state ≠ .clear) : reportClip n s = u := by rw [reportClip_of_other h, hu]
    refine ⟨by simp, ?_, fun hc => ?_, fun hc => ?_, fun hk => ⟨?_, fun hc => ?_⟩⟩
    · refine finish_occurrences _ ?_
      by_cases hc : (s.protection.records.get n).state = .clear
      · rw [fresh hc, reportFault_keeps_ramps.2, u_record]; rfl
      · rw [held hc, u_record]; rfl
    · have reported : (finish (reportFault .clip n u)).protection.records.get n =
          { u.protection.records.get n with state := .reported, lastFault := some .clip } := by
        rw [finish_record (d := d) (by simpa [u_loader] using hd) (.inl ?_), reportFault_keeps_ramps.2]
        rw [reportFault_keeps_ramps.2]
        exact silenced_of_reported rfl (by simp)
      rw [fresh hc, reported]
      refine ⟨rfl, rfl, fun hq => alertWaits_finish (reportFault_waits ?_ (by rw [state, hc]; decide))⟩
      exact queueHasPlace_congr u_controller (by rw [u_link]) hq
    · rw [held hc]; exact noAlertQueued_finish u_link
    · rw [finish_of_railKept (s := s) (by simp) hk]
      show (reportClip n s).planner = s.planner
      simp
    · rw [finish_of_railKept (s := s) (by simp) hk, held hc]
      show (u.protection.records.get n).state = _ ∧ (u.protection.records.get n).lastFault = _
      rw [u_record]
      exact ⟨rfl, rfl⟩

end Sys2Proof.Machine
end

section
/-! PROOFS. One station fault turns: its conditions, its alert and what it leaves. -/

namespace Sys2Proof.Machine

/-! ### A waiting ALERT -/

theorem mem_frameEnds_alert {a : Alert} {b : FrameBody} {s : State} (h : .alert a ∈ s.link.bodies) :
    .alert a ∈ (frameEnds b s).link.bodies := by
  unfold frameEnds
  split
  · unfold offerEnds offerCheck
    split
    · split
      · rw [queueSpeedOffer_link]
        exact mem_give_of_rank h rfl (by simp [FrameBody.rank, FrameBody.kind, classRank])
      · exact h
    · exact h
  · rw [timerNotice_link]; exact h

/-- An ALERT of another subject leaves a waiting one (R167, R168). -/
theorem mem_giveFrame_alert {a b : Alert} {s : State} (h : .alert a ∈ s.link.bodies) (hne : b.subject ≠ a.subject) :
    .alert a ∈ (giveFrame (.alert b) s).link.bodies := by
  have kept := mem_give_of_rank (admits := admitsFrames s) (b := .alert b) h (decide_eq_false hne) (lt_irrefl _)
  unfold giveFrame; dsimp only
  split
  · exact kept
  · exact mem_frameEnds_alert kept

/-! ### A fault raised or cleared -/

/-- A fault that becomes inactive, with the demand that moves by it (R155, R156). -/
def unraised (f : StationFault) (s : State) : State := withDemand (unmarkFault f) s

/-- What the turn of one fault leaves of the rest of the station. -/
structure SideTurn (f : StationFault) (s y : State) : Prop where
  controller : y.controller = s.controller
  pins : y.pins = s.pins
  loader : y.loader = s.loader
  draws : y.draws = s.draws
  scene : y.scene = s.scene
  peers : y.peers = s.peers
  clip : y.protection.clip = s.protection.clip
  conditions : y.protection.conditions = s.protection.conditions
  active : ∀ g, g ≠ f → y.protection.active.get g = s.protection.active.get g
  sticky : ∀ g, g ≠ f → y.protection.sticky.get g = s.protection.sticky.get g
  places : queueHasPlace s → y.link.placesHeld ≤ s.link.placesHeld + 1
  alerts : ∀ a : Alert, a.subject ≠ .station f → .alert a ∈ s.link.bodies → .alert a ∈ y.link.bodies

theorem PerFault.get_set_ne {α : Type} (p : PerFault α) {f g : StationFault} (h : g ≠ f) (a : α) : (p.set f a).get g = p.get g := by
  cases f <;> cases g <;> first | rfl | exact absurd rfl h

theorem PerFault.get_set_self {α : Type} (p : PerFault α) (f : StationFault) (a : α) : (p.set f a).get f = a := by cases f <;> rfl

section
variable {f : StationFault} {s y : State}

theorem SideTurn.refl (f : StationFault) (s : State) : SideTurn f s s :=
  ⟨rfl, rfl, rfl, rfl, rfl, rfl, rfl, rfl, fun _ _ => rfl, fun _ _ => rfl, fun _ => Nat.le_succ _, fun _ _ h => h⟩

/-- What has the same view but for ramps, records and targets turns alike. -/
theorem SideTurn.beside {z : State} (h : SideTurn f s y) (hz : z.controller = y.controller ∧ z.pins = y.pins ∧ z.loader = y.loader ∧
    z.draws = y.draws ∧ z.scene = y.scene ∧ z.peers = y.peers ∧ z.link = y.link ∧ z.protection.clip = y.protection.clip ∧
    z.protection.conditions = y.protection.conditions ∧ z.protection.active = y.protection.active ∧
    z.protection.sticky = y.protection.sticky) : SideTurn f s z := by
  obtain ⟨controller, pins, loader, draws, scene, peers, link, clip, conditions, active, sticky⟩ := hz
  exact ⟨controller.trans h.controller, pins.trans h.pins, loader.trans h.loader, draws.trans h.draws, scene.trans h.scene,
    peers.trans h.peers, clip.trans h.clip, conditions.trans h.conditions, fun g hg => by rw [active]; exact h.active g hg,
    fun g hg => by rw [sticky]; exact h.sticky g hg, fun hq => by rw [link]; exact h.places hq,
    fun a ha hm => by rw [link]; exact h.alerts a ha hm⟩

theorem raised_sideTurn (f : StationFault) (s : State) : SideTurn f s (raised f s) where
  controller := by simp
  pins := by simp
  loader := by simp
  draws := by simp [raised, markFault]
  scene := by simp
  peers := by simp
  clip := by simp [raised, markFault]
  conditions := by simp
  active g hg := by rw [(raised_protection f s).1, PerFault.get_set_ne _ hg]
  sticky g hg := by rw [(raised_protection f s).2.1, PerFault.get_set_ne _ hg]
  places hq := by
    have le := (giveFrame_waits (b := .alert ⟨.station f, .active⟩) (s := withDemand (markFault f) s)
      (queueHasPlace_congr (s := s) (by simp [markFault]) (by simp [markFault]) hq)
      (sceneInTransmission_of_notScene (by simp [FrameBody.kind]) _)).2.2.1
    simpa [raised, queueAlert, markFault] using le
  alerts a ha h := mem_giveFrame_alert (by simpa [markFault] using h) fun e => ha e.symm

theorem unraised_sideTurn (f : StationFault) (s : State) : SideTurn f s (unraised f s) where
  controller := by simp [unraised, unmarkFault]
  pins := by simp [unraised, unmarkFault]
  loader := by simp [unraised, unmarkFault]
  draws := by simp [unraised, unmarkFault]
  scene := by simp [unraised, unmarkFault]
  peers := by simp [unraised, unmarkFault]
  clip := by simp [unraised, unmarkFault]
  conditions := by simp [unraised, unmarkFault]
  active g hg := by simpa [unraised, unmarkFault] using PerFault.get_set_ne s.protection.active hg false
  sticky g hg := by simp [unraised, unmarkFault]
  places _ := by simp [unraised, unmarkFault]
  alerts a _ h := by simpa [unraised, unmarkFault] using h

@[simp] theorem unraised_active (f : StationFault) (s : State) :
    (unraised f s).protection.active = s.protection.active.set f false ∧ (unraised f s).protection.sticky = s.protection.sticky := by
  simp [unraised, unmarkFault]

/-- The frame that a turn leaves has a place where two were free. -/
theorem SideTurn.hasPlace (h : SideTurn f s y) (hq : queueHasPlace s) (hp : s.link.placesHeld < 7) : queueHasPlace y := by
  have le := h.places hq
  obtain ⟨starting, resting, conflict, -⟩ := hq
  unfold queueHasPlace
  rw [h.controller]
  exact ⟨starting, resting, conflict, by omega⟩

end

theorem HandInvariant.raised {P : State → Prop} (I : HandInvariant P) {f : StationFault} (hf : f ≠ .railHigh) {s : State} (h : P s) :
    P (raised f s) := I.queueAlert _ _ (I.withDemand (I.markFault hf h))

theorem HandInvariant.unraised {P : State → Prop} (I : HandInvariant P) {f : StationFault} (hf : f ≠ .railHigh) {s : State} (h : P s) :
    P (unraised f s) := I.withDemand (I.unmarkFault hf h)

/-! ### The turn of each fault -/

section
variable (enabled : Bool) (t : ConditionTurn) (s : State)

/-- What a turn without an action of its own can leave. -/
def plainTurn (f : StationFault) (s y : State) : Prop :=
  y = s ∨ (s.protection.active.get f = false ∧ y = raised f s) ∨ (s.protection.active.get f = true ∧ y = unraised f s)

theorem clearThermal_warn : clearThermalFault .thermalWarn s = if s.protection.active.thermalWarn then unraised .thermalWarn s else s := rfl

theorem clearThermal_shut : clearThermalFault .thermalShut s =
    if s.protection.active.thermalShut then reportRecovery (unraised .thermalShut s) else s := rfl

theorem clearRail_sag : clearRailFault .railSag s = if s.protection.active.railSag then unraised .railSag s else s := rfl

theorem clearRail_low : clearRailFault .railLow s = if s.protection.active.railLow then unraised .railLow s else s := rfl

theorem clearRail_high : clearRailFault .railHigh s = if s.protection.active.railHigh then
    allChannels.foldl (fun s n => releaseFaultClaim n s) (unraised .railHigh s) else s := rfl

variable {s}

theorem plainTurn_of_raise {f : StationFault} (hf : faultAction f = id) : plainTurn f s (raiseFault f s) := by
  cases h : s.protection.active.get f with
  | true => exact .inl (raiseFault_of_active h)
  | false => exact .inr (.inl ⟨h, by rw [raiseFault_of_inactive h, hf]; rfl⟩)

theorem warn_plainTurn : plainTurn .thermalWarn s (turnFault .thermalWarn enabled (clearThermalFault .thermalWarn) t s) := by
  cases t with
  | unchanged => exact .inl rfl
  | recognised =>
    show plainTurn _ s (if enabled = true then _ else _)
    split
    · exact plainTurn_of_raise rfl
    · exact .inl rfl
  | cleared =>
    show plainTurn _ s (clearThermalFault .thermalWarn s)
    rw [clearThermal_warn]
    split
    next h => exact .inr (.inr ⟨h, rfl⟩)
    next => exact .inl rfl

theorem sag_plainTurn : plainTurn .railSag s (turnFault .railSag enabled (clearRailFault .railSag) t s) := by
  cases t with
  | unchanged => exact .inl rfl
  | recognised =>
    show plainTurn _ s (if enabled = true then _ else _)
    split
    · exact plainTurn_of_raise rfl
    · exact .inl rfl
  | cleared =>
    show plainTurn _ s (clearRailFault .railSag s)
    rw [clearRail_sag]
    split
    next h => exact .inr (.inr ⟨h, rfl⟩)
    next => exact .inl rfl

theorem sideTurn_of_plainTurn {f : StationFault} {y : State} (h : plainTurn f s y) : SideTurn f s y := by
  rcases h with rfl | ⟨-, rfl⟩ | ⟨-, rfl⟩
  · exact .refl f _
  · exact raised_sideTurn f s
  · exact unraised_sideTurn f s

theorem plainTurn_preserves {P : State → Prop} (I : HandInvariant P) {f : StationFault} (hf : f ≠ .railHigh) {y : State}
    (h : plainTurn f s y) (hs : P s) : P y := by
  rcases h with rfl | ⟨-, rfl⟩ | ⟨-, rfl⟩
  · exact hs
  · exact I.raised hf hs
  · exact I.unraised hf hs

theorem high_sideTurn : SideTurn .railHigh s (turnFault .railHigh enabled (clearRailFault .railHigh) t s) := by
  cases t with
  | unchanged => exact .refl _ _
  | recognised =>
    show SideTurn _ s (if enabled = true then _ else _)
    split
    · cases h : s.protection.active.get .railHigh with
      | true => rw [raiseFault_of_active h]; exact .refl _ _
      | false =>
        rw [raiseFault_of_inactive h]
        exact (raised_sideTurn .railHigh s).beside (by simp [faultAction])
    · exact .refl _ _
  | cleared =>
    show SideTurn _ s (clearRailFault .railHigh s)
    rw [clearRail_high]
    split
    · exact foldl_invariant (P := SideTurn .railHigh s) (unraised_sideTurn .railHigh s) (fun z n hz => hz.beside (by simp)) allChannels
    · exact .refl _ _

end

/-! ### The thermal view -/

/-- What the rail window and its closing leave of the conditions, the active and the sticky faults. -/
def thermalView (s : State) : Condition × Condition × Bool × Bool × PerFault Bool :=
  (s.protection.conditions.thermalWarn, s.protection.conditions.thermalShut, s.protection.active.thermalWarn,
    s.protection.active.thermalShut, s.protection.sticky)

theorem closeWindow_thermalView (s : State) : thermalView (closeWindow s) = thermalView s := by
  unfold thermalView
  rw [closeWindow_conditions, closeWindow_active]
  simp [PerFault.set]

theorem finish_thermalView (s : State) : thermalView (finish s) = thermalView s := by
  have taken : thermalView (takeSilence s) = thermalView s := by
    unfold takeSilence; split
    · exact closeWindow_thermalView _
    · rfl
  exact taken

theorem enterStabilising_thermalView (s : State) : thermalView (enterStabilising s) = thermalView s := by
  simp [thermalView, enterStabilising, unmarkFault, PerFault.set]

theorem enterRailUp_thermalView (s : State) : thermalView (enterRailUp s) = thermalView s := by
  have closed (k : Controller) : thermalView (closeWindow { leaveReady .hard s with controller := k }) = thermalView s := by
    rw [closeWindow_thermalView]
    simp [thermalView]
  unfold enterRailUp; dsimp only
  split
  · exact (enterStabilising_thermalView _).trans (closed _)
  · exact closed _

theorem askShutdown_thermalView (s : State) : thermalView (askShutdown s) = thermalView s := by
  have closed (k : Controller) : thermalView (closeWindow { leaveReady .hard s with controller := k }) = thermalView s := by
    rw [closeWindow_thermalView]
    simp [thermalView]
  unfold askShutdown; dsimp only
  split
  any_goals exact closed _
  · simp [thermalView]
  all_goals rfl

theorem reportRecovery_thermalView (s : State) : thermalView (reportRecovery s) = thermalView s := by
  unfold reportRecovery; split
  · exact enterRailUp_thermalView s
  · rfl

end Sys2Proof.Machine
end

section
/-! PROOFS. The temperature faults (O36, the clauses of the temperature slot). -/

namespace Sys2Proof.Machine

/-! ### A fault and the demand -/

section
variable {f : StationFault} {s s₀ : State}

theorem ownDemand_raised : ownDemand (raised f s) = ownDemand (markFault f s) :=
  ownDemand_congr (by simp [markFault]) (by simp [raised, markFault]) (by simp [markFault]) (by simp [markFault])

theorem ownDemand_unraised : ownDemand (unraised f s) = ownDemand (unmarkFault f s) :=
  ownDemand_congr (by simp [unraised, unmarkFault]) (by simp [unraised, unmarkFault]) (by simp [unmarkFault]) (by simp [unmarkFault])

theorem raised_greatest : greatestDemand (raised f s) = greatestDemand (withDemand (markFault f) s) :=
  greatestDemand_of_state (ownDemand_congr (by simp [raised]) (by simp [raised]) (by simp [raised]) (by simp [raised]))
    (by simp [raised]) (by simp [raised]) (by simp [raised])

/-- A fault that moves the own demand has it compared with the cabin cut (R155). -/
theorem raised_cutFollows (hp : s.planner = s₀.planner) (h : ownDemand (markFault f s) ≠ ownDemand s) : cutFollows s₀ (raised f s) := by
  have planner : (raised f s).planner = (withDemand (markFault f) s).planner := by simp [raised]
  have follows : cutFollows s (withDemand (markFault f) s) := withDemand_cutFollows rfl h
  have here := cutFollows_congr (u := raised f s) (by rw [planner]) (by rw [planner]) (by rw [planner]) raised_greatest follows
  simpa only [cutFollows, hp] using here

theorem unraised_cutFollows (hp : s.planner = s₀.planner) (h : ownDemand (unmarkFault f s) ≠ ownDemand s) :
    cutFollows s₀ (unraised f s) := by
  have here : cutFollows s (unraised f s) := withDemand_cutFollows rfl h
  simpa only [cutFollows, hp] using here

/-- One that does not leaves cut, targets and ramps. -/
theorem raised_still (h : ownDemand (markFault f s) = ownDemand s) : (raised f s).planner = s.planner ∧ (raised f s).ramps = s.ramps := by
  unfold raised
  rw [withDemand_of_same h]
  exact ⟨by simp [markFault], by simp [markFault]⟩

theorem unraised_still (h : ownDemand (unmarkFault f s) = ownDemand s) : (unraised f s).planner = s.planner ∧
    (unraised f s).ramps = s.ramps := by
  unfold unraised
  rw [withDemand_of_same h]
  exact ⟨rfl, rfl⟩

theorem thermalContribution_inactive (h : s.protection.active.thermalWarn = false) : thermalContribution s = 0 := by
  unfold thermalContribution; rw [h]; rfl

theorem thermalContribution_active (h : s.protection.active.thermalWarn = true) : thermalContribution s =
    if s.loader.image.protection.warnMode = .limit then 12 else 0 := by
  unfold thermalContribution; rw [h]; simp

theorem ownDemand_markWarn (h : s.protection.active.thermalWarn = false) : ownDemand (markFault .thermalWarn s) =
    ownDemand s + if s.loader.image.protection.warnMode = .limit then 12 else 0 := by
  have clip : (markFault .thermalWarn s).protection.clip = s.protection.clip := rfl
  have sag : sagContribution (markFault .thermalWarn s) = sagContribution s := rfl
  have thermal : thermalContribution (markFault .thermalWarn s) = if s.loader.image.protection.warnMode = .limit then 12 else 0 :=
    thermalContribution_active rfl
  rw [ownDemand, ownDemand, clip, sag, thermal, thermalContribution_inactive h]
  omega

theorem ownDemand_unmarkWarn (h : s.protection.active.thermalWarn = true) : ownDemand (unmarkFault .thermalWarn s) +
    (if s.loader.image.protection.warnMode = .limit then 12 else 0) = ownDemand s := by
  have clip : (unmarkFault .thermalWarn s).protection.clip = s.protection.clip := rfl
  have sag : sagContribution (unmarkFault .thermalWarn s) = sagContribution s := rfl
  have thermal : thermalContribution (unmarkFault .thermalWarn s) = 0 := thermalContribution_inactive rfl
  rw [ownDemand, ownDemand, clip, sag, thermal, thermalContribution_active h]
  omega

end

/-! ### The temperature slot -/

/-- How a temperature moves the condition of THERMAL_WARN (R145). -/
def warnAdvance (v : Int) (s : State) : Condition × ConditionTurn :=
  s.protection.conditions.thermalWarn.advance (decide (s.loader.image.protection.warnThreshold ≤ v))
    (decide (v ≤ s.loader.image.protection.warnThreshold - 5))

/-- And that of THERMAL_SHUT. -/
def shutAdvance (v : Int) (s : State) : Condition × ConditionTurn :=
  s.protection.conditions.thermalShut.advance (decide (s.loader.image.protection.shutThreshold ≤ v))
    (decide (v ≤ s.loader.image.protection.shutThreshold - 10))

/-- The state in which a temperature is kept and its conditions have moved, before the faults turn. -/
def temperatureRead (v : Int) (s : State) : State :=
  { slotRead 1 v s with protection := { (slotRead 1 v s).protection with
    conditions := { s.protection.conditions with thermalWarn := (warnAdvance v s).1, thermalShut := (shutAdvance v s).1 } } }

/-- THERMAL_WARN has turned. -/
def warned (v : Int) (s : State) : State :=
  turnFault .thermalWarn (decide (s.loader.image.protection.warnMode ≠ .ignore)) (clearThermalFault .thermalWarn) (warnAdvance v s).2
    (temperatureRead v s)

/-- And THERMAL_SHUT after it. -/
def heated (v : Int) (s : State) : State :=
  turnFault .thermalShut true (clearThermalFault .thermalShut) (shutAdvance v s).2 (warned v s)

section
variable {v : Int} {s : State}

theorem effect_temperature (hs : s.protection.scan = some 1) (hu : s.controller.station ≠ .unconfigured) :
    effect (.senseSlot v) s = finish (heated v s) := by
  rw [effect_slot hs, judgeSlot_temperature, if_pos (show judgesTemperature (slotRead 1 v s) = true from decide_eq_true hu)]
  rfl

theorem temperatureRead_keeps : (temperatureRead v s).controller = s.controller ∧ (temperatureRead v s).link = s.link ∧
    (temperatureRead v s).loader = s.loader ∧ (temperatureRead v s).planner = s.planner ∧ (temperatureRead v s).ramps = s.ramps ∧
    (temperatureRead v s).pins = s.pins ∧ (temperatureRead v s).protection.active = s.protection.active ∧
    (temperatureRead v s).protection.sticky = s.protection.sticky ∧ (temperatureRead v s).protection.clip = s.protection.clip :=
  ⟨rfl, rfl, rfl, rfl, rfl, rfl, rfl, rfl, rfl⟩

theorem ownDemand_temperatureRead : ownDemand (temperatureRead v s) = ownDemand s := rfl

theorem warned_sideTurn : SideTurn .thermalWarn (temperatureRead v s) (warned v s) := sideTurn_of_plainTurn (warn_plainTurn _ _)

/-- What THERMAL_SHUT can do as it turns (R156, R185). -/
theorem shutTurn_cases (t : ConditionTurn) (x : State) : turnFault .thermalShut true (clearThermalFault .thermalShut) t x = x ∨
    turnFault .thermalShut true (clearThermalFault .thermalShut) t x = askShutdown (raised .thermalShut x) ∨
    turnFault .thermalShut true (clearThermalFault .thermalShut) t x = reportRecovery (unraised .thermalShut x) := by
  cases t with
  | unchanged => exact .inl rfl
  | recognised =>
    show raiseFault .thermalShut x = _ ∨ raiseFault .thermalShut x = _ ∨ raiseFault .thermalShut x = _
    cases h : x.protection.active.get .thermalShut with
    | true => exact .inl (raiseFault_of_active h)
    | false => exact .inr (.inl (raiseFault_of_inactive h))
  | cleared =>
    show clearThermalFault .thermalShut x = _ ∨ clearThermalFault .thermalShut x = _ ∨ clearThermalFault .thermalShut x = _
    rw [clearThermal_shut]
    split
    · exact .inr (.inr rfl)
    · exact .inl rfl

/-- Of THERMAL_WARN, and of the two conditions, the turn of THERMAL_SHUT leaves what stands. -/
theorem heated_spares : (heated v s).protection.conditions.thermalWarn = (warnAdvance v s).1 ∧
    (heated v s).protection.conditions.thermalShut = (shutAdvance v s).1 ∧
    (heated v s).protection.active.thermalWarn = (warned v s).protection.active.thermalWarn ∧
    (heated v s).protection.sticky.thermalWarn = (warned v s).protection.sticky.thermalWarn ∧
    ∀ a : Alert, a.subject ≠ .station .thermalShut → .alert a ∈ (warned v s).link.bodies → .alert a ∈ (heated v s).link.bodies := by
  have conditions := (warned_sideTurn (v := v) (s := s)).conditions
  have warn : (warned v s).protection.conditions.thermalWarn = (warnAdvance v s).1 := by rw [conditions]; rfl
  have shut : (warned v s).protection.conditions.thermalShut = (shutAdvance v s).1 := by rw [conditions]; rfl
  rw [← warn, ← shut]
  unfold heated
  have raisedAt := raised_sideTurn .thermalShut (warned v s)
  have unraisedAt := unraised_sideTurn .thermalShut (warned v s)
  rcases shutTurn_cases (shutAdvance v s).2 (warned v s) with e | e | e <;> rw [e]
  · exact ⟨rfl, rfl, rfl, rfl, fun _ _ h => h⟩
  · have view := askShutdown_thermalView (raised .thermalShut (warned v s))
    simp only [thermalView, Prod.mk.injEq] at view
    obtain ⟨vw, vs, va, -, vk⟩ := view
    rw [vw, vs, va, vk, raisedAt.conditions]
    exact ⟨rfl, rfl, raisedAt.active .thermalWarn (by decide), raisedAt.sticky .thermalWarn (by decide), fun a ha h => by
      simpa using raisedAt.alerts a ha h⟩
  · have view := reportRecovery_thermalView (unraised .thermalShut (warned v s))
    simp only [thermalView, Prod.mk.injEq] at view
    obtain ⟨vw, vs, va, -, vk⟩ := view
    rw [vw, vs, va, vk, unraisedAt.conditions]
    exact ⟨rfl, rfl, unraisedAt.active .thermalWarn (by decide), unraisedAt.sticky .thermalWarn (by decide), fun a ha h => by
      simpa using unraisedAt.alerts a ha h⟩

theorem finish_heated_view : (finish (heated v s)).protection.conditions.thermalWarn = (warnAdvance v s).1 ∧
    (finish (heated v s)).protection.conditions.thermalShut = (shutAdvance v s).1 ∧
    (finish (heated v s)).protection.active.thermalWarn = (warned v s).protection.active.thermalWarn ∧
    (finish (heated v s)).protection.active.thermalShut = (heated v s).protection.active.thermalShut ∧
    (finish (heated v s)).protection.sticky.thermalWarn = (warned v s).protection.sticky.thermalWarn := by
  have view := finish_thermalView (heated v s)
  simp only [thermalView, Prod.mk.injEq] at view
  obtain ⟨vw, vs, va, vh, vk⟩ := view
  obtain ⟨warn, shut, active, sticky, -⟩ := heated_spares (v := v) (s := s)
  exact ⟨vw.trans warn, vs.trans shut, va.trans active, vh, by rw [vk]; exact sticky⟩

theorem heated_of_shutStays (h : shutStays v s) : heated v s = warned v s := by
  unfold heated
  rw [show (shutAdvance v s).2 = .unchanged from h]
  rfl

/-- With THERMAL_SHUT left as it was and the rail not released, the demand and the planner are those of the warning's turn. -/
theorem finish_heated_of_shutStays (h : shutStays v s) (hk : railKept s (finish (heated v s))) :
    finish (heated v s) = refreshPresence (warned v s) := by
  rw [heated_of_shutStays h] at hk ⊢
  exact finish_of_railKept (by rw [warned_sideTurn.controller]; rfl) hk

/-! ### THERMAL_WARN -/

theorem warned_of_recognised (hc : s.protection.conditions.thermalWarn = ⟨false, 1⟩) (hv : s.loader.image.protection.warnThreshold ≤ v)
    (ha : s.protection.active.thermalWarn = false) : warned v s =
      if s.loader.image.protection.warnMode = .ignore then temperatureRead v s else raised .thermalWarn (temperatureRead v s) := by
  have turn : (warnAdvance v s).2 = .recognised := by rw [warnAdvance, advance_recognises hc (decide_eq_true hv)]
  unfold warned
  rw [turn]
  show (if decide _ = true then raiseFault .thermalWarn (temperatureRead v s) else temperatureRead v s) = _
  by_cases hm : s.loader.image.protection.warnMode = .ignore
  · rw [if_pos hm, if_neg (by simp [hm])]
  · rw [if_neg hm, if_pos (by simpa using hm), raiseFault_of_inactive (f := .thermalWarn) (s := temperatureRead v s) ha]
    rfl

theorem warned_of_cleared (hc : s.protection.conditions.thermalWarn = ⟨true, 1⟩) (hv : v ≤ s.loader.image.protection.warnThreshold - 5)
    (ha : s.protection.active.thermalWarn = true) : warned v s = unraised .thermalWarn (temperatureRead v s) := by
  have turn : (warnAdvance v s).2 = .cleared := by rw [warnAdvance, advance_clears hc (decide_eq_true hv)]
  unfold warned
  rw [turn]
  show clearThermalFault .thermalWarn (temperatureRead v s) = _
  rw [clearThermal_warn, if_pos (show (temperatureRead v s).protection.active.thermalWarn = true from ha)]

/-- The second reading at the warning temperature (R98 to R100, R155, R156, R160). -/
theorem warn_recognised (hs : s.protection.scan = some 1) (hc : s.protection.conditions.thermalWarn = ⟨false, 1⟩)
    (hv : s.loader.image.protection.warnThreshold ≤ v) (ha : s.protection.active.thermalWarn = false)
    (hu : s.controller.station ≠ .unconfigured) :
    ∃ t, exec (.senseSlot v) s = .next t ∧ t.protection.conditions.thermalWarn = ⟨true, 0⟩ ∧
      (s.loader.image.protection.warnMode = .ignore →
        t.protection.active.thermalWarn = false ∧ t.protection.sticky.thermalWarn = s.protection.sticky.thermalWarn) ∧
      (s.loader.image.protection.warnMode ≠ .ignore →
        t.protection.active.thermalWarn = true ∧ t.protection.sticky.thermalWarn = true ∧
        (queueHasPlace s → alertWaits ⟨.station .thermalWarn, .active⟩ t)) ∧
      (shutStays v s → railKept s t →
        (s.loader.image.protection.warnMode = .limit → ownDemand t = ownDemand s + 12 ∧ cutFollows s t) ∧
        (s.loader.image.protection.warnMode ≠ .limit → ownDemand t = ownDemand s ∧ t.planner = s.planner)) := by
  refine ⟨_, exec_effect _ s, ?_⟩
  rw [effect_temperature hs hu]
  obtain ⟨condition, -, active, -, sticky⟩ := finish_heated_view (v := v) (s := s)
  have x := warned_of_recognised hc hv ha
  have demand : ownDemand (markFault .thermalWarn (temperatureRead v s)) =
      ownDemand s + if s.loader.image.protection.warnMode = .limit then 12 else 0 := ownDemand_markWarn (s := temperatureRead v s) ha
  refine ⟨by rw [condition, warnAdvance, advance_recognises hc (decide_eq_true hv)], fun hm => ?_, fun hm => ?_, fun hstays hk => ?_⟩
  · rw [active, sticky, x, if_pos hm]
    exact ⟨ha, rfl⟩
  · rw [if_neg hm] at x
    rw [active, sticky, x, (raised_protection _ _).1, (raised_protection _ _).2.1]
    refine ⟨rfl, rfl, fun hq => alertWaits_finish ?_⟩
    refine heated_spares.2.2.2.2 _ (by simp) ?_
    rw [x]
    exact raised_waits (s := temperatureRead v s) hq
  · have fin := finish_heated_of_shutStays hstays hk
    refine ⟨fun hm => ⟨?_, ?_⟩, fun hm => ?_⟩
    · rw [if_neg (by rw [hm]; decide)] at x
      rw [fin, x]
      show ownDemand (raised .thermalWarn (temperatureRead v s)) = _
      rw [ownDemand_raised, demand, if_pos hm]
    · rw [if_neg (by rw [hm]; decide)] at x
      rw [fin, x]
      show cutFollows s (raised .thermalWarn (temperatureRead v s))
      exact raised_cutFollows rfl (by rw [demand, if_pos hm, ownDemand_temperatureRead]; omega)
    · rw [if_neg hm] at demand
      rw [fin, x]
      by_cases hi : s.loader.image.protection.warnMode = .ignore
      · rw [if_pos hi]
        exact ⟨rfl, rfl⟩
      · rw [if_neg hi]
        refine ⟨?_, (raised_still (s := temperatureRead v s) demand).1⟩
        show ownDemand (raised .thermalWarn (temperatureRead v s)) = _
        rw [ownDemand_raised, demand]
        rfl

/-- And the second at its recovery. -/
theorem warn_cleared (hs : s.protection.scan = some 1) (hc : s.protection.conditions.thermalWarn = ⟨true, 1⟩)
    (hv : v ≤ s.loader.image.protection.warnThreshold - 5) (ha : s.protection.active.thermalWarn = true)
    (hu : s.controller.station ≠ .unconfigured) :
    ∃ t, exec (.senseSlot v) s = .next t ∧ t.protection.conditions.thermalWarn = ⟨false, 0⟩ ∧
      t.protection.active.thermalWarn = false ∧ t.protection.sticky.thermalWarn = s.protection.sticky.thermalWarn ∧
      (shutStays v s → railKept s t →
        (s.loader.image.protection.warnMode = .limit → ownDemand t + 12 = ownDemand s ∧ cutFollows s t) ∧
        (s.loader.image.protection.warnMode ≠ .limit → ownDemand t = ownDemand s ∧ t.planner = s.planner)) := by
  refine ⟨_, exec_effect _ s, ?_⟩
  rw [effect_temperature hs hu]
  obtain ⟨condition, -, active, -, sticky⟩ := finish_heated_view (v := v) (s := s)
  have x := warned_of_cleared hc hv ha
  have demand : ownDemand (unmarkFault .thermalWarn (temperatureRead v s)) +
      (if s.loader.image.protection.warnMode = .limit then 12 else 0) = ownDemand s := ownDemand_unmarkWarn (s := temperatureRead v s) ha
  rw [condition, active, sticky, x, (unraised_active _ _).1, (unraised_active _ _).2]
  refine ⟨by rw [warnAdvance, advance_clears hc (decide_eq_true hv)], rfl, rfl, fun hstays hk => ?_⟩
  have fin := finish_heated_of_shutStays hstays hk
  have own : ownDemand (finish (heated v s)) = ownDemand (unmarkFault .thermalWarn (temperatureRead v s)) := by
    rw [fin, x]; exact ownDemand_unraised
  rw [own]
  refine ⟨fun hm => ?_, fun hm => ?_⟩
  · rw [if_pos hm] at demand
    refine ⟨demand, ?_⟩
    rw [fin, x]
    show cutFollows s (unraised .thermalWarn (temperatureRead v s))
    exact unraised_cutFollows rfl (by rw [ownDemand_temperatureRead]; omega)
  · rw [if_neg hm] at demand
    refine ⟨demand, ?_⟩
    rw [fin, x]
    exact (unraised_still (s := temperatureRead v s) demand).1

end

end Sys2Proof.Machine
end

section
/-! PROOFS. THERMAL_SHUT and the SHUTDOWN it asks for (O36, the clauses of the shut temperature). -/

namespace Sys2Proof.Machine

/-! ### SHUTDOWN asked for -/

section
variable {s : State}

theorem askShutdown_up (h : s.controller.station ∈ [StationState.quiet, .railUp, .stabilising, .ready]) : askShutdown s =
    closeWindow { leaveReady .hard s with controller := { (leaveReady .hard s).controller with
      station := .shutdown, rail := .off, railGoodTimer := none, stabiliseTimer := none, railRetryTimer := none } } := by
  unfold askShutdown; dsimp only
  simp only [List.mem_cons, List.not_mem_nil, or_false] at h
  rcases h with h | h | h | h <;> rw [h]

theorem askShutdown_down (h : s.controller.station = .railDown) : askShutdown s = placeAll .rail .hard s := by
  unfold askShutdown; dsimp only; rw [h]

theorem askShutdown_off (h : s.controller.station = .resting ∨ s.controller.station = .conflict) : askShutdown s = s := by
  unfold askShutdown; dsimp only
  rcases h with h | h <;> rw [h]

theorem askShutdown_controller (h : s.controller.station ∈ [StationState.quiet, .railUp, .stabilising, .ready]) :
    (askShutdown s).controller = { s.controller with
      station := .shutdown, rail := .off, railGoodTimer := none, stabiliseTimer := none, railRetryTimer := none } := by
  rw [askShutdown_up h]
  simp

theorem askShutdown_railClaim (h : s.controller.station = .ready) (n : Channel) :
    ((askShutdown s).ramps.get n).claims.rail = some .hard := by
  have placed : ((leaveReady .hard s).ramps.get n).claims.get .rail = some .hard := by
    unfold leaveReady
    rw [if_pos h, placeAll_get, RampRecord.place_hard_claim]
  rw [askShutdown_up (by rw [h]; decide)]
  exact (claimHard_windowInvariant (c := .rail) (by decide) n).closeWindow placed

/-- A HARD RAIL claim raised over a SOFT one silences the channel at once (R116, R117). -/
theorem RampRecord.place_rail_silences {r : RampRecord} (hold : Nat) (hc : r.coherent) (h : r.claims.rail = some .soft) :
    (r.place hold .rail .hard).record.RestsUnderRail := by
  have engages : placementEngages .rail .hard r = true := by
    unfold placementEngages
    simp only [ClaimSet.get, h]
    decide
  have coherent := place_coherent hold .rail .hard hc
  have claim := RampRecord.place_hard_claim hold .rail r
  have phase : (r.place hold .rail .hard).record.phase = .silent := by
    rw [place_of_engaging engages]
    by_cases hp : r.phase = .silent
    · rw [engage_of_silent hold .hard (by exact hp)]; exact hp
    · rw [engage_hard hold (by exact hp)]; rfl
  exact ⟨coherent.2 phase, phase, by rw [show (r.place hold .rail .hard).record.claims.rail = some .hard from claim]; rfl⟩

end

/-! ### The second reading at the shut temperature -/

section
variable {v : Int} {s : State}

/-- A channel that fades under a SOFT RAIL claim. -/
def RampRecord.fadesUnderRail (r : RampRecord) : Prop := r.coherent ∧ r.claims.rail = some .soft

theorem fadesUnderRail_handInvariant (n : Channel) : HandInvariant fun s => (s.ramps.get n).fadesUnderRail :=
  (rampAt_windowInvariant n (Q := RampRecord.fadesUnderRail)
    (fun hold t cls r h => ⟨take_coherent hold t cls h.1, by rw [take_claims]; exact h.2⟩)
    fun {r} h => ⟨remove_coherent .fault h.1, by
      have kept := remove_get .fault .rail r
      rw [if_neg (by decide)] at kept
      exact kept.trans h.2⟩).toHandInvariant

theorem heated_of_recognised (hc : s.protection.conditions.thermalShut = ⟨false, 1⟩) (hv : s.loader.image.protection.shutThreshold ≤ v)
    (ha : s.protection.active.thermalShut = false) : heated v s = askShutdown (raised .thermalShut (warned v s)) := by
  have turn : (shutAdvance v s).2 = .recognised := by rw [shutAdvance, advance_recognises hc (decide_eq_true hv)]
  have inactive : (warned v s).protection.active.get .thermalShut = false := by
    rw [warned_sideTurn.active .thermalShut (by decide)]; exact ha
  unfold heated
  rw [turn]
  exact raiseFault_of_inactive inactive

theorem heated_of_cleared (hc : s.protection.conditions.thermalShut = ⟨true, 1⟩) (hv : v ≤ s.loader.image.protection.shutThreshold - 10)
    (ha : s.protection.active.thermalShut = true) : heated v s = reportRecovery (unraised .thermalShut (warned v s)) := by
  have turn : (shutAdvance v s).2 = .cleared := by rw [shutAdvance, advance_clears hc (decide_eq_true hv)]
  have active : (warned v s).protection.active.thermalShut = true := by
    exact (warned_sideTurn.active .thermalShut (by decide)).trans ha
  unfold heated
  rw [turn]
  show clearThermalFault .thermalShut (warned v s) = _
  rw [clearThermal_shut, if_pos active]

theorem shut_recognised (hs : s.protection.scan = some 1) (hc : s.protection.conditions.thermalShut = ⟨false, 1⟩)
    (hv : s.loader.image.protection.shutThreshold ≤ v) (ha : s.protection.active.thermalShut = false)
    (hu : s.controller.station ≠ .unconfigured) :
    ∃ t, exec (.senseSlot v) s = .next t ∧ t.protection.conditions.thermalShut = ⟨true, 0⟩ ∧
      t.protection.active.thermalShut = true ∧ t.protection.sticky.thermalShut = true ∧
      (queueHasPlace s → s.link.placesHeld < 7 → alertWaits ⟨.station .thermalShut, .active⟩ t) ∧
      (s.controller.station ∈ [.quiet, .railUp, .stabilising, .ready] →
        t.controller.station = .shutdown ∧ t.controller.rail = .off ∧ t.controller.railRetryTimer = none ∧
        t.controller.railGoodTimer = none ∧ t.controller.stabiliseTimer = none) ∧
      (s.controller.station = .ready → ∀ n, (t.ramps.get n).claims.rail = some .hard) ∧
      (s.controller.station = .railDown →
        (∀ n, (t.ramps.get n).claims.rail = some .hard) ∧
        (railDriven s → rampsCoherent s → (∀ n, (s.ramps.get n).claims.rail = some .soft) →
          railReleased t ∧ ∀ n, (t.ramps.get n).currentGain = .silent)) ∧
      (s.controller.station = .resting ∨ s.controller.station = .conflict →
        t.controller.station = s.controller.station) := by
  refine ⟨_, exec_effect _ s, ?_⟩
  rw [effect_temperature hs hu]
  obtain ⟨-, condition, -, active, -⟩ := finish_heated_view (v := v) (s := s)
  rw [condition, active, heated_of_recognised hc hv ha]
  have side := warned_sideTurn (v := v) (s := s)
  have place (hq : queueHasPlace s) (hp : s.link.placesHeld < 7) : queueHasPlace (warned v s) :=
    side.hasPlace (s := temperatureRead v s) hq hp
  have fades (n : Channel) (h : (s.ramps.get n).fadesUnderRail) : ((raised .thermalShut (warned v s)).ramps.get n).fadesUnderRail :=
    (fadesUnderRail_handInvariant n).raised (by decide)
      (plainTurn_preserves (fadesUnderRail_handInvariant n) (by decide) (warn_plainTurn _ _) (s := temperatureRead v s) h)
  have waits (hq : queueHasPlace s) (hp : s.link.placesHeld < 7) :
      .alert ⟨.station .thermalShut, .active⟩ ∈ (raised .thermalShut (warned v s)).link.bodies := raised_waits (place hq hp)
  have controller : (raised .thermalShut (warned v s)).controller = s.controller := by
    rw [(raised_sideTurn _ _).controller, side.controller]; rfl
  have marks := raised_protection .thermalShut (warned v s)
  generalize raised .thermalShut (warned v s) = r at *
  have view := askShutdown_thermalView r
  simp only [thermalView, Prod.mk.injEq] at view
  obtain ⟨-, -, -, shut, sticky⟩ := view
  refine ⟨by rw [shutAdvance, advance_recognises hc (decide_eq_true hv)], by rw [shut, marks.1]; rfl, ?_, fun hq hp => ?_,
    fun hup => ?_, fun hready n => ?_, fun hdown => ⟨fun n => ?_, fun hdriven hcoh hsoft => ?_⟩, fun hoff => ?_⟩
  · simp only [finish_keeps, sticky, marks.2.1]; rfl
  · exact alertWaits_finish (by simpa using waits hq hp)
  · have up := askShutdown_controller (s := r) (by rw [controller]; exact hup)
    rw [finish_of_not_railDown (by rw [up]; nofun)]
    show (askShutdown r).controller.station = _ ∧ (askShutdown r).controller.rail = _ ∧ (askShutdown r).controller.railRetryTimer = _ ∧
      (askShutdown r).controller.railGoodTimer = _ ∧ (askShutdown r).controller.stabiliseTimer = _
    rw [up]
    exact ⟨rfl, rfl, rfl, rfl, rfl⟩
  · have up := askShutdown_controller (s := r) (by rw [controller, hready]; decide)
    rw [finish_of_not_railDown (by rw [up]; nofun)]
    exact askShutdown_railClaim (by rw [controller]; exact hready) n
  · rw [askShutdown_down (by rw [controller]; exact hdown)]
    refine (claimHard_windowInvariant (c := .rail) (by decide) n).finish ?_
    rw [placeAll_get, RampRecord.place_hard_claim]
  · rw [askShutdown_down (by rw [controller]; exact hdown)]
    have rests (n : Channel) : ((placeAll .rail .hard r).ramps.get n).RestsUnderRail := by
      rw [placeAll_get]
      obtain ⟨coherent, soft⟩ := fades n ⟨hcoh n, hsoft n⟩
      exact RampRecord.place_rail_silences _ coherent soft
    refine ⟨finish_released (by simp [controller, hdown]) (by simpa [railDriven, controller] using hdriven)
      (List.all_eq_true.2 fun d _ => decide_eq_true (rests d.channel).1), fun n => (finish_restsUnderRail (rests n)).1⟩
  · rw [askShutdown_off (by rw [controller]; exact hoff)]
    simp [controller]

/-- A property of the claims alone that the end of FAULT keeps outlasts the handing of targets and the closing of the window. -/
theorem railClaim_windowInvariant (n : Channel) (k : Option SilencingKind) : WindowInvariant fun s => (s.ramps.get n).claims.rail = k :=
  rampAt_windowInvariant n (Q := fun r => r.claims.rail = k) (fun hold t cls r h => by rw [take_claims]; exact h) fun {r} h => by
    have kept := remove_get .fault .rail r
    rw [if_neg (by decide)] at kept
    exact kept.trans h

theorem shut_cleared (hs : s.protection.scan = some 1) (hc : s.protection.conditions.thermalShut = ⟨true, 1⟩)
    (hv : v ≤ s.loader.image.protection.shutThreshold - 10) (ha : s.protection.active.thermalShut = true)
    (hu : s.controller.station ≠ .unconfigured) :
    ∃ t, exec (.senseSlot v) s = .next t ∧ t.protection.conditions.thermalShut = ⟨false, 0⟩ ∧
      t.protection.active.thermalShut = false ∧ t.protection.sticky.thermalShut = s.protection.sticky.thermalShut ∧
      (s.controller.station = .shutdown →
        t.controller.station = railUpEnd s ∧ t.controller.rail = (if s.pins.railGood then .up else .rising) ∧
        ∀ n, (t.ramps.get n).claims.rail = (s.ramps.get n).claims.rail) ∧
      (s.controller.station ≠ .shutdown → t.controller.station = s.controller.station) := by
  refine ⟨_, exec_effect _ s, ?_⟩
  rw [effect_temperature hs hu]
  obtain ⟨-, condition, -, active, -⟩ := finish_heated_view (v := v) (s := s)
  rw [condition, active, heated_of_cleared hc hv ha]
  have side := warned_sideTurn (v := v) (s := s)
  have claims (n : Channel) : ((unraised .thermalShut (warned v s)).ramps.get n).claims.rail = (s.ramps.get n).claims.rail :=
    (railClaim_windowInvariant n _).toHandInvariant.unraised (by decide)
      (plainTurn_preserves (railClaim_windowInvariant n _).toHandInvariant (by decide) (warn_plainTurn _ _) (s := temperatureRead v s) rfl)
  have last := unraised_sideTurn .thermalShut (warned v s)
  have controller : (unraised .thermalShut (warned v s)).controller = s.controller := by rw [last.controller, side.controller]; rfl
  have pins : (unraised .thermalShut (warned v s)).pins = s.pins := by rw [last.pins, side.pins]; rfl
  obtain ⟨faults, marks⟩ := unraised_active .thermalShut (warned v s)
  have sticks : (warned v s).protection.sticky.thermalShut = s.protection.sticky.thermalShut := side.sticky .thermalShut (by decide)
  rw [← marks] at sticks
  generalize unraised .thermalShut (warned v s) = r at *
  have view := reportRecovery_thermalView r
  simp only [thermalView, Prod.mk.injEq] at view
  obtain ⟨-, -, -, shut, sticky⟩ := view
  refine ⟨by rw [shutAdvance, advance_clears hc (decide_eq_true hv)], by rw [shut, faults]; rfl, ?_, fun hdown => ?_, fun hup => ?_⟩
  · simp only [finish_keeps, sticky, sticks]
  · have e : reportRecovery r = enterRailUp r := if_pos (by rw [controller]; exact hdown)
    have up : railUpEnd r = railUpEnd s := by simp only [railUpEnd, pins]
    rw [e, finish_enterRailUp]
    show (enterRailUp r).controller.station = _ ∧ (enterRailUp r).controller.rail = _ ∧ ∀ n, ((enterRailUp r).ramps.get n).claims.rail = _
    rw [enterRailUp_controller, up, pins]
    refine ⟨rfl, rfl, fun n => ?_⟩
    rw [enterRailUp_ramps, leaveReady_of_not_ready (by rw [controller, hdown]; decide)]
    exact (railClaim_windowInvariant n _).closeWindow (s := railRising r) (claims n)
  · have e : reportRecovery r = r := if_neg (by rw [controller]; exact hup)
    rw [e]
    simp [controller]

end

end Sys2Proof.Machine
end

section
/-! PROOFS. The rail slot and RAIL_SAG (O36, the clauses of the sagging rail). -/

namespace Sys2Proof.Machine

/-! ### The rail slot -/

/-- How a rail reading moves the condition of RAIL_SAG (R145). -/
def sagAdvance (v : Int) (s : State) : Condition × ConditionTurn :=
  s.protection.conditions.railSag.advance (decide (v < s.loader.image.protection.sagThreshold))
    (decide (s.loader.image.protection.sagThreshold + 5 ≤ v))

/-- That of RAIL_LOW, which clears only while rail-good is present. -/
def lowAdvance (v : Int) (s : State) : Condition × ConditionTurn :=
  s.protection.conditions.railLow.advance (decide (v < s.loader.image.protection.lowThreshold))
    (decide (s.loader.image.protection.lowThreshold + 5 ≤ v) && s.pins.railGood)

/-- And that of RAIL_HIGH. -/
def highAdvance (v : Int) (s : State) : Condition × ConditionTurn :=
  s.protection.conditions.railHigh.advance (decide (s.loader.image.protection.highThreshold < v))
    (decide (v ≤ s.loader.image.protection.highThreshold - 5))

/-- The state in which a rail reading is kept and its conditions have moved, before the faults turn. -/
def railRead (v : Int) (s : State) : State :=
  { slotRead 0 v s with protection := { (slotRead 0 v s).protection with
    conditions := { s.protection.conditions with
      railSag := (sagAdvance v s).1, railLow := (lowAdvance v s).1, railHigh := (highAdvance v s).1 } } }

/-- RAIL_SAG has turned. -/
def sagTurned (v : Int) (s : State) : State :=
  turnFault .railSag true (clearRailFault .railSag) (sagAdvance v s).2 (railRead v s)

/-- RAIL_HIGH after it. -/
def highTurned (v : Int) (s : State) : State :=
  turnFault .railHigh (decide (s.loader.image.protection.railHighMode = .enable)) (clearRailFault .railHigh) (highAdvance v s).2
    (sagTurned v s)

/-- And RAIL_LOW last. -/
def lowTurned (v : Int) (s : State) : State :=
  turnFault .railLow true (clearRailFault .railLow) (lowAdvance v s).2 (highTurned v s)

section
variable {v : Int} {s : State}

theorem effect_rail (hs : s.protection.scan = some 0) (hw : windowOpen s) : effect (.senseSlot v) s = finish (lowTurned v s) := by
  rw [effect_slot hs, judgeSlot_rail, if_pos (railWindow_iff.2 (show windowOpen (slotRead 0 v s) from hw))]
  rfl

theorem sagTurned_sideTurn : SideTurn .railSag (railRead v s) (sagTurned v s) := sideTurn_of_plainTurn (sag_plainTurn _ _)

theorem highTurned_sideTurn : SideTurn .railHigh (sagTurned v s) (highTurned v s) := high_sideTurn _ _

/-- The faults beside RAIL_SAG and RAIL_HIGH, and the conditions, stand as RAIL_LOW turns. -/
theorem highTurned_keeps : (highTurned v s).controller = s.controller ∧ (highTurned v s).pins = s.pins ∧
    (highTurned v s).loader = s.loader ∧ (highTurned v s).protection.conditions = (railRead v s).protection.conditions ∧
    (highTurned v s).protection.active.railLow = s.protection.active.railLow ∧
    (highTurned v s).protection.sticky.railLow = s.protection.sticky.railLow := by
  have sag := sagTurned_sideTurn (v := v) (s := s)
  have high := highTurned_sideTurn (v := v) (s := s)
  exact ⟨high.controller.trans sag.controller, high.pins.trans sag.pins, high.loader.trans sag.loader, high.conditions.trans sag.conditions,
    (high.active .railLow (by decide)).trans (sag.active .railLow (by decide)),
    (high.sticky .railLow (by decide)).trans (sag.sticky .railLow (by decide))⟩

/-- A reading at or above the low threshold does not recognise RAIL_LOW. -/
theorem lowTurned_plainTurn (h : s.loader.image.protection.lowThreshold ≤ v) : plainTurn .railLow (highTurned v s) (lowTurned v s) := by
  have above : decide (v < s.loader.image.protection.lowThreshold) = false := decide_eq_false (by omega)
  have turn : (lowAdvance v s).2 ≠ .recognised := by
    unfold lowAdvance Condition.advance
    rw [above]
    split
    · split
      · split <;> simp
      · simp
    · simp
  unfold lowTurned
  cases ht : (lowAdvance v s).2 with
  | unchanged => exact .inl rfl
  | recognised => exact absurd ht turn
  | cleared =>
    show plainTurn _ _ (clearRailFault .railLow (highTurned v s))
    rw [clearRail_low]
    split
    next h => exact .inr (.inr ⟨h, rfl⟩)
    next => exact .inl rfl

end

/-! ### Turns beside the own demand -/

section
variable {f : StationFault} {s y : State}

theorem SideTurn.ownDemand (h : SideTurn f s y) (hw : .thermalWarn ≠ f) (hs : .railSag ≠ f) : ownDemand y = ownDemand s :=
  ownDemand_congr h.loader h.clip (h.active .thermalWarn hw) (h.active .railSag hs)

theorem SideTurn.greatestDemand (h : SideTurn f s y) (hw : .thermalWarn ≠ f) (hs : .railSag ≠ f) :
    greatestDemand y = greatestDemand s := greatestDemand_of_state (h.ownDemand hw hs) h.loader h.draws h.peers

theorem ownDemand_mark_beside (hw : f ≠ .thermalWarn) (hs : f ≠ .railSag) : Machine.ownDemand (markFault f s) = Machine.ownDemand s :=
  ownDemand_congr rfl rfl (PerFault.get_set_ne s.protection.active (g := .thermalWarn) hw.symm true)
    (PerFault.get_set_ne s.protection.active (g := .railSag) hs.symm true)

theorem ownDemand_unmark_beside (hw : f ≠ .thermalWarn) (hs : f ≠ .railSag) : Machine.ownDemand (unmarkFault f s) = Machine.ownDemand s :=
  ownDemand_congr rfl rfl (PerFault.get_set_ne s.protection.active (g := .thermalWarn) hw.symm false)
    (PerFault.get_set_ne s.protection.active (g := .railSag) hs.symm false)

theorem plainTurn_still (h : plainTurn f s y) (hw : f ≠ .thermalWarn) (hs : f ≠ .railSag) : y.planner = s.planner ∧ y.ramps = s.ramps := by
  rcases h with rfl | ⟨-, rfl⟩ | ⟨-, rfl⟩
  · exact ⟨rfl, rfl⟩
  · exact raised_still (ownDemand_mark_beside hw hs)
  · exact unraised_still (ownDemand_unmark_beside hw hs)

theorem highTurned_planner {v : Int} : (highTurned v s).planner = (sagTurned v s).planner := by
  unfold highTurned
  cases (highAdvance v s).2 with
  | unchanged => rfl
  | recognised =>
    show (if _ = true then raiseFault .railHigh (sagTurned v s) else sagTurned v s).planner = _
    split
    · cases h : (sagTurned v s).protection.active.get .railHigh with
      | true => rw [raiseFault_of_active h]
      | false =>
        rw [raiseFault_of_inactive h]
        have still := (raised_still (f := .railHigh) (s := sagTurned v s) (ownDemand_mark_beside (by decide) (by decide))).1
        simpa [faultAction] using still
    · rfl
  | cleared => exact clearRailFault_planner (ownDemand_unmark_beside (by decide) (by decide))

end

/-! ### RAIL_SAG -/

section
variable {v : Int} {s : State}

theorem sagContribution_inactive (h : s.protection.active.railSag = false) : sagContribution s = 0 := by
  unfold sagContribution; rw [h]; rfl

theorem sagContribution_active (h : s.protection.active.railSag = true) : sagContribution s = 12 := if_pos h

theorem ownDemand_markSag (h : s.protection.active.railSag = false) : ownDemand (markFault .railSag s) = ownDemand s + 12 := by
  have clip : (markFault .railSag s).protection.clip = s.protection.clip := rfl
  have thermal : thermalContribution (markFault .railSag s) = thermalContribution s := rfl
  have sag : sagContribution (markFault .railSag s) = 12 := sagContribution_active rfl
  rw [ownDemand, ownDemand, clip, thermal, sag, sagContribution_inactive h]

theorem ownDemand_unmarkSag (h : s.protection.active.railSag = true) : ownDemand (unmarkFault .railSag s) + 12 = ownDemand s := by
  have clip : (unmarkFault .railSag s).protection.clip = s.protection.clip := rfl
  have thermal : thermalContribution (unmarkFault .railSag s) = thermalContribution s := rfl
  have sag : sagContribution (unmarkFault .railSag s) = 0 := sagContribution_inactive rfl
  rw [ownDemand, ownDemand, clip, thermal, sag, sagContribution_active h]

theorem sagTurned_of_recognised (hc : s.protection.conditions.railSag = ⟨false, 1⟩) (hv : v < s.loader.image.protection.sagThreshold)
    (ha : s.protection.active.railSag = false) : sagTurned v s = raised .railSag (railRead v s) := by
  have turn : (sagAdvance v s).2 = .recognised := by rw [sagAdvance, advance_recognises hc (decide_eq_true hv)]
  unfold sagTurned
  rw [turn]
  exact raiseFault_of_inactive (f := .railSag) (s := railRead v s) ha

theorem sagTurned_of_cleared (hc : s.protection.conditions.railSag = ⟨true, 1⟩) (hv : s.loader.image.protection.sagThreshold + 5 ≤ v)
    (ha : s.protection.active.railSag = true) : sagTurned v s = unraised .railSag (railRead v s) := by
  have turn : (sagAdvance v s).2 = .cleared := by rw [sagAdvance, advance_clears hc (decide_eq_true hv)]
  unfold sagTurned
  rw [turn]
  show clearRailFault .railSag (railRead v s) = _
  rw [clearRail_sag, if_pos (show (railRead v s).protection.active.railSag = true from ha)]

theorem sag_recognised (hs : s.protection.scan = some 0) (hw : windowOpen s) (hc : s.protection.conditions.railSag = ⟨false, 1⟩)
    (hv : v < s.loader.image.protection.sagThreshold) (hl : s.loader.image.protection.lowThreshold ≤ v)
    (ha : s.protection.active.railSag = false) :
    ∃ t, exec (.senseSlot v) s = .next t ∧ t.protection.sticky.railSag = true ∧
      (railKept s t →
        t.protection.conditions.railSag = ⟨true, 0⟩ ∧ t.protection.active.railSag = true ∧
        ownDemand t = ownDemand s + 12 ∧ cutFollows s t ∧
        (queueHasPlace s → alertWaits ⟨.station .railSag, .active⟩ t)) := by
  refine ⟨_, exec_effect _ s, ?_⟩
  rw [effect_rail hs hw]
  have plain := lowTurned_plainTurn hl
  have low := sideTurn_of_plainTurn plain
  have lowStill := plainTurn_still plain (by decide) (by decide)
  have high := highTurned_sideTurn (v := v) (s := s)
  have highStill := highTurned_planner (s := s) (v := v)
  have x := sagTurned_of_recognised hc hv ha
  have demand : ownDemand (markFault .railSag (railRead v s)) = ownDemand s + 12 := ownDemand_markSag (s := railRead v s) ha
  have marks := raised_protection .railSag (railRead v s)
  rw [← x] at marks
  have follows : cutFollows s (sagTurned v s) := by
    rw [x]
    exact raised_cutFollows rfl (by rw [demand]; show _ ≠ ownDemand s; omega)
  have own : ownDemand (sagTurned v s) = ownDemand s + 12 := by rw [x, ownDemand_raised, demand]
  have waits (hq : queueHasPlace s) : .alert ⟨.station .railSag, .active⟩ ∈ (sagTurned v s).link.bodies := by
    rw [x]; exact raised_waits (s := railRead v s) hq
  refine ⟨?_, fun hk => ?_⟩
  · have stuck : (lowTurned v s).protection.sticky.railSag = true :=
      (low.sticky .railSag (by decide)).trans ((high.sticky .railSag (by decide)).trans (by rw [marks.2.1]; rfl))
    simpa using stuck
  · have fin := finish_of_railKept (s := s) (u := lowTurned v s) (low.controller.trans highTurned_keeps.1) hk
    refine ⟨?_, ?_, ?_, ?_, fun hq => ?_⟩
    · rw [fin]
      show (lowTurned v s).protection.conditions.railSag = _
      rw [low.conditions, highTurned_keeps.2.2.2.1]
      show (sagAdvance v s).1 = _
      rw [sagAdvance, advance_recognises hc (decide_eq_true hv)]
    · rw [fin]
      exact (low.active .railSag (by decide)).trans ((high.active .railSag (by decide)).trans (by rw [marks.1]; rfl))
    · rw [fin]
      show ownDemand (lowTurned v s) = _
      rw [low.ownDemand (by decide) (by decide), high.ownDemand (by decide) (by decide), own]
    · rw [fin]
      show cutFollows s (lowTurned v s)
      refine cutFollows_congr (t := sagTurned v s) ?_ ?_ ?_ ?_ follows
      · rw [lowStill.1, highStill]
      · rw [lowStill.1, highStill]
      · rw [lowStill.1, highStill]
      · rw [low.greatestDemand (by decide) (by decide), high.greatestDemand (by decide) (by decide)]
    · exact alertWaits_finish (low.alerts _ (by simp) (high.alerts _ (by simp) (waits hq)))

/-- RAIL_SAG is over in `t`, which holds the demands and the planner of `x`. -/
structure SagOver (x t : State) : Prop where
  condition : t.protection.conditions.railSag = ⟨false, 0⟩
  active : t.protection.active.railSag = false
  sticky : t.protection.sticky.railSag = x.protection.sticky.railSag
  planner : t.planner = x.planner
  own : ownDemand t = ownDemand x
  greatest : greatestDemand t = greatestDemand x

theorem SagOver.closeWindow {x t : State} (h : SagOver x t) : SagOver x (closeWindow t) where
  condition := by rw [closeWindow_conditions]; rfl
  active := by rw [closeWindow_active]; rfl
  sticky := by simpa using h.sticky
  planner := (closeWindow_planner h.active).trans h.planner
  own := (ownDemand_congr (by simp) (by simp) (by rw [closeWindow_active]; rfl) (by rw [closeWindow_active]; exact h.active.symm)).trans h.own
  greatest := (greatestDemand_of_state (ownDemand_congr (by simp) (by simp) (by rw [closeWindow_active]; rfl)
    (by rw [closeWindow_active]; exact h.active.symm)) (by simp) (by simp) (by simp)).trans h.greatest

/-- What holds the same of the sag, the demands and the planner is over alike. -/
theorem SagOver.beside {x t u : State} (h : SagOver x t) (hl : u.loader = t.loader) (hd : u.draws = t.draws) (hp : u.peers = t.peers)
    (hc : u.protection.clip = t.protection.clip) (hk : u.protection.conditions.railSag = t.protection.conditions.railSag)
    (hw : u.protection.active.thermalWarn = t.protection.active.thermalWarn)
    (hs : u.protection.active.railSag = t.protection.active.railSag) (hy : u.protection.sticky.railSag = t.protection.sticky.railSag)
    (hn : u.planner = t.planner) : SagOver x u where
  condition := hk.trans h.condition
  active := hs.trans h.active
  sticky := hy.trans h.sticky
  planner := hn.trans h.planner
  own := (ownDemand_congr hl hc hw hs).trans h.own
  greatest := (greatestDemand_of_state (ownDemand_congr hl hc hw hs) hl hd hp).trans h.greatest

theorem SagOver.turn {x t u : State} {f : StationFault} (h : SagOver x t) (hu : SideTurn f t u) (hw : .thermalWarn ≠ f)
    (hs : .railSag ≠ f) (hp : u.planner = t.planner) : SagOver x u :=
  h.beside hu.loader hu.draws hu.peers hu.clip (congrArg Conditions.railSag hu.conditions) (hu.active .thermalWarn hw)
    (hu.active .railSag hs) (hu.sticky .railSag hs) hp

/-- Entering RAIL_UP ends with the closing of the window, and what follows is of the controller and RAIL_FAIL alone. -/
theorem enterRailUp_closes (s : State) :
    enterRailUp s = enterStabilising (Machine.closeWindow (railRising (leaveReady .hard s))) ∨
      ∃ k, enterRailUp s = { Machine.closeWindow (railRising (leaveReady .hard s)) with controller := k } := by
  unfold enterRailUp railRising; dsimp only
  split
  · exact .inl rfl
  · exact .inr ⟨_, rfl⟩

theorem SagOver.enterRailUp {x t : State} (h : SagOver x t) : SagOver x (enterRailUp t) := by
  have left : SagOver x (leaveReady .hard t) :=
    h.beside (by simp) (by simp) (by simp) (by simp) (by simp) (by simp) (by simp) (by simp) (by simp)
  have rising : SagOver x (railRising (leaveReady .hard t)) := left.beside rfl rfl rfl rfl rfl rfl rfl rfl rfl
  have closed := rising.closeWindow
  have cases := enterRailUp_closes t
  generalize Machine.closeWindow (railRising (leaveReady .hard t)) = c at closed cases
  rcases cases with e | ⟨k, e⟩
  · rw [e]; exact closed.beside rfl rfl rfl rfl rfl rfl rfl rfl rfl
  · rw [e]; exact closed.beside rfl rfl rfl rfl rfl rfl rfl rfl rfl

theorem SagOver.finish {x t : State} (h : SagOver x t) : SagOver x (finish t) := by
  have taken : SagOver x (takeSilence t) := by
    unfold takeSilence; split
    · exact SagOver.closeWindow (h.beside rfl rfl rfl rfl rfl rfl rfl rfl rfl)
    · exact h
  exact taken.beside rfl rfl rfl rfl rfl rfl rfl rfl rfl

theorem sag_cleared (hs : s.protection.scan = some 0) (hw : windowOpen s) (hc : s.protection.conditions.railSag = ⟨true, 1⟩)
    (hv : s.loader.image.protection.sagThreshold + 5 ≤ v) (ha : s.protection.active.railSag = true) :
    ∃ t, exec (.senseSlot v) s = .next t ∧ t.protection.conditions.railSag = ⟨false, 0⟩ ∧
      t.protection.active.railSag = false ∧ t.protection.sticky.railSag = s.protection.sticky.railSag ∧
      ownDemand t + 12 = ownDemand s ∧ cutFollows s t := by
  refine ⟨_, exec_effect _ s, ?_⟩
  rw [effect_rail hs hw]
  have x := sagTurned_of_cleared hc hv ha
  have demand : ownDemand (unmarkFault .railSag (railRead v s)) + 12 = ownDemand s := ownDemand_unmarkSag (s := railRead v s) ha
  have follows : cutFollows s (sagTurned v s) := by
    rw [x]
    exact unraised_cutFollows rfl (by show _ ≠ ownDemand s; omega)
  have own : ownDemand (sagTurned v s) + 12 = ownDemand s := by rw [x, ownDemand_unraised, demand]
  obtain ⟨faults, marks⟩ := unraised_active .railSag (railRead v s)
  rw [← x] at faults marks
  have ended : SagOver (sagTurned v s) (sagTurned v s) :=
    { condition := by
        rw [sagTurned_sideTurn.conditions]
        show (sagAdvance v s).1 = _
        rw [sagAdvance, advance_clears hc (decide_eq_true hv)]
      active := by rw [faults]; rfl
      sticky := rfl, planner := rfl, own := rfl, greatest := rfl }
  have endedHigh : SagOver (sagTurned v s) (highTurned v s) := ended.turn highTurned_sideTurn (by decide) (by decide) highTurned_planner
  have plain {y : State} (h : plainTurn .railLow (highTurned v s) y) : SagOver (sagTurned v s) y :=
    endedHigh.turn (sideTurn_of_plainTurn h) (by decide) (by decide) (plainTurn_still h (by decide) (by decide)).1
  have endedLow : SagOver (sagTurned v s) (lowTurned v s) := by
    unfold lowTurned
    cases (lowAdvance v s).2 with
    | unchanged => exact endedHigh
    | recognised =>
      show SagOver _ (raiseFault .railLow (highTurned v s))
      cases h : (highTurned v s).protection.active.get .railLow with
      | true => rw [raiseFault_of_active h]; exact endedHigh
      | false =>
        rw [raiseFault_of_inactive h]
        have up := plain (.inr (.inl ⟨h, rfl⟩))
        unfold faultAction askRailUp; dsimp only
        split
        · exact up.enterRailUp
        · exact up.enterRailUp
        all_goals exact up
    | cleared =>
      show SagOver _ (clearRailFault .railLow (highTurned v s))
      rw [clearRail_low]
      split
      next h => exact plain (.inr (.inr ⟨h, rfl⟩))
      next => exact endedHigh
  have done := endedLow.finish
  refine ⟨done.condition, done.active, done.sticky.trans (by rw [marks]; rfl), by rw [done.own, own], ?_⟩
  exact cutFollows_congr (t := sagTurned v s) (by rw [done.planner]) (by rw [done.planner]) (by rw [done.planner]) done.greatest follows

end

end Sys2Proof.Machine
end

section
/-! PROOFS. RAIL_LOW, RAIL_HIGH and the whole of O36. -/

namespace Sys2Proof.Machine

section
variable {v : Int} {s : State}

/-! ### RAIL_LOW -/

theorem askRailUp_up (h : s.controller.station = .stabilising ∨ s.controller.station = .ready) : askRailUp s = enterRailUp s := by
  unfold askRailUp
  rcases h with h | h <;> rw [h]

theorem askRailUp_down (h : s.controller.station = .railDown) : askRailUp s = s := by
  unfold askRailUp; rw [h]

/-- Entering RAIL_UP closes the rail window: RAIL_LOW and RAIL_HIGH are over (R146, R157). -/
theorem enterRailUp_windowClosed (s : State) : (enterRailUp s).protection.conditions.railLow = ⟨false, 0⟩ ∧
    (enterRailUp s).protection.conditions.railHigh = ⟨false, 0⟩ ∧ (enterRailUp s).protection.active.railLow = false ∧
    (enterRailUp s).protection.active.railHigh = false := by
  have closed (k : Controller) : (closeWindow { leaveReady .hard s with controller := k }).protection.conditions.railLow = ⟨false, 0⟩ ∧
      (closeWindow { leaveReady .hard s with controller := k }).protection.conditions.railHigh = ⟨false, 0⟩ := by
    rw [closeWindow_conditions]; exact ⟨rfl, rfl⟩
  have conditions : (enterRailUp s).protection.conditions.railLow = ⟨false, 0⟩ ∧
      (enterRailUp s).protection.conditions.railHigh = ⟨false, 0⟩ := by
    unfold enterRailUp; dsimp only
    split
    · exact closed _
    · exact closed _
  refine ⟨conditions.1, conditions.2, ?_⟩
  rw [enterRailUp_active]
  split <;> exact ⟨rfl, rfl⟩

/-- So does the release of the rail at the end of a command. -/
theorem finish_window (s : State) : ((finish s).protection.conditions = s.protection.conditions ∧
      (finish s).protection.active = s.protection.active) ∨
    ((finish s).protection.conditions.railLow = ⟨false, 0⟩ ∧ (finish s).protection.conditions.railHigh = ⟨false, 0⟩ ∧
      (finish s).protection.active.railLow = false ∧ (finish s).protection.active.railHigh = false) := by
  by_cases h : s.controller.station = .railDown ∧ railEnable s = true ∧ allSilent s = true
  · have taken : takeSilence s = releaseRail s := if_pos h
    have released := releaseRail_released h.1
    rw [← taken] at released
    exact .inr ⟨released.2.2.2.2.1, released.2.2.2.2.2.1, released.2.2.2.2.2.2.2.2.1, released.2.2.2.2.2.2.2.2.2⟩
  · have taken : takeSilence s = s := if_neg h
    have e : finish s = refreshPresence s := by rw [finish, taken]
    exact .inl (by rw [e]; exact ⟨rfl, rfl⟩)

theorem lowTurned_of_recognised (hc : s.protection.conditions.railLow = ⟨false, 1⟩) (hv : v < s.loader.image.protection.lowThreshold)
    (ha : s.protection.active.railLow = false) : lowTurned v s = askRailUp (raised .railLow (highTurned v s)) := by
  have turn : (lowAdvance v s).2 = .recognised := by rw [lowAdvance, advance_recognises hc (decide_eq_true hv)]
  unfold lowTurned
  rw [turn]
  exact raiseFault_of_inactive (f := .railLow) (s := highTurned v s) (highTurned_keeps.2.2.2.2.1.trans ha)

theorem low_recognised (hs : s.protection.scan = some 0) (hw : windowOpen s) (hc : s.protection.conditions.railLow = ⟨false, 1⟩)
    (hv : v < s.loader.image.protection.lowThreshold) (ha : s.protection.active.railLow = false) :
    ∃ t, exec (.senseSlot v) s = .next t ∧ t.protection.sticky.railLow = true ∧
      (queueHasPlace s → s.link.placesHeld < 6 → alertWaits ⟨.station .railLow, .active⟩ t) ∧
      (s.controller.station = .stabilising ∨ s.controller.station = .ready →
        t.controller.station = railUpEnd s ∧ t.controller.rail = (if s.pins.railGood then .up else .rising) ∧
        t.controller.stabiliseTimer = (if s.pins.railGood then some 200 else none) ∧
        t.controller.railGoodTimer = (if s.pins.railGood then none else some 400) ∧
        t.protection.conditions.railLow = ⟨false, 0⟩ ∧ t.protection.active.railLow = false) ∧
      (s.controller.station = .ready → ∀ n, (t.ramps.get n).claims.rail = some .hard) ∧
      (s.controller.station = .railDown →
        t.controller.station = .railDown ∧
        (railKept s t → t.protection.conditions.railLow = ⟨true, 0⟩ ∧ t.protection.active.railLow = true)) := by
  refine ⟨_, exec_effect _ s, ?_⟩
  rw [effect_rail hs hw, lowTurned_of_recognised hc hv ha]
  obtain ⟨x_controller, x_pins, -, x_conditions, -, -⟩ := highTurned_keeps (v := v) (s := s)
  have last := raised_sideTurn .railLow (highTurned v s)
  have controller : (raised .railLow (highTurned v s)).controller = s.controller := last.controller.trans x_controller
  have pins : (raised .railLow (highTurned v s)).pins = s.pins := last.pins.trans x_pins
  have condition : (raised .railLow (highTurned v s)).protection.conditions.railLow = ⟨true, 0⟩ := by
    rw [last.conditions, x_conditions]
    show (lowAdvance v s).1 = _
    rw [lowAdvance, advance_recognises hc (decide_eq_true hv)]
  have waits (hq : queueHasPlace s) (hp : s.link.placesHeld < 6) :
      .alert ⟨.station .railLow, .active⟩ ∈ (raised .railLow (highTurned v s)).link.bodies := by
    have sag := sagTurned_sideTurn (v := v) (s := s)
    have le : (sagTurned v s).link.placesHeld ≤ s.link.placesHeld + 1 := sag.places hq
    have room : queueHasPlace (sagTurned v s) := sag.hasPlace (s := railRead v s) hq (show s.link.placesHeld < 7 by omega)
    exact raised_waits (highTurned_sideTurn.hasPlace room (by omega))
  obtain ⟨faults, marks, -⟩ := raised_protection .railLow (highTurned v s)
  have active : (raised .railLow (highTurned v s)).protection.active.railLow = true := by rw [faults]; rfl
  have sticky : (raised .railLow (highTurned v s)).protection.sticky.railLow = true := by rw [marks]; rfl
  generalize raised .railLow (highTurned v s) = r at *
  refine ⟨by simpa using sticky, fun hq hp => alertWaits_finish (by simpa using waits hq hp), fun hup => ?_, fun hready n => ?_,
    fun hdown => ⟨by simp [askRailUp_down (s := r) (by rw [controller]; exact hdown), controller, hdown], fun hk => ?_⟩⟩
  · have up : railUpEnd r = railUpEnd s := by simp only [railUpEnd, pins]
    rw [askRailUp_up (by rw [controller]; exact hup), finish_enterRailUp]
    show (enterRailUp r).controller.station = _ ∧ (enterRailUp r).controller.rail = _ ∧ (enterRailUp r).controller.stabiliseTimer = _ ∧
      (enterRailUp r).controller.railGoodTimer = _ ∧ (enterRailUp r).protection.conditions.railLow = _ ∧
      (enterRailUp r).protection.active.railLow = _
    rw [enterRailUp_controller, up, pins, (enterRailUp_windowClosed r).1, (enterRailUp_windowClosed r).2.2.1]
    exact ⟨rfl, rfl, rfl, rfl, rfl, rfl⟩
  · rw [askRailUp_up (by rw [controller]; exact .inr hready), finish_enterRailUp]
    exact enterRailUp_railClaim (by rw [controller]; exact hready) n
  · rw [askRailUp_down (by rw [controller]; exact hdown)] at hk ⊢
    rw [finish_of_railKept (s := s) controller hk]
    exact ⟨condition, active⟩

theorem low_cleared (hs : s.protection.scan = some 0) (hw : windowOpen s) (hc : s.protection.conditions.railLow = ⟨true, 1⟩)
    (hv : s.loader.image.protection.lowThreshold + 5 ≤ v) (ha : s.protection.active.railLow = true) :
    ∃ t, exec (.senseSlot v) s = .next t ∧ t.controller.station = s.controller.station ∧
      t.protection.sticky.railLow = s.protection.sticky.railLow ∧
      (s.pins.railGood = true → t.protection.conditions.railLow = ⟨false, 0⟩ ∧ t.protection.active.railLow = false) ∧
      (s.pins.railGood = false → railKept s t →
        t.protection.conditions.railLow = ⟨true, 0⟩ ∧ t.protection.active.railLow = true) := by
  refine ⟨_, exec_effect _ s, ?_⟩
  rw [effect_rail hs hw]
  obtain ⟨x_controller, -, -, x_conditions, x_active, x_sticky⟩ := highTurned_keeps (v := v) (s := s)
  have low := sideTurn_of_plainTurn (lowTurned_plainTurn (s := s) (v := v) (by omega))
  have condition : (lowTurned v s).protection.conditions.railLow = (lowAdvance v s).1 := by
    rw [low.conditions, x_conditions]; rfl
  have recovered : decide (s.loader.image.protection.lowThreshold + 5 ≤ v) = true := decide_eq_true hv
  have sticky : (lowTurned v s).protection.sticky.railLow = s.protection.sticky.railLow := by
    rcases lowTurned_plainTurn (s := s) (v := v) (by omega) with e | ⟨inactive, -⟩ | ⟨-, e⟩
    · rw [e, x_sticky]
    · exact absurd (x_active.trans ha) (by rw [show (highTurned v s).protection.active.railLow = false from inactive]; decide)
    · rw [e, (unraised_active _ _).2, x_sticky]
  refine ⟨by simp [low.controller, x_controller], by simpa using sticky, fun hg => ?_, fun hg hk => ?_⟩
  · have turn : lowAdvance v s = (⟨false, 0⟩, .cleared) := by rw [lowAdvance, advance_clears hc (by rw [recovered, hg]; rfl)]
    have cleared : lowTurned v s = unraised .railLow (highTurned v s) := by
      unfold lowTurned
      rw [turn]
      show clearRailFault .railLow (highTurned v s) = _
      rw [clearRail_low, if_pos (x_active.trans ha)]
    have inactive : (lowTurned v s).protection.active.railLow = false := by rw [cleared, (unraised_active _ _).1]; rfl
    rcases finish_window (lowTurned v s) with ⟨conditions, faults⟩ | ⟨lowCondition, -, lowActive, -⟩
    · rw [conditions, faults, condition, turn]
      exact ⟨rfl, inactive⟩
    · exact ⟨lowCondition, lowActive⟩
  · have turn : lowAdvance v s = (⟨true, 0⟩, .unchanged) := by
      rw [lowAdvance, hc, hg, Bool.and_false]; rfl
    have stays : lowTurned v s = highTurned v s := by unfold lowTurned; rw [turn]; rfl
    rw [finish_of_railKept (s := s) (low.controller.trans x_controller) hk]
    show (lowTurned v s).protection.conditions.railLow = _ ∧ (lowTurned v s).protection.active.railLow = _
    rw [condition, turn, stays, x_active]
    exact ⟨rfl, ha⟩

/-! ### RAIL_HIGH -/

theorem highTurned_of_recognised (hc : s.protection.conditions.railHigh = ⟨false, 1⟩)
    (hv : s.loader.image.protection.highThreshold < v) (hm : s.loader.image.protection.railHighMode = .enable)
    (ha : s.protection.active.railHigh = false) : highTurned v s = placeAll .fault .hard (raised .railHigh (sagTurned v s)) := by
  have turn : (highAdvance v s).2 = .recognised := by rw [highAdvance, advance_recognises hc (decide_eq_true hv)]
  have inactive : (sagTurned v s).protection.active.get .railHigh = false :=
    (sagTurned_sideTurn.active .railHigh (by decide)).trans ha
  unfold highTurned
  rw [turn]
  show (if decide (s.loader.image.protection.railHighMode = .enable) = true then raiseFault .railHigh (sagTurned v s)
    else sagTurned v s) = _
  rw [if_pos (decide_eq_true hm)]
  exact raiseFault_of_inactive inactive

/-- A coherent channel that FAULT does not hold. -/
def RampRecord.unfaulted (r : RampRecord) : Prop := r.coherent ∧ r.claims.fault = none

theorem unfaulted_handInvariant (n : Channel) : HandInvariant fun s => (s.ramps.get n).unfaulted :=
  (rampAt_windowInvariant n (Q := RampRecord.unfaulted) (fun hold t cls _ h => ⟨take_coherent hold t cls h.1, take_leaves_fault h.2⟩)
    fun h => ⟨remove_coherent .fault h.1, remove_leaves_fault _ h.2⟩).toHandInvariant

theorem high_recognised (hs : s.protection.scan = some 0) (hw : windowOpen s) (hc : s.protection.conditions.railHigh = ⟨false, 1⟩)
    (hv : s.loader.image.protection.highThreshold < v) (hl : s.loader.image.protection.lowThreshold ≤ v)
    (hm : s.loader.image.protection.railHighMode = .enable) (ha : s.protection.active.railHigh = false) :
    ∃ t, exec (.senseSlot v) s = .next t ∧ t.protection.sticky.railHigh = true ∧
      (railKept s t →
        t.protection.conditions.railHigh = ⟨true, 0⟩ ∧ t.protection.active.railHigh = true ∧
        (∀ n, (t.ramps.get n).claims.fault = some .hard ∧
          ((s.ramps.get n).coherent → (s.ramps.get n).claims.fault = none →
            (t.ramps.get n).phase = .silent ∧ (t.ramps.get n).currentGain = .silent)) ∧
        (queueHasPlace s → s.link.placesHeld < 7 → alertWaits ⟨.station .railHigh, .active⟩ t)) := by
  refine ⟨_, exec_effect _ s, ?_⟩
  rw [effect_rail hs hw]
  have plain := lowTurned_plainTurn hl
  have low := sideTurn_of_plainTurn plain
  have x := highTurned_of_recognised hc hv hm ha
  have marks := raised_protection .railHigh (sagTurned v s)
  have active : (highTurned v s).protection.active.railHigh = true := by rw [x]; simp [PerFault.set]
  have sticky : (highTurned v s).protection.sticky.railHigh = true := by rw [x]; simp [PerFault.set]
  have ramps : (lowTurned v s).ramps = (highTurned v s).ramps := (plainTurn_still plain (by decide) (by decide)).2
  have below : (raised .railHigh (sagTurned v s)).ramps = (sagTurned v s).ramps :=
    (raised_still (ownDemand_mark_beside (by decide) (by decide))).2
  refine ⟨?_, fun hk => ?_⟩
  · have stuck := (low.sticky .railHigh (by decide)).trans sticky
    have stuck' : (lowTurned v s).protection.sticky.railHigh = true := stuck
    simpa using stuck'
  · have fin := finish_of_railKept (s := s) (u := lowTurned v s) (low.controller.trans highTurned_keeps.1) hk
    refine ⟨?_, ?_, fun n => ?_, fun hq hp => ?_⟩
    · rw [fin]
      show (lowTurned v s).protection.conditions.railHigh = _
      rw [low.conditions, highTurned_keeps.2.2.2.1]
      show (highAdvance v s).1 = _
      rw [highAdvance, advance_recognises hc (decide_eq_true hv)]
    · rw [fin]
      exact (low.active .railHigh (by decide)).trans active
    · have held : (finish (lowTurned v s)).ramps.get n =
          (((sagTurned v s).ramps.get n).place (raised .railHigh (sagTurned v s)).loader.image.duckHold .fault .hard).record := by
        rw [fin, show (refreshPresence (lowTurned v s)).ramps = (lowTurned v s).ramps from rfl, ramps, x, placeAll_get, below]
      rw [held]
      refine ⟨RampRecord.place_hard_claim _ .fault _, fun hcoh hfault => ?_⟩
      have kept : ((sagTurned v s).ramps.get n).unfaulted :=
        plainTurn_preserves (unfaulted_handInvariant n) (by decide) (sag_plainTurn _ _) (s := railRead v s) ⟨hcoh, hfault⟩
      obtain ⟨phase, -⟩ := RampRecord.place_hard_silences (c := .fault) (raised .railHigh (sagTurned v s)).loader.image.duckHold kept.2
      exact ⟨phase, (place_coherent _ .fault .hard kept.1).2 phase⟩
    · have waits : .alert ⟨.station .railHigh, .active⟩ ∈ (highTurned v s).link.bodies := by
        have raisedWaits : .alert ⟨.station .railHigh, .active⟩ ∈ (raised .railHigh (sagTurned v s)).link.bodies :=
          raised_waits (sagTurned_sideTurn.hasPlace (s := railRead v s) hq hp)
        rw [x]
        simpa using raisedWaits
      exact alertWaits_finish (low.alerts _ (by simp) waits)

/-! ### RAIL_HIGH cleared -/

/-- A channel whose record is a reason for FAULT, and keeps it as `k`; or one with no reason, which FAULT no longer holds. -/
def faultSettled (n : Channel) (reason : Bool) (k : Option SilencingKind) (s : State) : Prop :=
  channelReason (s.protection.records.get n) = reason ∧ (s.ramps.get n).claims.fault = k ∧ (reason = true ∨ k = none)

/-- An operation on a channel that leaves FAULT leaves it settled. -/
theorem applyRamp_faultSettled {n m : Channel} {reason : Bool} {k : Option SilencingKind} {r : RampResult} {t : State}
    (hr : r.record.claims.fault = (t.ramps.get m).claims.fault) (h : faultSettled n reason k t) :
    faultSettled n reason k (applyRamp m r t) := by
  obtain ⟨why, claim, either⟩ := h
  refine ⟨?_, ?_, either⟩
  · rw [applyRamp_records]; split
    next hm => rw [channelReason_silenced, ← hm.1]; exact why
    next => exact why
  · rw [applyRamp_get]; split
    next hm => rw [hr, ← hm]; exact claim
    next => exact claim

theorem faultSettled_handInvariant (n : Channel) (reason : Bool) (k : Option SilencingKind) : HandInvariant (faultSettled n reason k) where
  frame hst h := by
    simp only [channelState, Prod.mk.injEq] at hst
    unfold faultSettled
    rw [hst.1, hst.2.1]
    exact h
  hand cause t d _ h := by
    unfold handTarget; dsimp only; split
    · exact h
    · exact applyRamp_faultSettled (t := t.setPlanned d.channel _) (by rw [take_claims]; rfl) h

theorem releaseFaultClaim_faultSettled {n m : Channel} {reason : Bool} {k : Option SilencingKind} {t : State}
    (h : faultSettled n reason k t) : faultSettled n reason k (releaseFaultClaim m t) := by
  unfold releaseFaultClaim
  split
  · exact h
  next hr =>
    obtain ⟨why, claim, either⟩ := h
    refine ⟨why, ?_, either⟩
    rw [removeClaim_get]; split
    next hm =>
      have none_ : k = none := either.resolve_left fun ht => hr (by rw [← hm, why, ht]; rfl)
      rw [remove_fault_claim, none_]
    next => exact claim

theorem faultSettled_windowInvariant (n : Channel) (reason : Bool) (k : Option SilencingKind) :
    WindowInvariant (faultSettled n reason k) := by
  refine { faultSettled_handInvariant n reason k with clearHigh := fun {t} h => ?_, offsets := fun {t} b h => ?_ }
  · rw [clearRail_high]; split
    · exact foldl_invariant (P := faultSettled n reason k)
        ((faultSettled_handInvariant n reason k).withDemand (f := unmarkFault .railHigh) h)
        (fun t m ht => releaseFaultClaim_faultSettled ht) allChannels
    · exact h
  · refine ⟨?_, h.2⟩
    simp only [clearOffsets, PerChannel.get_of]
    split
    · rw [channelReason_offsetClears]; exact h.1
    · exact h.1

theorem placeRail_faultSettled {n : Channel} {reason : Bool} {k : Option SilencingKind} (kind : SilencingKind) {t : State}
    (h : faultSettled n reason k t) : faultSettled n reason k (placeAll .rail kind t) :=
  foldl_invariant (P := faultSettled n reason k) h (fun t m ht => applyRamp_faultSettled
    (place_get_ne t.loader.image.duckHold .rail .fault kind (t.ramps.get m) (by decide)) ht) allChannels

theorem enterRailUp_faultSettled {n : Channel} {reason : Bool} {k : Option SilencingKind} {t : State}
    (h : faultSettled n reason k t) : faultSettled n reason k (enterRailUp t) := by
  have left : faultSettled n reason k (leaveReady .hard t) := by
    unfold leaveReady; split
    · exact placeRail_faultSettled .hard h
    · exact h
  have closed := (faultSettled_windowInvariant n reason k).closeWindow (s := railRising (leaveReady .hard t)) left
  have cases := enterRailUp_closes t
  generalize closeWindow (railRising (leaveReady .hard t)) = c at closed cases
  rcases cases with e | ⟨k, e⟩
  · rw [e]; exact closed
  · rw [e]; exact closed

/-- With RAIL_HIGH over, FAULT goes from every channel whose record is no reason for it (R149, R157). -/
theorem releaseAll_unfaults {n : Channel} {t : State} (ha : t.protection.active.railHigh = false)
    (hr : channelReason (t.protection.records.get n) = false) :
    ((allChannels.foldl (fun s n => releaseFaultClaim n s) t).ramps.get n).claims.fault = none := by
  have one := allChannels_foldl_at (fun t : State => (channelView n t, t.protection.active.railHigh)) (f := fun s m => releaseFaultClaim m s) n
    (fun t m hm => by rw [releaseFaultClaim_other (Ne.symm hm)]; simp) (fun t u h => by
      simp only [channelView, Prod.mk.injEq] at h
      obtain ⟨⟨ramp, record⟩, high⟩ := h
      unfold releaseFaultClaim
      rw [record, high]
      split
      · simp [channelView, ramp, record, high]
      · simp [channelView, removeClaim, ramp, record, high]) t
  simp only [channelView, Prod.mk.injEq] at one
  rw [one.1.1]
  unfold releaseFaultClaim
  rw [if_neg (by simp [ha, hr]), removeClaim_get, if_pos rfl, remove_fault_claim]

theorem highTurned_of_cleared (hc : s.protection.conditions.railHigh = ⟨true, 1⟩) (hv : v ≤ s.loader.image.protection.highThreshold - 5)
    (ha : s.protection.active.railHigh = true) : highTurned v s = clearRailFault .railHigh (sagTurned v s) ∧
      highTurned v s = allChannels.foldl (fun s n => releaseFaultClaim n s) (unraised .railHigh (sagTurned v s)) := by
  have turn : (highAdvance v s).2 = .cleared := by rw [highAdvance, advance_clears hc (decide_eq_true hv)]
  have active : (sagTurned v s).protection.active.railHigh = true := (sagTurned_sideTurn.active .railHigh (by decide)).trans ha
  have e : highTurned v s = clearRailFault .railHigh (sagTurned v s) := by unfold highTurned; rw [turn]; rfl
  refine ⟨e, ?_⟩
  rw [e, clearRail_high, if_pos active]

/-- What can follow as RAIL_LOW turns last. -/
theorem lowTurned_cases : plainTurn .railLow (highTurned v s) (lowTurned v s) ∨
    ((highTurned v s).protection.active.get .railLow = false ∧ lowTurned v s = askRailUp (raised .railLow (highTurned v s))) := by
  unfold lowTurned
  cases (lowAdvance v s).2 with
  | unchanged => exact .inl (.inl rfl)
  | recognised =>
    show plainTurn _ _ (raiseFault .railLow (highTurned v s)) ∨ (_ ∧ raiseFault .railLow (highTurned v s) = _)
    cases h : (highTurned v s).protection.active.get .railLow with
    | true => exact .inl (.inl (raiseFault_of_active h))
    | false => exact .inr ⟨rfl, raiseFault_of_inactive h⟩
  | cleared =>
    show plainTurn _ _ (clearRailFault .railLow (highTurned v s)) ∨ _
    rw [clearRail_low]
    split
    next h => exact .inl (.inr (.inr ⟨h, rfl⟩))
    next => exact .inl (.inl rfl)

theorem askRailUp_cases (s : State) : askRailUp s = s ∨ askRailUp s = enterRailUp s := by
  unfold askRailUp
  split
  · exact .inr rfl
  · exact .inr rfl
  all_goals exact .inl rfl

theorem lowTurned_faultSettled {n : Channel} {reason : Bool} {k : Option SilencingKind} (h : faultSettled n reason k (highTurned v s)) :
    faultSettled n reason k (lowTurned v s) := by
  rcases lowTurned_cases (v := v) (s := s) with plain | ⟨-, e⟩
  · exact plainTurn_preserves (faultSettled_handInvariant n reason k) (by decide) plain h
  · have up := (faultSettled_handInvariant n reason k).raised (f := .railLow) (by decide) h
    rw [e]
    rcases askRailUp_cases (raised .railLow (highTurned v s)) with e' | e' <;> rw [e']
    · exact up
    · exact enterRailUp_faultSettled up

/-- RAIL_HIGH over stays over as RAIL_LOW turns. -/
theorem lowTurned_highOver (hc : (highTurned v s).protection.conditions.railHigh = ⟨false, 0⟩)
    (ha : (highTurned v s).protection.active.railHigh = false) : (lowTurned v s).protection.conditions.railHigh = ⟨false, 0⟩ ∧
      (lowTurned v s).protection.active.railHigh = false ∧
      (lowTurned v s).protection.sticky.railHigh = (highTurned v s).protection.sticky.railHigh := by
  have side {y : State} (h : SideTurn .railLow (highTurned v s) y) : y.protection.conditions.railHigh = ⟨false, 0⟩ ∧
      y.protection.active.railHigh = false ∧ y.protection.sticky.railHigh = (highTurned v s).protection.sticky.railHigh :=
    ⟨by rw [h.conditions, hc], (h.active .railHigh (by decide)).trans ha, h.sticky .railHigh (by decide)⟩
  rcases lowTurned_cases (v := v) (s := s) with plain | ⟨-, e⟩
  · exact side (sideTurn_of_plainTurn plain)
  · have up := side (raised_sideTurn .railLow (highTurned v s))
    rw [e]
    rcases askRailUp_cases (raised .railLow (highTurned v s)) with e' | e' <;> rw [e']
    · exact up
    · obtain ⟨-, condition, -, active⟩ := enterRailUp_windowClosed (raised .railLow (highTurned v s))
      refine ⟨condition, active, ?_⟩
      rw [← up.2.2]
      simp

theorem high_cleared (hs : s.protection.scan = some 0) (hw : windowOpen s) (hc : s.protection.conditions.railHigh = ⟨true, 1⟩)
    (hv : v ≤ s.loader.image.protection.highThreshold - 5) (ha : s.protection.active.railHigh = true) :
    ∃ t, exec (.senseSlot v) s = .next t ∧ t.protection.conditions.railHigh = ⟨false, 0⟩ ∧
      t.protection.active.railHigh = false ∧ t.protection.sticky.railHigh = s.protection.sticky.railHigh ∧
      ∀ n, ((s.protection.records.get n).state ∈ [.clear, .reported] → (t.ramps.get n).claims.fault = none) ∧
        ((s.protection.records.get n).state ∈ [.ducking, .retryWait, .latched] →
          (t.ramps.get n).claims.fault = (s.ramps.get n).claims.fault) := by
  refine ⟨_, exec_effect _ s, ?_⟩
  rw [effect_rail hs hw]
  obtain ⟨x, released⟩ := highTurned_of_cleared hc hv ha
  have condition : (highTurned v s).protection.conditions.railHigh = ⟨false, 0⟩ := by
    rw [highTurned_keeps.2.2.2.1]
    show (highAdvance v s).1 = _
    rw [highAdvance, advance_clears hc (decide_eq_true hv)]
  have active : (highTurned v s).protection.active.railHigh = false := by rw [x, clearRailFault_active]; rfl
  have sticky : (highTurned v s).protection.sticky.railHigh = s.protection.sticky.railHigh := by
    have marks : (sagTurned v s).protection.sticky.railHigh = s.protection.sticky.railHigh :=
      sagTurned_sideTurn.sticky .railHigh (by decide)
    rw [x, ← marks]
    simp
  obtain ⟨lowCondition, lowActive, lowSticky⟩ := lowTurned_highOver condition active
  have ends : (finish (lowTurned v s)).protection.conditions.railHigh = ⟨false, 0⟩ ∧
      (finish (lowTurned v s)).protection.active.railHigh = false := by
    rcases finish_window (lowTurned v s) with ⟨conditions, faults⟩ | ⟨-, highCondition, -, highActive⟩
    · rw [conditions, faults]; exact ⟨lowCondition, lowActive⟩
    · exact ⟨highCondition, highActive⟩
  have settles {n : Channel} {reason : Bool} {k : Option SilencingKind} (h : faultSettled n reason k (highTurned v s)) :
      ((finish (lowTurned v s)).ramps.get n).claims.fault = k :=
    ((faultSettled_windowInvariant n reason k).finish (lowTurned_faultSettled h)).2.1
  refine ⟨ends.1, ends.2, by simpa using lowSticky.trans sticky, fun n => ⟨fun hn => ?_, fun hn => ?_⟩⟩
  · have reason : channelReason (s.protection.records.get n) = false := by
      unfold channelReason
      simp only [List.mem_cons, List.not_mem_nil, or_false] at hn
      rcases hn with hn | hn <;> rw [hn]
    have hand : HandInvariant fun t => channelReason (t.protection.records.get n) = false :=
      recordWith_handInvariant n (Q := fun r => channelReason r = false) fun m {r} h => by rw [channelReason_silenced]; exact h
    have sag : channelReason ((sagTurned v s).protection.records.get n) = false :=
      plainTurn_preserves hand (f := .railSag) (by decide) (sag_plainTurn _ _) (s := railRead v s) reason
    have after : channelReason ((unraised .railHigh (sagTurned v s)).protection.records.get n) = false :=
      hand.withDemand (f := unmarkFault .railHigh) (s := sagTurned v s) sag
    have kept := foldl_field (fun t => t.protection.records) (g := fun s n => releaseFaultClaim n s) (fun _ _ => by simp)
      allChannels (unraised .railHigh (sagTurned v s))
    refine settles (reason := false) ⟨?_, ?_, .inr rfl⟩
    · rw [released, kept]; exact after
    · rw [released]
      exact releaseAll_unfaults (by rw [(unraised_active _ _).1]; rfl) after
  · have reason : channelReason (s.protection.records.get n) = true := by
      unfold channelReason
      simp only [List.mem_cons, List.not_mem_nil, or_false] at hn
      rcases hn with hn | hn | hn <;> rw [hn]
    have sag : faultSettled n true (s.ramps.get n).claims.fault (sagTurned v s) :=
      plainTurn_preserves (faultSettled_handInvariant n true _) (by decide) (sag_plainTurn _ _) (s := railRead v s)
        ⟨reason, rfl, .inl rfl⟩
    refine settles (reason := true) ?_
    rw [x]
    exact (faultSettled_windowInvariant n true _).clearHigh sag

end

/-- Settles O36. -/
theorem stationFaultsTurnWithTheirConditions : Obligations.StationFaultsTurnWithTheirConditions := by
  intro v s p hp
  subst hp
  exact ⟨warn_recognised, warn_cleared, shut_recognised, shut_cleared, sag_recognised, sag_cleared, low_recognised, low_cleared,
    high_recognised, high_cleared⟩

end Sys2Proof.Machine
end

section
/-! PROOFS. The end of the start work (O5, O6). -/

namespace Sys2Proof.Machine

/-! ### Frames given to an empty queue -/

/-- A given frame with a free place, no SCENE and no OFFER, drops nothing. -/
theorem giveFrame_counters {b : FrameBody} {s : State} (hp : s.link.placesHeld < 8) (hs : b.kind ≠ .scene) (ho : b.isOffer = false) :
    (giveFrame b s).link.counters = s.link.counters ∧ (giveFrame b s).link.placesHeld ≤ s.link.placesHeld + 1 := by
  cases ha : admitsFrames s with
  | false =>
    have e : giveFrame b s = frameEnds b s := by
      unfold giveFrame; dsimp only
      rw [ha]
      rfl
    rw [e, frameEnds_of_not_offer ho, timerNotice_link]
    exact ⟨rfl, Nat.le_succ _⟩
  | true =>
    obtain ⟨-, ended, le, -, -⟩ := give_waits hp (sceneInTransmission_of_notScene hs s.link)
    have e : giveFrame b s = { s with link := (s.link.give true b).1 } := by
      unfold giveFrame; dsimp only
      rw [ha, ended]
    rw [e]
    refine ⟨?_, le⟩
    show (s.link.give true b).1.counters = _
    cases hr : replaceIn b s.link.waiting with
    | some w =>
      have replaced : s.link.give true b = ({ s.link with waiting := w }, none) := by simp [Link.give, hr]
      rw [replaced]
    | none => rw [give_takes_place hr (sceneInTransmission_of_notScene hs s.link) hp]; rfl

/-! ### The frames of the start -/

/-- The ALERTs of the faults found, and the first PRESENCE (R51, R160). -/
def startFrames (before : PerFault Bool) (s : State) : State :=
  startFirstPresence (alertIfNew .eqMemory before (alertIfNew .configBad before s))

section
variable (before : PerFault Bool) (s : State)

@[simp] theorem startFrames_keeps : (startFrames before s).pins = s.pins ∧ (startFrames before s).loader = s.loader ∧
    (startFrames before s).peers = s.peers ∧ (startFrames before s).scene = s.scene ∧
    (startFrames before s).speed.source = s.speed.source ∧ (startFrames before s).speed.state = s.speed.state ∧
    (startFrames before s).speed.desired = s.speed.desired ∧ (startFrames before s).speed.fallTimer = s.speed.fallTimer ∧
    (startFrames before s).link.isolated = s.link.isolated ∧ (startFrames before s).link.isolationTimer = s.link.isolationTimer ∧
    (startFrames before s).planner = s.planner ∧ (startFrames before s).ramps = s.ramps ∧
    (startFrames before s).equaliser = s.equaliser ∧ (startFrames before s).protection = s.protection ∧
    (startFrames before s).controller = s.controller := by
  simp [startFrames]

theorem startFrames_cycle {c : CycleTimerState} (hc : c ≠ .markQueued) (h : s.cycle.cycle = c) :
    (startFrames before s).cycle.cycle = c := by
  have alert (f : StationFault) {t : State} (ht : t.cycle.cycle = c) : (alertIfNew f before t).cycle.cycle = c := by
    unfold alertIfNew; split
    · exact giveFrame_cycle hc _ ht
    · exact ht
  exact startFirstPresence_cycle hc (alert _ (alert _ h))

/-- Three frames find places in an empty queue (R168). -/
theorem startFrames_counters {s : State} (h : s.link.waiting = []) : (startFrames before s).link.counters = s.link.counters := by
  have few : s.link.placesHeld ≤ 1 := by
    unfold Link.placesHeld
    rw [h]
    split <;> simp
  have alert (f : StationFault) {t : State} (ht : t.link.placesHeld < 8) :
      (alertIfNew f before t).link.counters = t.link.counters ∧ (alertIfNew f before t).link.placesHeld ≤ t.link.placesHeld + 1 := by
    unfold alertIfNew; split
    · exact giveFrame_counters ht (by simp [FrameBody.kind]) rfl
    · exact ⟨rfl, Nat.le_succ _⟩
  obtain ⟨first, firstLe⟩ := alert .configBad (t := s) (by omega)
  obtain ⟨second, secondLe⟩ := alert .eqMemory (t := alertIfNew .configBad before s) (by omega)
  generalize hu : alertIfNew .eqMemory before (alertIfNew .configBad before s) = u at second secondLe
  have third : (startFirstPresence u).link.counters = u.link.counters := by
    unfold startFirstPresence; split
    · exact (giveFrame_counters (s := { u with cycle := { u.cycle with presence := .presenceQueued } }) (show u.link.placesHeld < 8 by omega)
        (by simp [FrameBody.kind]) rfl).1
    · rfl
  unfold startFrames
  rw [hu, third, second, first]

end

/-! ### The station leaves STARTING -/

/-- The station has left STARTING for `d`, and the scan has started (R144, R179). -/
def departed (d : StationState) (s : State) : State :=
  { s with
    controller := { s.controller with station := d }
    loader := { s.loader with freshStart := false }
    protection := { s.protection with scan := some 0 } }

section
variable (before : PerFault Bool) (s : State)

theorem leaveStarting_quiet : leaveStarting .quiet before s = enterRailUp (startFrames before (startTimers (departed .quiet s))) := rfl

theorem leaveStarting_shutdown : leaveStarting .shutdown before s = startFrames before (startTimers (departed .shutdown s)) := rfl

theorem leaveStarting_unconfigured : leaveStarting .unconfigured before s = startFrames before (departed .unconfigured s) := rfl

@[simp] theorem startTimers_keeps : (startTimers s).pins = s.pins ∧ (startTimers s).loader = s.loader ∧
    (startTimers s).peers = s.peers ∧ (startTimers s).speed = s.speed ∧ (startTimers s).link = s.link ∧
    (startTimers s).planner = s.planner ∧ (startTimers s).ramps = s.ramps ∧ (startTimers s).equaliser = s.equaliser ∧
    (startTimers s).protection = s.protection ∧ (startTimers s).controller = s.controller ∧
    (startTimers s).cycle.cycle = .running (80 + s.loader.own.val) := by
  unfold startTimers; dsimp only
  split <;> simp [startCycle, cycleDuration, own, ms]

end

/-- The state in which a started station takes its frames. -/
def startedIn (d : StationState) (before : PerFault Bool) (s : State) : State :=
  startFrames before (startTimers (departed d s))

section
variable (d : StationState) (before : PerFault Bool) (s : State)

@[simp] theorem startedIn_keeps : (startedIn d before s).pins = s.pins ∧
    (startedIn d before s).loader = { s.loader with freshStart := false } ∧ (startedIn d before s).peers = s.peers ∧
    (startedIn d before s).speed.source = s.speed.source ∧ (startedIn d before s).speed.state = s.speed.state ∧
    (startedIn d before s).speed.desired = s.speed.desired ∧ (startedIn d before s).speed.fallTimer = s.speed.fallTimer ∧
    (startedIn d before s).link.isolated = s.link.isolated ∧ (startedIn d before s).link.isolationTimer = s.link.isolationTimer ∧
    (startedIn d before s).planner = s.planner ∧ (startedIn d before s).ramps = s.ramps ∧
    (startedIn d before s).equaliser = s.equaliser ∧ (startedIn d before s).protection = { s.protection with scan := some 0 } ∧
    (startedIn d before s).controller = { s.controller with station := d } := by
  simp [startedIn, departed]

theorem startedIn_scene : (startedIn d before s).scene =
    if s.scene.unit = .provisional then { s.scene with joinWindow := some 1200 } else s.scene := by
  simp [startedIn, departed]

theorem startedIn_cycle : (startedIn d before s).cycle.cycle = .running (80 + s.loader.own.val) :=
  startFrames_cycle before _ (by simp) (by simp [departed])

theorem startedIn_counters {s : State} (h : s.link.waiting = []) : (startedIn d before s).link.counters = s.link.counters := by
  have e := startFrames_counters before (s := startTimers (departed d s)) (by simpa [departed] using h)
  rw [show startedIn d before s = startFrames before (startTimers (departed d s)) from rfl, e]
  simp [departed]

end

/-! ### The self-test -/

section
variable {s : State}

@[simp] theorem selfTested_keeps (b : Bool) (s : State) : (selfTested b s).pins = s.pins ∧ (selfTested b s).loader = s.loader ∧
    (selfTested b s).peers = s.peers ∧ (selfTested b s).scene = s.scene ∧ (selfTested b s).speed = s.speed ∧
    (selfTested b s).link = s.link ∧ (selfTested b s).cycle = s.cycle ∧ (selfTested b s).planner = s.planner ∧
    (selfTested b s).ramps = s.ramps ∧ (selfTested b s).protection.scan = s.protection.scan ∧
    (selfTested b s).protection.readings = s.protection.readings ∧
    (selfTested b s).protection.conditions = s.protection.conditions ∧ (selfTested b s).protection.records = s.protection.records ∧
    (selfTested b s).protection.clip = s.protection.clip ∧ (selfTested b s).protection.riseGuard = s.protection.riseGuard ∧
    (selfTested b s).protection.clipFall = s.protection.clipFall ∧ (selfTested b s).equaliser.lateSwaps = s.equaliser.lateSwaps := by
  unfold selfTested; repeat' split
  all_goals simp [markFault, Equaliser.fill, Equaliser.failTest, Equaliser.abandon]

/-- The self-test marks EQ_MEMORY alone. -/
theorem selfTested_faults (b : Bool) (s : State) {f : StationFault} (hf : f ≠ .eqMemory) :
    (selfTested b s).protection.active.get f = s.protection.active.get f ∧
    (selfTested b s).protection.sticky.get f = s.protection.sticky.get f := by
  unfold selfTested; repeat' split
  · exact ⟨rfl, rfl⟩
  · exact ⟨rfl, rfl⟩
  · exact ⟨PerFault.get_set_ne _ hf _, PerFault.get_set_ne _ hf _⟩

theorem selfTested_sticky {b : Bool} {f : StationFault} (h : s.protection.sticky.get f = true) :
    (selfTested b s).protection.sticky.get f = true := by
  by_cases hf : f = .eqMemory
  · subst hf
    unfold selfTested; repeat' split
    · exact h
    · exact h
    · rfl
  · rw [(selfTested_faults b s hf).2, h]

theorem selfTested_passed (h : s.equaliser.bypass = false) : (selfTested true s).equaliser.bypass = false ∧
    (selfTested true s).equaliser.active = .of (bankFor s.loader.image (settingsOf s.scene.applied.content)) := by
  have e : selfTested true s = { s with equaliser := s.equaliser.fill s.loader.image (settingsOf s.scene.applied.content) } := by
    unfold selfTested; rw [h]; rfl
  rw [e]
  exact ⟨h, rfl⟩

theorem selfTested_failed (h : s.equaliser.bypass = false) : (selfTested false s).equaliser.bypass = true ∧
    (selfTested false s).protection.active.eqMemory = true ∧ (selfTested false s).protection.sticky.eqMemory = true := by
  have e : selfTested false s = { markFault .eqMemory { s with equaliser := s.equaliser.failTest s.draws } with draws := s.draws + 1 } := by
    unfold selfTested; rw [h]; rfl
  rw [e]
  exact ⟨rfl, rfl, rfl⟩

end

/-! ### A start after power-on or restart -/

theorem effect_start {straps : Station} {read : ImageRead} {selfTest : Bool} {s : State} (h : s.controller.station = .starting) :
    effect (.startComplete straps read selfTest) s = finish (startComplete straps read selfTest s) := by
  rw [effect_startComplete, if_pos h]

/-- Settles O5. -/
theorem startAfterPowerOnOrRestart : Obligations.StartAfterPowerOnOrRestart := by
  refine ⟨fun straps read selfTest image s hs hf hb hc => ⟨_, exec_effect _ s, ?_⟩,
    fun straps read selfTest s hs hf hcy hc => ⟨_, exec_effect _ s, ?_⟩⟩
  · have e : startComplete straps read selfTest s = enterRailUp (startedIn .quiet s.protection.active
        (selfTested selfTest (firstStart (takeImage straps read (some image) s)))) := by
      unfold startComplete afterCheck activeBefore; dsimp only
      rw [hf, if_neg (by decide), hc]
      rfl
    rw [effect_start hs, e, finish_enterRailUp]
    generalize hu : firstStart (takeImage straps read (some image) s) = u
    have u_keeps : u.loader.own = straps ∧ u.loader.image = image ∧ u.peers.entries.get straps = .self ∧
        u.scene = .resetWith image.startScene straps ∧ u.pins = s.pins ∧ u.equaliser = s.equaliser := by
      rw [← hu]; simp [firstStart, takeImage, Loader.loaded, own, hf]
    obtain ⟨u_own, u_image, u_self, u_scene, u_pins, u_equaliser⟩ := u_keeps
    have bypass : u.equaliser.bypass = false := by rw [u_equaliser]; exact hb
    have scene : (startedIn .quiet s.protection.active (selfTested selfTest u)).scene =
        { SceneUnit.resetWith image.startScene straps with joinWindow := some 1200 } := by
      rw [startedIn_scene, (selfTested_keeps selfTest u).2.2.2.1, u_scene]
      rfl
    have cycle : (startedIn .quiet s.protection.active (selfTested selfTest u)).cycle.cycle = .running (80 + straps.val) := by
      rw [startedIn_cycle, (selfTested_keeps selfTest u).2.1, u_own]
    have up : railUpEnd (startedIn .quiet s.protection.active (selfTested selfTest u)) = railUpEnd s := by simp [railUpEnd, u_pins]
    refine ⟨by simp [u_own], by simp [u_image], by simp [u_self], by simp [scene, SceneUnit.resetWith],
      by simp [scene, SceneUnit.resetWith, formApplied], by simp [scene], ?_, ?_, by simpa using cycle, by simp, fun ht => ?_, fun ht => ?_⟩
    · simp only [refreshPresence_keeps, enterRailUp_controller]
      exact up
    · simp only [refreshPresence_keeps, enterRailUp_controller]
      simp [u_pins]
    · subst ht
      obtain ⟨off, active⟩ := selfTested_passed bypass
      refine ⟨by simpa using off, fun n => ?_⟩
      simp only [refreshPresence_keeps, enterRailUp_keeps, startedIn_keeps, active, u_image, u_scene, PerChannel.get_of]
      rfl
    · subst ht
      obtain ⟨on, active, sticky⟩ := selfTested_failed bypass
      refine ⟨by simpa using on, ?_, by simpa using sticky⟩
      simp only [refreshPresence_keeps, enterRailUp_active, startedIn_keeps]
      split <;> exact active
  · have e : startComplete straps read selfTest s = startFrames s.protection.active (departed .unconfigured
        (selfTested selfTest (configBad (firstStart (takeImage straps read none s))))) := by
      unfold startComplete afterCheck activeBefore; dsimp only
      rw [hf, if_neg (by decide), hc]
      rfl
    rw [effect_start hs, e]
    generalize hu : configBad (firstStart (takeImage straps read none s)) = u
    have u_keeps : u.loader.own = straps ∧ u.loader.image = Image.unconfigured ∧ u.scene = .resetWith unconfiguredContent straps ∧
        u.cycle = s.cycle ∧ u.protection.active.configBad = true ∧ u.protection.sticky.configBad = true := by
      rw [← hu]; simp [configBad, firstStart, takeImage, Loader.loaded, own, hf, markFault, PerFault.set]
      rfl
    obtain ⟨u_own, u_image, u_scene, u_cycle, u_active, u_sticky⟩ := u_keeps
    obtain ⟨active, sticky⟩ := selfTested_faults selfTest u (f := .configBad) (by decide)
    have stopped : (startFrames s.protection.active (departed .unconfigured (selfTested selfTest u))).cycle.cycle = .stopped :=
      startFrames_cycle _ _ (by simp) (by simp [departed, u_cycle, hcy])
    rw [finish_of_not_railDown (by simp [departed])]
    refine ⟨by simp [departed], by simp [departed, u_own], by simp [departed, u_image, Image.unconfigured], by simp [departed, u_scene, SceneUnit.resetWith],
      by simp [departed, u_scene, SceneUnit.resetWith], by simp [departed, u_scene, SceneUnit.resetWith, formApplied], ?_, ?_,
      by simpa using stopped, by simp [departed]⟩
    · simp only [refreshPresence_keeps, startFrames_keeps]
      exact active.trans u_active
    · simp only [refreshPresence_keeps, startFrames_keeps]
      exact sticky.trans u_sticky

end Sys2Proof.Machine
end

section
/-! PROOFS. The fresh start from CONFLICT (O6). -/

namespace Sys2Proof.Machine

/-! ### A rail window in which nothing stands -/

theorem clearRailFault_of_inactive {f : StationFault} {s : State} (h : s.protection.active.get f = false) : clearRailFault f s = s :=
  if_neg (by rw [h]; decide)

/-- Where no rail fault and no offset condition stands the closing of the window moves no channel and no cut (R146). -/
theorem closeWindow_of_quiet {s : State} (hs : s.protection.active.railSag = false) (hl : s.protection.active.railLow = false)
    (hh : s.protection.active.railHigh = false) (ho : ∀ n, (s.protection.conditions.offset.get n).present = false) :
    (closeWindow s).planner = s.planner ∧ (closeWindow s).ramps = s.ramps ∧
      (closeWindow s).protection.records = s.protection.records := by
  have records : (PerChannel.of fun n => if (s.protection.conditions.offset.get n).present then
      (s.protection.records.get n).offsetClears else s.protection.records.get n) = s.protection.records :=
    PerChannel.ext_get fun n => by rw [PerChannel.get_of, ho n]; rfl
  unfold closeWindow; dsimp only
  rw [records, clearRailFault_of_inactive (f := .railSag) (by exact hs), clearRailFault_of_inactive (f := .railLow) (by exact hl),
    clearRailFault_of_inactive (f := .railHigh) (by exact hh)]
  exact ⟨rfl, rfl, rfl⟩

theorem enterRailUp_of_quiet {s : State} (hn : s.controller.station ≠ .ready) (hs : s.protection.active.railSag = false)
    (hl : s.protection.active.railLow = false) (hh : s.protection.active.railHigh = false)
    (ho : ∀ n, (s.protection.conditions.offset.get n).present = false) :
    (enterRailUp s).planner = s.planner ∧ (enterRailUp s).ramps = s.ramps ∧
      (enterRailUp s).protection.records = s.protection.records := by
  obtain ⟨ramps, records⟩ := enterRailUp_channels hn
  obtain ⟨-, closedRamps, closedRecords⟩ := closeWindow_of_quiet (s := railRising s) hs hl hh ho
  exact ⟨enterRailUp_planner hs, ramps.trans closedRamps, records.trans closedRecords⟩

/-! ### The fresh start that passes -/

/-- Where a fresh start goes on to with a checked image (R186). -/
def freshEnd (s u : State) : State := if s.protection.active.thermalShut then u else enterRailUp u

section
variable {s : State} {straps : Station} {read : ImageRead} {selfTest : Bool}

theorem startComplete_fresh {image : Image} (hf : s.loader.freshStart = true)
    (hc : checkImage straps (some s.loader.own) read = some image) : startComplete straps read selfTest s =
      freshEnd s (startedIn (if s.protection.active.thermalShut then .shutdown else .quiet) s.protection.active
        (selfTested selfTest (withDemand (takeImage straps read (some image)) s))) := by
  have shut : (selfTested selfTest (withDemand (takeImage straps read (some image)) s)).protection.active.thermalShut =
      s.protection.active.thermalShut := by
    have kept := (selfTested_faults selfTest (withDemand (takeImage straps read (some image)) s) (f := .thermalShut) (by decide)).1
    exact kept.trans (by simp [takeImage]; rfl)
  unfold startComplete afterCheck activeBefore freshEnd; dsimp only
  rw [hf, if_pos rfl, hc]
  dsimp only
  rw [shut]
  cases s.protection.active.thermalShut
  · exact leaveStarting_quiet _ _
  · exact leaveStarting_shutdown _ _

variable (s) in
@[simp] theorem freshEnd_keeps (x : State) : (freshEnd s x).pins = x.pins ∧ (freshEnd s x).loader = x.loader ∧
    (freshEnd s x).link = x.link ∧ (freshEnd s x).peers = x.peers ∧ (freshEnd s x).scene = x.scene ∧ (freshEnd s x).speed = x.speed ∧
    (freshEnd s x).planner.gapSet = x.planner.gapSet ∧ (freshEnd s x).planner.gapReview = x.planner.gapReview ∧
    (freshEnd s x).planner.duck = x.planner.duck ∧ (freshEnd s x).planner.duckTimer = x.planner.duckTimer ∧
    (freshEnd s x).equaliser = x.equaliser ∧ (freshEnd s x).protection.scan = x.protection.scan ∧
    (freshEnd s x).protection.clip = x.protection.clip ∧ (freshEnd s x).protection.riseGuard = x.protection.riseGuard ∧
    (freshEnd s x).protection.clipFall = x.protection.clipFall ∧ (freshEnd s x).protection.sticky = x.protection.sticky ∧
    (freshEnd s x).controller.stop = x.controller.stop := by
  unfold freshEnd; split <;> simp

/-- Of the temperature faults it leaves what stands. -/
theorem freshEnd_active (x : State) : (freshEnd s x).protection.active.thermalWarn = x.protection.active.thermalWarn ∧
    (freshEnd s x).protection.active.thermalShut = x.protection.active.thermalShut := by
  unfold freshEnd; split
  · exact ⟨rfl, rfl⟩
  · rw [enterRailUp_active]
    split <;> exact ⟨rfl, rfl⟩

end

/-- Settles O6. -/
theorem freshStartFromConflict : Obligations.FreshStartFromConflict := by
  refine fun straps read selfTest s hs hf => ⟨fun image hc => ⟨_, exec_effect _ s, ?_⟩, fun hc => ⟨_, exec_effect _ s, ?_⟩⟩
  · have demandLeaves : (withDemand (takeImage straps read (some image)) s).controller = s.controller ∧
        (withDemand (takeImage straps read (some image)) s).link = s.link ∧
        (withDemand (takeImage straps read (some image)) s).protection.active = s.protection.active ∧
        (withDemand (takeImage straps read (some image)) s).protection.sticky = s.protection.sticky := by simp [takeImage]
    obtain ⟨w_controller, w_link, w_active, w_sticky⟩ := demandLeaves
    have w_keeps : (withDemand (takeImage straps read (some image)) s).scene = s.scene ∧
        (withDemand (takeImage straps read (some image)) s).peers = s.peers ∧
        (withDemand (takeImage straps read (some image)) s).speed = s.speed ∧
        (withDemand (takeImage straps read (some image)) s).pins = s.pins ∧
        (withDemand (takeImage straps read (some image)) s).equaliser = s.equaliser ∧
        (withDemand (takeImage straps read (some image)) s).loader.own = s.loader.own ∧
        (withDemand (takeImage straps read (some image)) s).loader.image = image := by
      simp [takeImage, Loader.loaded, hf]
    obtain ⟨w_scene, w_peers, w_speed, w_pins, w_equaliser, w_own, w_image⟩ := w_keeps
    have w_planner : (withDemand (takeImage straps read (some image)) s).planner.gapSet = s.planner.gapSet ∧
        (withDemand (takeImage straps read (some image)) s).planner.gapReview = s.planner.gapReview ∧
        (withDemand (takeImage straps read (some image)) s).planner.duck = s.planner.duck ∧
        (withDemand (takeImage straps read (some image)) s).planner.duckTimer = s.planner.duckTimer := by simp [takeImage]
    obtain ⟨w_gapSet, w_gapReview, w_duck, w_duckTimer⟩ := w_planner
    have w_protection : (withDemand (takeImage straps read (some image)) s).protection.clip = s.protection.clip ∧
        (withDemand (takeImage straps read (some image)) s).protection.riseGuard = s.protection.riseGuard ∧
        (withDemand (takeImage straps read (some image)) s).protection.clipFall = s.protection.clipFall := by simp [takeImage]
    obtain ⟨w_clip, w_guard, w_fall⟩ := w_protection
    have w_still (h : image.protection.warnMode = s.loader.image.protection.warnMode) :
        (withDemand (takeImage straps read (some image)) s).planner = s.planner ∧
        (withDemand (takeImage straps read (some image)) s).ramps = s.ramps ∧
        (withDemand (takeImage straps read (some image)) s).protection = s.protection := by
      have same : ownDemand (takeImage straps read (some image) s) = ownDemand s := by
        show s.protection.clip + thermalContribution (takeImage straps read (some image) s) + sagContribution s = _
        unfold ownDemand thermalContribution
        rw [show (takeImage straps read (some image) s).loader.image = image from rfl, h]
        rfl
      rw [withDemand_of_same same]
      exact ⟨rfl, rfl, rfl⟩
    rw [effect_start hs, startComplete_fresh hf hc]
    generalize withDemand (takeImage straps read (some image)) s = w at *
    have tested (f : StationFault) (h : f ≠ .eqMemory) : (selfTested selfTest w).protection.active.get f = s.protection.active.get f := by
      rw [(selfTested_faults selfTest w h).1, w_active]
    generalize hd : (if s.protection.active.thermalShut then StationState.shutdown else .quiet) = d
    have away : (freshEnd s (startedIn d s.protection.active (selfTested selfTest w))).controller.station =
        if s.protection.active.thermalShut then .shutdown else railUpEnd s := by
      unfold freshEnd
      cases hshut : s.protection.active.thermalShut with
      | true => simp [← hd, hshut]
      | false => simp [enterRailUp_controller, railUpEnd, w_pins]
    have up : (freshEnd s (startedIn d s.protection.active (selfTested selfTest w))).controller.station ≠ .railDown := by
      rw [away]; split
      · decide
      · rcases railUpEnd_cases s with e | e <;> rw [e] <;> decide
    have scene := startedIn_scene d s.protection.active (selfTested selfTest w)
    have counters (h : s.link.waiting = []) := startedIn_counters d s.protection.active (s := selfTested selfTest w) (by simpa [w_link] using h)
    rw [finish_of_not_railDown up]
    refine ⟨by simp [w_own], by simp [w_image], ?_, ?_, ?_, ?_, ?_, by simp [w_peers], by simp [w_speed], by simp [w_speed], by simp [w_speed],
      by simp [w_speed], by simp [w_link], by simp [w_link], fun h => ?_, by simp [w_equaliser], by simp [w_gapSet], by simp [w_gapReview],
      by simp [w_duck], by simp [w_duckTimer], by simp [w_clip], by simp [w_guard], by simp [w_fall], by simp, ?_, ?_, fun f h => ?_,
      fun hm hsag hlow hhigh hoff => ?_, by simpa using away, by simp [w_controller]⟩
    · simp only [refreshPresence_keeps, freshEnd_keeps, scene, selfTested_keeps, w_scene]; split <;> rfl
    · simp only [refreshPresence_keeps, freshEnd_keeps, scene, selfTested_keeps, w_scene]; split <;> rfl
    · simp only [refreshPresence_keeps, freshEnd_keeps, scene, selfTested_keeps, w_scene]; split <;> rfl
    · simp only [refreshPresence_keeps, freshEnd_keeps, scene, selfTested_keeps, w_scene]; split <;> rfl
    · simp only [refreshPresence_keeps, freshEnd_keeps, scene, selfTested_keeps, w_scene]; split <;> rfl
    · simpa [w_link] using counters h
    · simp only [refreshPresence_keeps, freshEnd_active, startedIn_keeps]
      exact tested .thermalWarn (by decide)
    · simp only [refreshPresence_keeps, freshEnd_active, startedIn_keeps]
      exact tested .thermalShut (by decide)
    · simp only [refreshPresence_keeps, freshEnd_keeps, startedIn_keeps]
      exact selfTested_sticky (by rw [w_sticky]; exact h)
    · obtain ⟨planner, ramps, protection⟩ := w_still hm
      simp only [refreshPresence_keeps]
      have stays : (freshEnd s (startedIn d s.protection.active (selfTested selfTest w))).planner =
            (startedIn d s.protection.active (selfTested selfTest w)).planner ∧
          (freshEnd s (startedIn d s.protection.active (selfTested selfTest w))).ramps =
            (startedIn d s.protection.active (selfTested selfTest w)).ramps ∧
          (freshEnd s (startedIn d s.protection.active (selfTested selfTest w))).protection.records =
            (startedIn d s.protection.active (selfTested selfTest w)).protection.records := by
        unfold freshEnd
        split
        · exact ⟨rfl, rfl, rfl⟩
        · refine enterRailUp_of_quiet ?_ ?_ ?_ ?_ fun n => ?_
          · simp only [startedIn_keeps, ← hd]; split <;> decide
          · simp only [startedIn_keeps]; exact (tested .railSag (by decide)).trans hsag
          · simp only [startedIn_keeps]; exact (tested .railLow (by decide)).trans hlow
          · simp only [startedIn_keeps]; exact (tested .railHigh (by decide)).trans hhigh
          · simp only [startedIn_keeps, selfTested_keeps, protection]; exact hoff n
      rw [stays.1, stays.2.1, stays.2.2]
      simp only [startedIn_keeps, selfTested_keeps, planner, ramps, protection, and_self]
  · have e : startComplete straps read selfTest s = startFrames Protection.reset.active (departed .unconfigured
        (selfTested selfTest (configBad (freshStartFailed (takeImage straps read none s))))) := by
      unfold startComplete afterCheck activeBefore; dsimp only
      rw [hf, if_pos rfl, hc]
      rfl
    rw [effect_start hs, e]
    generalize hu : configBad (freshStartFailed (takeImage straps read none s)) = u
    have u_loader : u.loader.own = s.loader.own ∧ u.loader.image = Image.unconfigured := by
      rw [← hu]; simp [configBad, freshStartFailed, takeImage, Loader.loaded, hf, markFault]
    have u_scene : u.scene = .resetWith unconfiguredContent s.loader.own := by
      rw [← hu]; simp [configBad, freshStartFailed, takeImage, Loader.loaded, own, hf, markFault]
    have u_keeps : u.peers = s.peers ∧ u.link = s.link ∧ u.controller = s.controller ∧ u.equaliser.lateSwaps = s.equaliser.lateSwaps := by
      rw [← hu]; exact ⟨rfl, rfl, rfl, rfl⟩
    have u_reset : u.speed = .reset ∧ u.planner = .reset ∧ u.ramps = .all .reset ∧ u.protection.records = .all .reset ∧
        u.protection.clip = 0 := by rw [← hu]; exact ⟨rfl, rfl, rfl, rfl, rfl⟩
    have u_active : u.protection.active.configBad = true := by rw [← hu]; rfl
    have u_sticky (f : StationFault) (h : s.protection.sticky.get f = true) : u.protection.sticky.get f = true := by
      rw [← hu]
      show (s.protection.sticky.set .configBad true).get f = true
      by_cases hb : f = .configBad
      · subst hb; exact PerFault.get_set_self _ _ _
      · rw [PerFault.get_set_ne _ hb, h]
    obtain ⟨u_own, u_image⟩ := u_loader
    obtain ⟨u_peers, u_link, u_controller, u_late⟩ := u_keeps
    obtain ⟨u_speed, u_planner, u_ramps, u_records, u_clip⟩ := u_reset
    obtain ⟨active, -⟩ := selfTested_faults selfTest u (f := .configBad) (by decide)
    have counters (h : s.link.waiting = []) : (startFrames Protection.reset.active (departed .unconfigured (selfTested selfTest u))).link.counters =
        s.link.counters := by
      rw [startFrames_counters _ (by simpa [departed, u_link] using h)]
      simp [departed, u_link]
    rw [finish_of_not_railDown (by simp [departed])]
    refine ⟨by simp [departed], by simp [departed, u_own], by simp [departed, u_image, Image.unconfigured],
      by simp [departed, u_scene, SceneUnit.resetWith], by simp [departed, u_scene, SceneUnit.resetWith],
      by simp [departed, u_scene, SceneUnit.resetWith, formApplied], by simp [departed, u_speed, SpeedUnit.reset],
      by simp [departed, u_speed, SpeedUnit.reset], by simp [departed, u_peers], by simp [departed, u_planner, Planner.reset],
      by simp [departed, u_planner, Planner.reset], by simp [departed, u_planner, Planner.reset], fun n => ?_, fun n => ?_,
      by simp [departed, u_clip], by simp [departed, u_link], by simp [departed, u_link], fun h => by simpa using counters h,
      by simp [departed, u_late], ?_, fun f h => ?_, by simp [departed, u_controller]⟩
    · simp only [refreshPresence_keeps, startFrames_keeps, departed, selfTested_keeps, u_ramps, PerChannel.get_all]
      rfl
    · simp only [refreshPresence_keeps, startFrames_keeps, departed, selfTested_keeps, u_records, PerChannel.get_all]
      rfl
    · simp only [refreshPresence_keeps, startFrames_keeps]
      exact active.trans u_active
    · simp only [refreshPresence_keeps, startFrames_keeps]
      exact selfTested_sticky (u_sticky f h)

end Sys2Proof.Machine
end

section
/-! PROOFS. The terms of a target, and the first scene (O48). -/

namespace Sys2Proof.Machine

/-! ### The clamp -/

theorem clampTarget_level (ceiling k : Int) : clampTarget ceiling (.level k) =
    if min k ceiling < -120 then .silent else .level (min k ceiling) := rfl

theorem clampTarget_bounds {ceiling : Int} {x : Gain} {g : Int} (h : clampTarget ceiling x = .level g) : -120 ≤ g ∧ g ≤ ceiling := by
  cases x with
  | silent => cases h
  | level k =>
    rw [clampTarget_level] at h
    by_cases low : min k ceiling < -120
    · rw [if_pos low] at h; cases h
    · rw [if_neg low] at h
      cases h
      exact ⟨not_lt.1 low, min_le_right _ _⟩

/-! ### Sums of terms -/

theorem plus_silent_left (x : Gain) : plus .silent x = .silent := by cases x <;> rfl

theorem plus_silent_right (x : Gain) : plus x .silent = .silent := by cases x <;> rfl

theorem plus_level (a b : Int) : plus (.level a) (.level b) = .level (a + b) := rfl

section
variable (image : Image) (p : Planner) (c : Content) (d : RosterEntry)

theorem componentsFor_sum : (componentsFor image p c d).sum =
    plus (plus (plus (plus (plus (plus (plus (componentsFor image p c d).master (componentsFor image p c d).row)
      (componentsFor image p c d).side) (componentsFor image p c d).trim) (componentsFor image p c d).lift)
      (componentsFor image p c d).boost) (componentsFor image p c d).cut) (componentsFor image p c d).duck := rfl

/-- A silent term makes the sum silent (R103). -/
theorem componentsFor_silent (h : (componentsFor image p c d).master = .silent ∨ (componentsFor image p c d).row = .silent ∨
    (componentsFor image p c d).side = .silent) : (componentsFor image p c d).sum = .silent := by
  rw [componentsFor_sum]
  rcases h with h | h | h <;> simp only [h, plus_silent_left, plus_silent_right]

end

theorem masterTerm_eq (c : Content) : masterTerm c = if c.cabinMute = 1 ∨ c.volume = 0 then .silent else .level (2 * c.volume - 126) := by
  unfold masterTerm
  split
  · rfl
  · exact congrArg Gain.level (by omega)

/-! ### Row and side -/

section
variable (n : Int)

theorem rowTerm_front : rowTerm n (some .front) = if n = -15 then .silent else .level (if n < 0 then 4 * n else 0) := by
  show (if n = -15 then Gain.silent else Gain.level (-4 * max 0 (-n))) = _
  split
  · rfl
  · exact congrArg Gain.level (by split <;> omega)

theorem rowTerm_middle : rowTerm n (some .middle) = .level (-2 * n.natAbs) := congrArg Gain.level (by omega)

theorem rowTerm_rear : rowTerm n (some .rear) = if n = 15 then .silent else .level (if 0 < n then -4 * n else 0) := by
  show (if n = 15 then Gain.silent else Gain.level (-4 * max 0 n)) = _
  split
  · rfl
  · exact congrArg Gain.level (by split <;> omega)

theorem sideTerm_left : sideTerm n (some .left) = if n = 15 then .silent else .level (if 0 < n then -4 * n else 0) := by
  show (if n = 15 then Gain.silent else Gain.level (-4 * max 0 n)) = _
  split
  · rfl
  · exact congrArg Gain.level (by split <;> omega)

theorem sideTerm_centre : sideTerm n (some .centre) = .level (-2 * n.natAbs) := congrArg Gain.level (by omega)

theorem sideTerm_right : sideTerm n (some .right) = if n = -15 then .silent else .level (if n < 0 then 4 * n else 0) := by
  show (if n = -15 then Gain.silent else Gain.level (-4 * max 0 (-n))) = _
  split
  · rfl
  · exact congrArg Gain.level (by split <;> omega)

end

theorem rowOf_of_mem {p : Position} :
    (p ∈ [Position.frontLeft, .frontCentre, .frontRight] → rowOf p = some .front) ∧
    (p ∈ [Position.middleLeft, .middleCentre, .middleRight] → rowOf p = some .middle) ∧
    (p ∈ [Position.rearLeft, .rearCentre, .rearRight] → rowOf p = some .rear) := by
  cases p <;> decide

theorem sideOf_of_mem {p : Position} :
    (p ∈ [Position.frontLeft, .middleLeft, .rearLeft] → sideOf p = some .left) ∧
    (p ∈ [Position.frontCentre, .middleCentre, .rearCentre] → sideOf p = some .centre) ∧
    (p ∈ [Position.frontRight, .middleRight, .rearRight] → sideOf p = some .right) := by
  cases p <;> decide

/-! ### The gap boost -/

/-- The model's adjacency is the table of R97. -/
theorem adjacent_iff (p q : Position) : adjacent p q = true ↔ q ∈ beside p := by
  cases p <;> cases q <;> decide

theorem boostTerm_eq (boost : Int) (gaps : List Position) (d : RosterEntry) : boostTerm boost gaps d =
    if d.role ≠ .low ∧ ∃ p ∈ gaps, p = d.position ∨ p ∈ beside d.position then boost else 0 := by
  have fills : fillsGaps d.role = true ↔ d.role ≠ .low := by cases d.role <;> decide
  have near : gaps.any (fun p => decide (p = d.position) || adjacent d.position p) = true ↔
      ∃ p ∈ gaps, p = d.position ∨ p ∈ beside d.position := by
    simp only [List.any_eq_true, Bool.or_eq_true, decide_eq_true_eq, adjacent_iff]
  unfold boostTerm
  simp only [Bool.and_eq_true, fills, near]

/-! ### The target -/

theorem targetNow_of_silent {s : State} {d : RosterEntry}
    (h : (componentsFor s.loader.image s.planner s.scene.applied.content d).sum = .silent) : targetNow s d = .silent := by
  unfold targetNow; rw [h]; rfl

/-- The eight terms as their rules give them (R93 to R97, R101 to R103). -/
theorem terms_of_target (s : State) (d : RosterEntry) (c : Content) (terms : Components) (hc : c = s.scene.applied.content)
    (ht : terms = componentsFor s.loader.image s.planner c d) :
    terms.master = (if c.cabinMute = 1 ∨ c.volume = 0 then .silent else .level (2 * c.volume - 126)) ∧
    (d.position ∈ [.frontLeft, .frontCentre, .frontRight] →
      terms.row = if c.fade = -15 then .silent else .level (if c.fade < 0 then 4 * c.fade else 0)) ∧
    (d.position ∈ [.middleLeft, .middleCentre, .middleRight] → terms.row = .level (-2 * c.fade.natAbs)) ∧
    (d.position ∈ [.rearLeft, .rearCentre, .rearRight] →
      terms.row = if c.fade = 15 then .silent else .level (if 0 < c.fade then -4 * c.fade else 0)) ∧
    (d.position ∈ [.frontLeft, .middleLeft, .rearLeft] →
      terms.side = if c.balance = 15 then .silent else .level (if 0 < c.balance then -4 * c.balance else 0)) ∧
    (d.position ∈ [.frontCentre, .middleCentre, .rearCentre] → terms.side = .level (-2 * c.balance.natAbs)) ∧
    (d.position ∈ [.frontRight, .middleRight, .rearRight] →
      terms.side = if c.balance = -15 then .silent else .level (if c.balance < 0 then 4 * c.balance else 0)) ∧
    (d.position = .cabin → terms.row = .level 0 ∧ terms.side = .level 0) ∧
    terms.trim = .level d.trim ∧ terms.lift = .level (if d.speedLift then c.speedStep else 0) ∧
    (d.role ≠ .low → (∃ p ∈ s.planner.gapSet, p = d.position ∨ p ∈ beside d.position) →
      terms.boost = .level s.loader.image.gapBoost) ∧
    (d.role = .low ∨ (∀ p ∈ s.planner.gapSet, p ≠ d.position ∧ p ∉ beside d.position) → terms.boost = .level 0) ∧
    terms.cut = .level (-(s.planner.cut : Int)) ∧ terms.duck = .level (if s.planner.duck = .on then -24 else 0) ∧
    (terms.master = .silent ∨ terms.row = .silent ∨ terms.side = .silent →
      terms.sum = .silent ∧ targetNow s d = .silent) ∧
    (∀ master row side trim lift boost cut duck : Int,
      terms = { master := .level master, row := .level row, side := .level side, trim := .level trim, lift := .level lift,
                boost := .level boost, cut := .level cut, duck := .level duck, sum := terms.sum } →
      terms.sum = .level (master + row + side + trim + lift + boost + cut + duck) ∧
      ∀ total, total = master + row + side + trim + lift + boost + cut + duck →
        (d.ceiling < total → -120 ≤ d.ceiling → targetNow s d = .level d.ceiling) ∧
        (total ≤ d.ceiling → -120 ≤ total → targetNow s d = .level total) ∧
        (total < -120 → targetNow s d = .silent)) := by
  have row : terms.row = rowTerm c.fade (rowOf d.position) := by rw [ht]; rfl
  have side : terms.side = sideTerm c.balance (sideOf d.position) := by rw [ht]; rfl
  have boost : terms.boost = .level (boostTerm s.loader.image.gapBoost s.planner.gapSet d) := by rw [ht]; rfl
  have now : targetNow s d = clampTarget d.ceiling terms.sum := by rw [ht, hc]; rfl
  obtain ⟨front, middle, rear⟩ := rowOf_of_mem (p := d.position)
  obtain ⟨left, centre, right⟩ := sideOf_of_mem (p := d.position)
  refine ⟨by rw [ht]; exact masterTerm_eq c, fun h => by rw [row, front h]; exact rowTerm_front _,
    fun h => by rw [row, middle h]; exact rowTerm_middle _, fun h => by rw [row, rear h]; exact rowTerm_rear _,
    fun h => by rw [side, left h]; exact sideTerm_left _, fun h => by rw [side, centre h]; exact sideTerm_centre _,
    fun h => by rw [side, right h]; exact sideTerm_right _, fun h => by rw [row, side, h]; exact ⟨rfl, rfl⟩,
    by rw [ht]; rfl, by rw [ht]; rfl, fun hr hp => ?_, fun h => ?_, by rw [ht]; rfl, ?_, fun h => ?_,
    fun master row side trim lift boost cut duck h => ?_⟩
  · rw [boost, boostTerm_eq, if_pos ⟨hr, hp⟩]
  · rw [boost, boostTerm_eq, if_neg]
    rintro ⟨hr, p, hm, hp⟩
    rcases h with h | h
    · exact hr h
    · exact hp.elim (h p hm).1 (h p hm).2
  · rw [ht]
    show Gain.level (duckTerm s.planner.duck) = _
    cases s.planner.duck <;> rfl
  · have silent : terms.sum = .silent := by rw [ht] at h ⊢; exact componentsFor_silent _ _ _ _ h
    exact ⟨silent, by rw [now, silent]; rfl⟩
  · have sum : terms.sum = .level (master + row + side + trim + lift + boost + cut + duck) := by
      have chain := componentsFor_sum s.loader.image s.planner c d
      rw [← ht, h] at chain
      exact chain
    refine ⟨sum, fun total e => ?_⟩
    rw [now, sum, ← e, clampTarget_level]
    refine ⟨fun hlt hc => ?_, fun hle hc => ?_, fun hlow => ?_⟩
    · rw [min_eq_right hlt.le, if_neg (not_lt.2 hc)]
    · rw [min_eq_left hle, if_neg (not_lt.2 hc)]
    · rw [if_pos (lt_of_le_of_lt (min_le_left _ _) hlow)]

/-! ### The first scene -/

theorem leaveSilence_target (r : RampRecord) : r.leaveSilence.target = r.target := by
  unfold RampRecord.leaveSilence; dsimp only
  repeat' split
  all_goals rfl

theorem remove_target (c : Claim) (r : RampRecord) : (r.remove c).target = r.target := by
  unfold RampRecord.remove
  split
  · rfl
  · dsimp only
    split
    · exact leaveSilence_target r
    · rfl

/-- The first scene hands every roster channel its target at SCENE, and PROVISIONAL goes after it (R19). -/
theorem leaveProvisional_hands {a : AppliedScene} {s : State} (hg : a.generation ≠ none)
    (hp : ∀ n, (s.ramps.get n).claims.provisional.isSome = true)
    (hd : allDistinct (s.loader.image.roster.map RosterEntry.channel) = true) :
    targetsCurrent (leaveProvisional a s) ∧ newTargetsHandedAt .scene s (leaveProvisional a s) := by
  generalize hy : ({ s with
    scene := { s.scene with unit := .agreed, applied := a, joinWindow := none }
    equaliser := s.equaliser.sceneApplied s.loader.image (settingsOf a.content) } : State) = y
  have y_keeps : y.planner = s.planner ∧ y.ramps = s.ramps ∧ y.loader = s.loader := by rw [← hy]; exact ⟨rfl, rfl, rfl⟩
  obtain ⟨y_planner, y_ramps, y_loader⟩ := y_keeps
  have e : leaveProvisional a s = announce (removeAll .provisional (handTargets .scene y)) := by rw [← hy]; rfl
  have ramps (n : Channel) : ((leaveProvisional a s).ramps.get n).target = ((handTargets .scene y).ramps.get n).target := by
    rw [e, show (announce (removeAll .provisional (handTargets .scene y))).ramps = (removeAll .provisional (handTargets .scene y)).ramps by
      simp, removeAll_get, remove_target]
  have planner : (leaveProvisional a s).planner = (handTargets .scene y).planner := by rw [e]; simp
  have hands : handsTargets .scene y (leaveProvisional a s) := by
    intro d hm
    have handed := handTargets_of_generation (cause := .scene) (s := y) (by rw [← hy]; exact hg) (by rw [y_loader]; exact hd) d hm
    unfold handedFrom at handed ⊢
    rw [planner, ramps]
    exact handed
  have still : noneInFlight s := fun d _ => .inl fun h => by
    have held := hp d.channel
    rw [h] at held
    cases held
  refine ⟨targetsCurrent_of_hands hands (by simp [y_loader]) fun d => ?_,
    newTargets_of_hands hands (by simp [y_loader]) (by rw [y_planner]) y_ramps (by rw [y_loader]) still⟩
  rw [← handTargets_targetNow .scene y d, e]
  exact targetNow_congr (by simp) (by simp) (by simp) (by simp) (by simp) d

/-- Settles O48. -/
theorem targetsAreBoundedAndHandedWithTheFirstScene : Obligations.TargetsAreBoundedAndHandedWithTheFirstScene := by
  refine ⟨fun s d => ⟨fun g h => clampTarget_bounds h, fun h => ?_⟩, terms_of_target,
    fun rx sc s hr hl hn hi hsc hu hp hd => ⟨_, exec_effect _ s, fun hk => ?_⟩⟩
  · refine targetNow_of_silent (componentsFor_silent _ _ _ _ (.inl ?_))
    exact (masterTerm_eq _).trans (if_pos h)
  · have heard := heard_goodFrame s
    have taken : takeScene sc (goodFrame s) = leaveProvisional (asApplied sc) (withdrawScene sc (goodFrame s)) :=
      takeScene_provisional (heard.listening hl) hsc (by rw [heard.scene]; exact hu)
    have e : effect (.sceneReceived rx sc) s = finish (leaveProvisional (asApplied sc) (withdrawScene sc (goodFrame s))) := by
      rw [effect_sceneReceived, received_awake hr hn (by rw [taken]; simpa using hn), taken]
    have w_keeps : (withdrawScene sc (goodFrame s)).planner = s.planner ∧ (withdrawScene sc (goodFrame s)).ramps = s.ramps ∧
        (withdrawScene sc (goodFrame s)).loader = s.loader := by
      rw [goodFrame_of_not_isolated hi]; simp
    obtain ⟨w_planner, w_ramps, w_loader⟩ := w_keeps
    rw [e] at hk ⊢
    obtain ⟨current, handed⟩ := leaveProvisional_hands (a := asApplied sc) (s := withdrawScene sc (goodFrame s)) (by simp [asApplied])
      (by rw [w_ramps]; exact hp) (by rw [w_loader]; exact hd)
    have controller : (leaveProvisional (asApplied sc) (withdrawScene sc (goodFrame s))).controller = s.controller := by simp
    refine ⟨finish_targetsCurrent controller hk current, finish_newTargets controller hk fun d hm hne => ?_⟩
    exact handed d hm (by rw [w_planner]; exact hne)

end Sys2Proof.Machine
end

section
/-! PROOFS. The layouts of frames read back (O51). -/

namespace Sys2Proof.Machine

/-! ### The pieces read back -/

theorem highByte_append_lowByte (w : BitVec 16) : highByte w ++ lowByte w = w := by
  apply BitVec.eq_of_getLsbD_eq
  intro i hi
  rw [BitVec.getLsbD_append]
  by_cases low : i < 8
  · simp [lowByte, low]
  · have : i - 8 < 8 := by omega
    have : 8 + (i - 8) = i := by omega
    simp [highByte, *]

theorem byte_toNat {k : Nat} (h : k ≤ 255) : (BitVec.ofNat 8 k).toNat = k := by
  rw [BitVec.toNat_ofNat]; exact Nat.mod_eq_of_lt (by omega)

theorem nibbles_toNat {hi lo : Nat} (hh : hi ≤ 15) (hl : lo ≤ 15) : (nibbles hi lo).toNat = hi * 16 + lo := by
  rw [nibbles, byte_toNat (by omega)]; omega

theorem nibbles_high {hi lo : Nat} (hh : hi ≤ 15) (hl : lo ≤ 15) : (nibbles hi lo).toNat / 16 = hi := by
  rw [nibbles_toNat hh hl]; omega

theorem nibbles_low {hi lo : Nat} (hh : hi ≤ 15) (hl : lo ≤ 15) : (nibbles hi lo).toNat % 16 = lo := by
  rw [nibbles_toNat hh hl]; omega

theorem byteOf_bits : ∀ b7 b6 b5 b4 b3 b2 b1 b0 : Bool,
    (byteOf b7 b6 b5 b4 b3 b2 b1 b0).getLsbD 7 = b7 ∧ (byteOf b7 b6 b5 b4 b3 b2 b1 b0).getLsbD 6 = b6 ∧
    (byteOf b7 b6 b5 b4 b3 b2 b1 b0).getLsbD 5 = b5 ∧ (byteOf b7 b6 b5 b4 b3 b2 b1 b0).getLsbD 4 = b4 ∧
    (byteOf b7 b6 b5 b4 b3 b2 b1 b0).getLsbD 3 = b3 ∧ (byteOf b7 b6 b5 b4 b3 b2 b1 b0).getLsbD 2 = b2 ∧
    (byteOf b7 b6 b5 b4 b3 b2 b1 b0).getLsbD 1 = b1 ∧ (byteOf b7 b6 b5 b4 b3 b2 b1 b0).getLsbD 0 = b0 := by
  decide

theorem byteOf_two_bits_lt (b1 b0 : Bool) : (byteOf false false false false false false b1 b0).toNat < 4 := by
  revert b1 b0; decide

theorem byteOf_one_bit_lt (b0 : Bool) : (byteOf false false false false false false false b0).toNat < 2 := by
  revert b0; decide

/-- A byte carries every value that its field can have (R177). -/
theorem fieldValue_fieldByte {f : Field} {v : Int} (h : f.carries v = true) : fieldValue f (fieldByte v) = v := by
  have signed (h : fitsSignedByte v = true) : (fieldByte v).toInt = v := by
    have range := of_decide_eq_true h
    rw [fieldByte, BitVec.toInt_ofInt]
    exact Int.bmod_eq_of_le (by omega) (by omega)
  have unsigned (h : fitsByte v = true) : ((fieldByte v).toNat : Int) = v := by
    have range := of_decide_eq_true h
    rw [fieldByte, BitVec.toNat_ofInt]
    omega
  cases f
  case fade | balance | bass | mid | treble => exact signed h
  case volume | preset | curve | speedStep | cabinMute => exact unsigned h

/-! ### A whole frame -/

theorem take_withCheck (bytes : List Byte) : (withCheck bytes).take ((withCheck bytes).length - 2) = bytes := by
  simp [withCheck, twoBytes]

theorem drop_withCheck (bytes : List Byte) : (withCheck bytes).drop ((withCheck bytes).length - 2) = twoBytes (crc16 bytes) := by
  simp [withCheck, twoBytes]

theorem endsWithCheck_withCheck (bytes : List Byte) : endsWithCheck (withCheck bytes) = true := by
  unfold endsWithCheck
  rw [drop_withCheck, take_withCheck]
  simp [twoBytes, highByte_append_lowByte, withCheck]

theorem readFrame_withCheck (key : Byte) (payload : List Byte) : readFrame (withCheck (key :: payload)) = frameOf key payload := by
  unfold readFrame
  rw [if_pos (endsWithCheck_withCheck _), take_withCheck]

section
variable {rank : Nat} (h : rank ≤ 15) (n : Station)
include h

theorem key_toNat : (BitVec.ofNat 8 (rank * 16 + n.val)).toNat = rank * 16 + n.val := byte_toNat (by omega)

theorem keyRank_key : keyRank (BitVec.ofNat 8 (rank * 16 + n.val)) = rank := by
  rw [keyRank, key_toNat h]; omega

theorem keySender_key : keySender (BitVec.ofNat 8 (rank * 16 + n.val)) = n := by
  refine Fin.ext ?_
  show (BitVec.ofNat 8 (rank * 16 + n.val)).toNat % 16 = n.val
  rw [key_toNat h]
  omega

end

section
variable (kind : FrameKind) (n : Station)

theorem kindOfRank_keyByte : kindOfRank (keyRank (keyByte kind n)) = some kind := by
  rw [keyByte, keyRank_key (by have := classRank_le kind; omega), kindOfRank_classRank]

theorem keySender_keyByte : keySender (keyByte kind n) = n := keySender_key (by have := classRank_le kind; omega) n

end

/-! ### OFFER -/

theorem readField_fieldIfPresent {f : Field} {v : Option Int} (h : ∀ x, v = some x → f.carries x = true) (l : List Byte) :
    readField f v.isSome (fieldIfPresent v ++ l) = some (v, l) := by
  cases v with
  | none => rfl
  | some x =>
    show some (some (fieldValue f (fieldByte x)), l) = _
    rw [fieldValue_fieldByte (h x rfl)]

theorem offer_wf_iff (o : Offer) : o.wf = true ↔ o.rank ≤ 255 ∧ ∀ f x, o.values.get f = some x → f.carries x = true := by
  simp only [Offer.wf, Bool.and_eq_true, decide_eq_true_eq, List.all_eq_true]
  refine and_congr_right fun _ => ⟨fun h f x e => ?_, fun h f _ => ?_⟩
  · have carried := h f (mem_allFields f)
    rw [e] at carried
    exact carried
  · split
    next => rfl
    next v e => exact h f v e

/-- The values of an OFFER, one after another, with the present set to tell which (R177). -/
theorem readValues_fields {p1 p0 : Byte} {v : PerField (Option Int)} (h : ∀ f x, v.get f = some x → f.carries x = true)
    (hv : p1.getLsbD 1 = (v.get .volume).isSome) (hf : p1.getLsbD 0 = (v.get .fade).isSome) (hb : p0.getLsbD 7 = (v.get .balance).isSome)
    (hs : p0.getLsbD 6 = (v.get .bass).isSome) (hm : p0.getLsbD 5 = (v.get .mid).isSome) (ht : p0.getLsbD 4 = (v.get .treble).isSome)
    (hp : p0.getLsbD 3 = (v.get .preset).isSome) (hc : p0.getLsbD 2 = (v.get .curve).isSome) (hk : p0.getLsbD 1 = (v.get .speedStep).isSome)
    (hu : p0.getLsbD 0 = (v.get .cabinMute).isSome) :
    readValues p1 p0 (fieldIfPresent (v.get .volume) ++ (fieldIfPresent (v.get .fade) ++ (fieldIfPresent (v.get .balance) ++ (fieldIfPresent (v.get .bass) ++
      (fieldIfPresent (v.get .mid) ++ (fieldIfPresent (v.get .treble) ++ (fieldIfPresent (v.get .preset) ++ (fieldIfPresent (v.get .curve) ++
        (fieldIfPresent (v.get .speedStep) ++ fieldIfPresent (v.get .cabinMute)))))))))) = some v := by
  have last := readField_fieldIfPresent (h .cabinMute) []
  rw [List.append_nil] at last
  unfold readValues
  rw [hv, hf, hb, hs, hm, ht, hp, hc, hk, hu]
  simp only [Option.bind_eq_bind, Option.bind_some, readField_fieldIfPresent (h .volume), readField_fieldIfPresent (h .fade), readField_fieldIfPresent (h .balance),
    readField_fieldIfPresent (h .bass), readField_fieldIfPresent (h .mid), readField_fieldIfPresent (h .treble),
    readField_fieldIfPresent (h .preset), readField_fieldIfPresent (h .curve), readField_fieldIfPresent (h .speedStep), last]
  rfl

theorem readOffer_offerPayload {o : Offer} (h : o.wf = true) : readOffer (offerPayload o) = some o := by
  obtain ⟨rank, carried⟩ := (offer_wf_iff o).1 h
  obtain ⟨-, -, -, -, -, -, volume, fade⟩ :=
    byteOf_bits false false false false false false o.values.volume.isSome o.values.fade.isSome
  obtain ⟨balance, bass, mid, treble, preset, curve, speedStep, cabinMute⟩ :=
    byteOf_bits o.values.balance.isSome o.values.bass.isSome o.values.mid.isSome o.values.treble.isSome o.values.preset.isSome
      o.values.curve.isSome o.values.speedStep.isSome o.values.cabinMute.isSome
  have values := readValues_fields carried volume fade balance bass mid treble preset curve speedStep cabinMute
  show (if _ then _ else _) = _
  rw [if_pos (byteOf_two_bits_lt _ _)]
  refine (congrArg (Option.map _) values).trans ?_
  rw [Option.map_some, highByte_append_lowByte, byte_toNat rank]

/-! ### SCENE -/

theorem readScene_scenePayload {sc : Scene} (h : sc.wf = true) : readScene (scenePayload sc) = some sc := by
  have carried (f : Field) : fieldValue f (fieldByte (sc.content.get f)) = sc.content.get f :=
    fieldValue_fieldByte (List.all_eq_true.1 h f (mem_allFields f))
  have origin : (nibbles 0 sc.origin.val).toNat = sc.origin.val := by
    rw [nibbles_toNat (Nat.zero_le _) (by omega)]; omega
  have content : PerField.of (fun f => fieldValue f (fieldByte (sc.content.get f))) = sc.content := by
    simp only [carried]; rfl
  show (if _ : _ then _ else _) = _
  rw [dif_pos (by rw [origin]; exact sc.origin.isLt)]
  refine congrArg some ?_
  rw [Scene.mk.injEq]
  exact ⟨highByte_append_lowByte _, content, Fin.ext origin, highByte_append_lowByte _⟩

/-! ### PRESENCE -/

theorem readDescriptors_descriptorBytes {l : List RawPeerDescriptor}
    (h : ∀ d ∈ l, d.channel ≤ 255 ∧ d.position ≤ 15 ∧ d.role ≤ 15) : readDescriptors (descriptorBytes l) = some l := by
  induction l with
  | nil => rfl
  | cons d rest ih =>
    obtain ⟨channel, position, role⟩ := h d List.mem_cons_self
    have tail := ih fun x hx => h x (List.mem_cons_of_mem _ hx)
    rw [descriptorBytes, readDescriptors, tail, byte_toNat channel, nibbles_high position role, nibbles_low position role]
    rfl

theorem length_descriptorBytes (l : List RawPeerDescriptor) : (descriptorBytes l).length = 2 * l.length := by
  induction l with
  | nil => rfl
  | cons d rest ih => simp only [descriptorBytes, List.length_cons, ih]; omega

/-- Two bytes and a presence bit carry an optional number. -/
theorem optionalWord {flag : Bool} {v : Option (BitVec 16)} (h : flag = v.isSome) :
    (if flag then some (highByte (v.getD 0) ++ lowByte (v.getD 0)) else none) = v := by
  rw [h]
  cases v with
  | none => rfl
  | some w => exact congrArg some (highByte_append_lowByte w)

theorem readPresence_presencePayload {f : PresenceFrame} (h : f.wf = true) : readPresence (presencePayload f) = some f := by
  have range := h
  simp only [PresenceFrame.wf, Bool.and_eq_true, decide_eq_true_eq, List.all_eq_true, beq_iff_eq] at range
  obtain ⟨⟨⟨⟨⟨⟨kind, state⟩, applied⟩, demand⟩, records⟩, count⟩, roster⟩ := range
  show (if _ then _ else _) = _
  rw [if_pos ⟨byteOf_two_bits_lt _ _, byteOf_one_bit_lt _, by rw [byte_toNat count]; exact length_descriptorBytes _⟩]
  refine (congrArg (Option.map _) (readDescriptors_descriptorBytes (l := f.roster) fun d hd => ?_)).trans ?_
  · obtain ⟨⟨channel, position⟩, role⟩ := roster d hd
    exact ⟨channel, position, role⟩
  refine congrArg some ?_
  rw [PresenceFrame.mk.injEq]
  obtain ⟨-, -, -, -, -, -, stagedFlag, appliedFlag⟩ :=
    byteOf_bits false false false false false false f.staged.isSome f.appliedGeneration.isSome
  refine ⟨byte_toNat kind, byte_toNat state, ?_, ?_, ?_, byte_toNat demand, ?_, ?_, rfl⟩
  · exact optionalWord appliedFlag
  · exact optionalWord (appliedFlag.trans applied)
  · exact optionalWord stagedFlag
  · simp only [PerChannel.toList, List.mem_cons, List.not_mem_nil, or_false, forall_eq_or_imp, forall_eq] at records
    obtain ⟨r0, r1, r2, r3, r4, r5, r6, r7⟩ := records
    rw [nibbles_high r0 r1, nibbles_low r0 r1, nibbles_high r2 r3, nibbles_low r2 r3, nibbles_high r4 r5, nibbles_low r4 r5,
      nibbles_high r6 r7, nibbles_low r6 r7]
  · obtain ⟨configBad, eqMemory, railFail, railHigh, railLow, railSag, thermalShut, thermalWarn⟩ :=
      byteOf_bits f.faults.configBad f.faults.eqMemory f.faults.railFail f.faults.railHigh f.faults.railLow f.faults.railSag
        f.faults.thermalShut f.faults.thermalWarn
    obtain ⟨-, -, -, -, -, -, -, numberConflict⟩ :=
      byteOf_bits false false false false false false false f.faults.numberConflict
    rw [configBad, eqMemory, railFail, railHigh, railLow, railSag, thermalShut, thermalWarn, numberConflict]

/-- Settles O51. -/
theorem layoutsReadBack : Obligations.LayoutsReadBack := by
  intro n
  refine ⟨fun o h => ?_, fun sc h => ?_, fun f h => ?_, fun kind payload ho hs hp => ?_, fun rank payload low high => ?_⟩
  · rw [offerBytes, readFrame_withCheck, frameOf, kindOfRank_keyByte, keySender_keyByte, readOffer_offerPayload h]
    rfl
  · rw [sceneBytes, readFrame_withCheck, frameOf, kindOfRank_keyByte, keySender_keyByte, readScene_scenePayload h]
    rfl
  · rw [presenceBytes, readFrame_withCheck, frameOf, kindOfRank_keyByte, keySender_keyByte, readPresence_presencePayload h]
    rfl
  · rw [readFrame_withCheck, frameOf, kindOfRank_keyByte, keySender_keyByte]
    cases kind with
    | offer => exact absurd rfl ho
    | scene => exact absurd rfl hs
    | presence => exact absurd rfl hp
    | _ => rfl
  · rw [readFrame_withCheck, frameOf, keyRank_key high, keySender_key high]
    have unknown : kindOfRank rank = none := by interval_cases rank <;> rfl
    rw [unknown]

end Sys2Proof.Machine
end
